-- ==== Sys2Proof/Word.lean ====
section
/-! DEFINITION. The words of the MU-2462: bytes and the register widths wider than a byte. Multi-byte
values are placed low byte first (section 11). -/

namespace Sys2Proof

/-- One register of the host window, one byte of a chain frame. -/
abbrev Byte := BitVec 8

/-- A register address of the host window, 0x0000..0x7FFF (R169). -/
abbrev RegAddr := BitVec 15

/-- A request tag, 0..15 (R83). -/
abbrev Tag := Fin 16

/-- A notice sequence, 0..15, counted modulo 16 (R22). -/
abbrev Seq := BitVec 4

end Sys2Proof
end

