-- ==== Sys2Proof/Syntax.lean ====
section
/-! DEFINITION. The commands of the MU-2462: one constructor of `Instr` per row of
spec/opcode_table.json, with the operands the row's rule names. -/

namespace Sys2Proof

/-- A chain port (chapter 2: two ports, built the same way). -/
inductive Port where
  | a
  | b
  deriving DecidableEq, Repr

/-- The other port: "Where it names the other port as well, that port is Y" (3.1). -/
def Port.other : Port → Port
  | .a => .b
  | .b => .a

/-- The one-byte clear-on-read counters of a port (R41); TIMEOUTS spans two registers and has a row
of its own. -/
inductive ByteCounter where
  | crcErrors
  | symbolErrors
  | lateReplies
  | strayReplies
  deriving DecidableEq, Repr

/-- Which byte of a two-byte cause or enable register: CAUSE0 or CAUSE1, ENABLE0 or ENABLE1
(section 11.3). -/
inductive CauseByte where
  | zero
  | one
  deriving DecidableEq, Repr

/-- How a frame on the line ended, as a chain port received it (R1): by a symbol error, or by its
end delimiter with the bytes between the delimiters, from the kind byte to the last CRC byte. The data
symbols of a frame are taken to be whole bytes: the spec does not say how a frame with bits left over
before its end delimiter is judged, and the model admits none (DESIGN CHOICE, log 36). -/
inductive Reception where
  | symbolError
  | content (bytes : List Byte)
  deriving DecidableEq, Repr

/-- The commands. A host command's byte and register are fixed by its row; the other operands are
what the row's event carries. -/
inductive Instr where
  -- host commands: a byte written to CMD (R172)
  | submit
  | cancel
  | popCompletion
  | popNotice
  | startCensus
  | abortCensus
  | acceptRoster
  | clearAllChanged
  | softReset
  | unknownCommand (code : Byte)
  -- host register writes (R170)
  | setWatch
  | clearWatch
  | clearChanged
  | mirrorCtrlUndefinedAction (code : Byte)
  | rosterSelWrite (value : Byte)
  | mirrorSelWrite (value : Byte)
  | causeClear (which : CauseByte) (value : Byte)
  | enableWrite (which : CauseByte) (value : Byte)
  | portEnableSet (port : Port) (control : Byte)
  | portEnableClear (port : Port) (control : Byte)
  | sweepEnableOn (control : Byte)
  | sweepEnableOff (control : Byte)
  | replyBaseLowWrite (value : Byte)
  | replyBaseHighWrite (value : Byte)
  | registerWrite (addr : RegAddr) (value : Byte)
  -- host reads with an effect (R170)
  | counterRead (port : Port) (counter : ByteCounter)
  | timeoutsLowRead (port : Port)
  | msecTimerLowRead
  | dupNoticesRead
  -- SPI port and reset pin (R169, R180)
  | csnFall
  | headerComplete (header : BitVec 16)
  | csnRise
  | resetnLow
  | resetnHigh
  -- link of a port (R26..R28)
  | signalDetected (port : Port)
  | idleRunComplete (port : Port)
  | aligningSignalLoss (port : Port)
  | signalAbsent (port : Port)
  | signalReturn (port : Port)
  | signalLossTimerExpiry (port : Port)
  -- exchange of a port (R31..R37, R103)
  | arbiterHand (port : Port)
  | frameSent (port : Port)
  | replyWindowExpiry (port : Port)
  | frameReceived (port : Port) (reception : Reception)
  | lateFrame (port : Port) (reception : Reception)
  -- census, timers, reach checks
  | censusClear
  | releaseSettleExpiry
  | censusStop
  | backoffExpiry (tag : Tag)
  | msecTick
  | probingBegin (port : Port)
  | startDelimiterReceived (port : Port)
  | idleRunReset (port : Port)
  deriving DecidableEq, Repr

end Sys2Proof
end

