-- ==== Sys2Proof/Machine/Crc.lean ====
section
/-! DEFINITION. The two check values: the frame CRC of R4 and the fingerprint CRC of R57. -/

namespace Sys2Proof.Machine

/-- One bit of the CRC of R4: generator 0x1021, most significant bit first. -/
def crc16Bit (c : BitVec 16) : BitVec 16 :=
  if c.msb then (c <<< 1) ^^^ 0x1021#16 else c <<< 1

/-- One byte of the CRC of R4, not reflected. -/
def crc16Byte (c : BitVec 16) (b : Byte) : BitVec 16 :=
  Nat.iterate crc16Bit 8 (c ^^^ (b ++ 0#8))

/-- The frame CRC (R4): preset 0xFFFF, no final XOR. -/
def crc16 (bytes : List Byte) : BitVec 16 :=
  bytes.foldl crc16Byte 0xFFFF#16

/-- One bit of the CRC of R57: generator 0x04C11DB7 taken least significant bit first, which is
0xEDB88320 with its bits in the reflected order. -/
def crc32Bit (c : BitVec 32) : BitVec 32 :=
  if c.getLsbD 0 then (c >>> 1) ^^^ 0xEDB88320#32 else c >>> 1

/-- One byte of the CRC of R57, reflected. -/
def crc32Byte (c : BitVec 32) (b : Byte) : BitVec 32 :=
  Nat.iterate crc32Bit 8 (c ^^^ b.setWidth 32)

/-- The fingerprint CRC (R57): preset and final XOR 0xFFFFFFFF. -/
def crc32 (bytes : List Byte) : BitVec 32 :=
  bytes.foldl crc32Byte 0xFFFFFFFF#32 ^^^ 0xFFFFFFFF#32

end Sys2Proof.Machine
end

