-- ==== Sys2Proof/Config.lean ====
section
/-! DEFINITION. What silicon revision A fixes (key figures 1.5, R176) and the free values: what the
spec leaves open, as constants with no body, so that nothing can be proved of them. -/

namespace Sys2Proof

/-- What SDO carries (R169). -/
inductive Sdo where
  | highZ
  | byte (value : Byte)
  deriving DecidableEq, Repr, Inhabited

namespace Config

/-- The highest module address (R3). -/
def lastAddress : Nat := 62

/-- The broadcast address (R3). -/
def broadcast : Nat := 63

/-- Records the notice queue holds at most (R142). -/
def noticePlaces : Nat := 32

/-- CHIP_ID (R176). -/
def chipId : BitVec 16 := 0x2462

/-- CHIP_REV (R176). -/
def chipRev : Byte := 0x01

/-- Idle symbols in an unbroken run that bring a link UP (R27). -/
def alignRun : Nat := 64

/-- FREE VALUE (log 11): whether the start delimiter of the frame being sent had gone out when the
link left UP (R39). Indexed by `State.freeCount`. -/
opaque startDelimiterOut : Nat → Bool

/-- FREE VALUE (log 12): when a port leaves UP during the other port's REROUTING, both checks have
something to decide in that step; whether the leaving port's own check goes first (R165 gives the
outcome of either). Indexed by `State.freeCount`. -/
opaque leavingPortFirst : Nat → Bool

/-- FREE VALUE (log 13): whether a frame with more bytes than its payload length and CRC account for
is taken as damaged. -/
opaque overlongFrameDamaged : List Byte → Bool

/-- FREE VALUE (log 8): what SDO carries while the port waits in WAIT_HIGH with CSn low. -/
opaque sdoInWaitHigh : Sdo

end Config

end Sys2Proof
end

