-- ==== Sys2Proof/Machine/State.lean ====
section
/-! DEFINITION. The state of the MU-2462 as plain data, the machine right after reset, and the
reasons a step could stop. The layout follows the blocks of 00_scope.md 1.3. -/

namespace Sys2Proof.Machine

/-! ## Two of a kind -/

/-- One value for port A and one for port B. -/
structure Pair (α : Type) where
  a : α
  b : α
  deriving DecidableEq, Repr

/-- The value of a port. -/
def Pair.get {α : Type} (x : Pair α) : Port → α
  | .a => x.a
  | .b => x.b

/-- The pair with one port's value replaced. -/
def Pair.set {α : Type} (x : Pair α) (p : Port) (v : α) : Pair α :=
  match p with
  | .a => { x with a := v }
  | .b => { x with b := v }

/-! ## Frames and exchanges (chapters 1 and 2) -/

/-- The frame kinds of section 1.2. -/
inductive Kind where
  | release
  | claim
  | probe
  | read
  | write
  | bcastWrite
  | poll
  | fetch
  | restart
  | ident
  | ack
  | nak
  | data
  | status
  | notice
  deriving DecidableEq, Repr

/-- A frame's contents (R2). The register stands only in READ, WRITE and BCAST_WRITE; it is 0 in the
other kinds and not sent. -/
structure Frame where
  kind : Kind
  control : BitVec 4
  dest : Nat
  source : Nat
  register : Byte
  payload : List Byte
  deriving DecidableEq, Repr

/-- The block and the work an exchange belongs to (R31). -/
inductive Owner where
  /-- a RELEASE or a CLAIM of the census -/
  | census
  /-- a PROBE of the reach check of that port (in PROBING on the port itself, in REROUTING on the
  other) -/
  | check (port : Port)
  /-- an attempt of a targeted slot (R109) -/
  | attempt (tag : Tag)
  /-- the resynchronising PROBE of a WRITE slot (R117) -/
  | resync (tag : Tag)
  /-- a frame of a BCAST_WRITE slot (R121) -/
  | bcast (tag : Tag)
  /-- a POLL of the sweep -/
  | poll (addr : Nat)
  /-- a FETCH of the sweep -/
  | fetch (addr : Nat)
  deriving DecidableEq, Repr

/-- What the port records of the frame it was handed (R31). -/
structure Xfer where
  frame : Frame
  hops : Nat
  owner : Owner
  deriving DecidableEq, Repr

/-- The exchange part of a port (section 2.2). AWAITING keeps the window's length in microseconds,
computed once when it opens (R32), and whether it has run out while a frame is received (R36). -/
inductive Exchange where
  | held
  | idle
  | sending (xfer : Xfer)
  | awaiting (xfer : Xfer) (windowUs : Nat) (ranOut : Bool)
  deriving DecidableEq, Repr

/-- Link states (section 2.1). -/
inductive LinkState where
  | disabled
  | down
  | aligning
  | up
  deriving DecidableEq, Repr

/-- Whether the port is receiving a frame, and whether its start delimiter was received in AWAITING
(the frame belongs to the exchange, R34) or in IDLE (to no exchange, R37). -/
inductive Receiving where
  | nothing
  | ofExchange
  | outside
  deriving DecidableEq, Repr

/-- A chain port: its link, its exchange and its five counters (chapter 2). -/
structure ChainPort where
  link : LinkState
  idleRun : Nat
  lossTimer : Bool
  exch : Exchange
  rx : Receiving
  crcErrors : Nat
  symbolErrors : Nat
  timeouts : Nat
  lateReplies : Nat
  strayReplies : Nat
  timeoutsHold : Byte
  deriving DecidableEq, Repr

/-- How an exchange ends (R38). LINK_LOST says whether any part of the frame went out. -/
inductive PortOutcome where
  | reply (frame : Frame)
  | sent
  | timeout
  | crcError
  | symbolError
  | linkLost (sentInPart : Bool)
  deriving DecidableEq, Repr

/-! ## Roster (chapter 3) -/

/-- The identity descriptor (R8). -/
structure Identity where
  maker : BitVec 16
  typeCode : BitVec 16
  serial : BitVec 48
  revision : Byte
  noticeCapable : Bool
  recordMax : Nat
  deriving DecidableEq, Repr

/-- Entry states (R44). -/
inductive EntryState where
  | vacant
  | active
  | suspect
  | lost
  deriving DecidableEq, Repr

/-- The write toggle the chip will use next, or UNSURE (R47). -/
inductive Toggle where
  | zero
  | one
  | unsure
  deriving DecidableEq, Repr

/-- A roster entry (R43). `route` NONE and `lastSeq` NONE are `none`. -/
structure RosterEntry where
  state : EntryState
  identity : Option Identity
  hops : Pair (Option Nat)
  route : Option Port
  failCount : Nat
  toggle : Toggle
  lastSeq : Option Seq
  lostMark : Bool
  deriving DecidableEq, Repr

/-- The values of a VACANT entry (R43). -/
def RosterEntry.vacant : RosterEntry :=
  { state := .vacant, identity := none, hops := { a := none, b := none }, route := none,
    failCount := 0, toggle := .zero, lastSeq := none, lostMark := false }

/-- Roster states (R51). -/
inductive RosterState where
  | empty
  | building
  | valid
  | partly
  deriving DecidableEq, Repr

/-- Ring states (R52). -/
inductive RingState where
  | unknown
  | opened
  | closed
  | broken
  deriving DecidableEq, Repr

/-! ## Census (chapter 4) -/

/-- Census states (R62). -/
inductive CensusState where
  | idle
  | draining
  | releasing
  | walkA
  | walkB
  deriving DecidableEq, Repr

/-- Census results (R62). -/
inductive CensusResult where
  | none
  | ok
  | exceeded
  | failed
  | aborted
  deriving DecidableEq, Repr

/-- Census reasons (R62). -/
inductive CensusReason where
  | none
  | noPort
  | portLost
  | staleAddress
  | ringConflict
  deriving DecidableEq, Repr

/-- The causes a stop can have (R79). -/
inductive StopCause where
  | aborted
  | failed (reason : CensusReason)
  deriving DecidableEq, Repr

/-- The census controller (R62). `released` says on which ports the RELEASE has ended SENT and
`settleTimer` whether the 2 ms settle runs (R69). -/
structure Census where
  state : CensusState
  result : CensusResult
  reason : CensusReason
  ports : Pair Bool
  nextAddr : Nat
  position : Nat
  tries : Nat
  stopPending : Option StopCause
  released : Pair Bool
  settleTimer : Bool
  deriving DecidableEq, Repr

/-- The census controller after either reset (R62, R82). -/
def Census.reset : Census :=
  { state := .idle, result := .none, reason := .none, ports := { a := false, b := false },
    nextAddr := 0, position := 0, tries := 0, stopPending := none,
    released := { a := false, b := false }, settleTimer := false }

/-! ## Requests (chapter 5) -/

/-- Slot states (R84). -/
inductive SlotState where
  | free
  | queued
  | active
  | waitingRetry
  | done
  deriving DecidableEq, Repr

/-- The five request kinds (R83). -/
inductive ReqKind where
  | read
  | write
  | bcastWrite
  | probe
  | restart
  deriving DecidableEq, Repr

/-- What a slot's attempts have shown (R87). -/
inductive History where
  | notSent
  | sentNoReply
  | naked
  | acked
  deriving DecidableEq, Repr

/-- Status codes (R95). -/
inductive Status where
  | ok
  | rejected
  | timeout
  | busyExhausted
  | unreachable
  | rosterChanged
  | refusedLock
  | cancelled
  | noModule
  | badRequest
  | identityMismatch
  deriving DecidableEq, Repr

/-- Whether the request's action took place at the module (R94). -/
inductive Effect where
  | notApplied
  | applied
  | unknown
  deriving DecidableEq, Repr

/-- The outcome of a DONE slot (R83, R93). The data length is the length of `data`. -/
structure Completion where
  status : Status
  effect : Effect
  lateCancel : Bool
  data : List Byte
  epoch : Byte
  deriving DecidableEq, Repr

/-- A request slot (R83). `kindCode` is the code as written in MBX_KIND, which the record carries
(R93). `backoff` is the slot's busy backoff timer with its length in microseconds (R114).
`flushWithOlder` marks a slot QUEUED at START_CENSUS behind an ACTIVE slot of its target (R65). -/
structure Slot where
  state : SlotState
  kindCode : Byte
  target : Option Nat
  register : Byte
  length : Nat
  writeData : List Byte
  seq : BitVec 32
  attempts : Nat
  busyCount : Nat
  history : History
  toggleUsed : Option Bool
  bcastPorts : Pair Bool
  bcastSent : Bool
  cancelRequested : Bool
  outcome : Option Completion
  backoff : Option Nat
  flushWithOlder : Bool
  deriving DecidableEq, Repr

/-- A FREE slot: all fields cleared (R83). -/
def Slot.free : Slot :=
  { state := .free, kindCode := 0, target := none, register := 0, length := 0, writeData := [],
    seq := 0, attempts := 0, busyCount := 0, history := .notSent, toggleUsed := none,
    bcastPorts := { a := false, b := false }, bcastSent := false, cancelRequested := false,
    outcome := none, backoff := none, flushWithOlder := false }

/-- The mailbox (R88). -/
structure Mailbox where
  kind : Byte
  target : Byte
  register : Byte
  length : Byte
  data : Vector Byte 32
  deriving DecidableEq, Repr

/-- The mailbox after either reset (R88). -/
def Mailbox.reset : Mailbox :=
  { kind := 0, target := 0, register := 0, length := 0, data := Vector.replicate 32 0 }

/-- SUBMIT_RESULT (R89). -/
inductive SubmitResult where
  | none
  | accepted (tag : Tag)
  | full
  deriving DecidableEq, Repr

/-! ## Dispatch engine (chapter 6) -/

/-- The turn marker of a port (R104). -/
inductive Turn where
  | host
  | sweep
  deriving DecidableEq, Repr

/-! ## Mirror (chapter 7) -/

/-- Mirror entry states (R125). -/
inductive MirrorState where
  | empty
  | fresh
  | stale
  deriving DecidableEq, Repr

/-- A module's health (R9). -/
inductive Health where
  | ok
  | warn
  | fault
  deriving DecidableEq, Repr

/-- A status record (R9): its kind, 0..15, and its data, 0..16 bytes. -/
structure StatusRecord where
  kind : BitVec 4
  data : List Byte
  deriving DecidableEq, Repr

/-- A mirror entry (R124). -/
structure MirrorEntry where
  state : MirrorState
  health : Health
  record : Option StatusRecord
  pendingCount : Nat
  fetchWanted : Bool
  age : Nat
  missCount : Nat
  changed : Bool
  watch : Bool
  lostMark : Bool
  deriving DecidableEq, Repr

/-- An EMPTY entry with its flags clear (R124, R139). -/
def MirrorEntry.empty : MirrorEntry :=
  { state := .empty, health := .ok, record := none, pendingCount := 0, fetchWanted := false,
    age := 0, missCount := 0, changed := false, watch := false, lostMark := false }

/-! ## Notices (chapter 8) -/

/-- A notice record (R141). The payload length is the length of `payload`. -/
structure NoticeRecord where
  source : Nat
  epoch : Byte
  seq : Seq
  code : Byte
  payload : List Byte
  gap : Bool
  arrival : BitVec 16
  deriving DecidableEq, Repr

/-! ## Reach checks (chapter 9) -/

/-- Check states (R155). -/
inductive CheckState where
  | idle
  | probing
  | rerouting
  deriving DecidableEq, Repr

/-- Check results (R155). -/
inductive CheckResult where
  | none
  | noBreak
  | brk
  deriving DecidableEq, Repr

/-- The decision made for a cut-off module (R155). -/
inductive Mark where
  | pending
  | rerouted
  | lost
  deriving DecidableEq, Repr

/-- One member of a cut-off list. -/
structure CutOff where
  addr : Nat
  mark : Mark
  deriving DecidableEq, Repr

/-- The reach check of a port (R155). `begun` says that the probe list has been fixed (R159);
`deciding` names the cut-off module whose re-route probe is ready or in flight (R162). -/
structure Check where
  state : CheckState
  trigger : Nat
  probeList : List Nat
  cursor : Nat
  tries : Nat
  breakLocation : Nat
  cutOff : List CutOff
  result : CheckResult
  rerouted : Nat
  lost : Nat
  begun : Bool
  deciding : Option Nat
  deriving DecidableEq, Repr

/-- A reach check after either reset (R155). -/
def Check.reset : Check :=
  { state := .idle, trigger := 0, probeList := [], cursor := 0, tries := 0, breakLocation := 0,
    cutOff := [], result := .none, rerouted := 0, lost := 0, begun := false, deciding := none }

/-! ## Host port (chapter 10) -/

/-- SPI transaction states (R169). DATA keeps the direction of the header's read/write flag. -/
inductive SpiState where
  | idle
  | header
  | data (read : Bool)
  | waitHigh
  deriving DecidableEq, Repr

/-- The reasons of a refused command (R172). -/
inductive RefuseReason where
  | busy
  | idle
  | empty
  | state
  | noSuchTag
  | unknown
  deriving DecidableEq, Repr

/-- CMD_RESULT (R172). -/
inductive CmdResult where
  | none
  | done
  | refused (reason : RefuseReason)
  deriving DecidableEq, Repr

/-- The parameters of R174, but for the port enables (which are the link states, log 29) and the
interrupt enables. -/
structure Params where
  replyBase : Nat
  hopAllow : Nat
  retryLimit : Nat
  busyLimit : Nat
  busyBackoff : Nat
  faultLimit : Nat
  sweepPeriod : Nat
  staleLimit : Nat
  sweepEnable : Bool
  expectEnable : Bool
  expectedFp : BitVec 32
  deriving DecidableEq, Repr

/-- The defaults of R174. -/
def Params.reset : Params :=
  { replyBase := 100, hopAllow := 8, retryLimit := 3, busyLimit := 8, busyBackoff := 10,
    faultLimit := 4, sweepPeriod := 20, staleLimit := 3, sweepEnable := false,
    expectEnable := false, expectedFp := 0 }

/-- The pending indications of the eight sticky causes (R177). -/
structure StickyBits where
  noticeBacklog : Bool
  moduleStale : Bool
  portChange : Bool
  reachDone : Bool
  moduleLost : Bool
  cmdError : Bool
  censusDone : Bool
  lockHeld : Bool
  deriving DecidableEq, Repr

/-- No sticky cause pending. -/
def StickyBits.clear : StickyBits :=
  { noticeBacklog := false, moduleStale := false, portChange := false, reachDone := false,
    moduleLost := false, cmdError := false, censusDone := false, lockHeld := false }

/-- The enable bits of the eleven causes (R179). -/
structure EnableBits where
  completionReady : Bool
  noticePending : Bool
  noticeBacklog : Bool
  mirrorChange : Bool
  moduleStale : Bool
  portChange : Bool
  reachDone : Bool
  moduleLost : Bool
  cmdError : Bool
  censusDone : Bool
  lockHeld : Bool
  deriving DecidableEq, Repr

/-- Every enable off (R179). -/
def EnableBits.off : EnableBits :=
  { completionReady := false, noticePending := false, noticeBacklog := false,
    mirrorChange := false, moduleStale := false, portChange := false, reachDone := false,
    moduleLost := false, cmdError := false, censusDone := false, lockHeld := false }

/-! ## The state -/

/-- The state of the chip, block by block, and at its end the model's own two fields: `freeCount`
indexes the free values of Config (log 27), `pending` is the queue of commands (log 1). -/
structure State where
  inReset : Bool
  csnHigh : Bool
  spi : SpiState
  addrCounter : RegAddr
  sdoByte : Byte
  cmd : Byte
  cmdResult : CmdResult
  params : Params
  replyBaseHold : Byte
  msecHold : Byte
  sticky : StickyBits
  enables : EnableBits
  ports : Pair ChainPort
  roster : Vector RosterEntry 62
  rosterState : RosterState
  ringState : RingState
  tails : Pair Nat
  exceeded : Bool
  lockHeld : Bool
  epoch : Byte
  fingerprint : BitVec 32
  rosterSel : Byte
  rosterWindow : RosterEntry
  census : Census
  mailbox : Mailbox
  slots : Vector Slot 16
  submissionCounter : BitVec 32
  completionQueue : List Tag
  submitResult : SubmitResult
  cancelTag : Byte
  markers : Pair Turn
  followUps : Pair (Option Tag)
  mirror : Vector MirrorEntry 62
  cursors : Pair Nat
  msecTimer : BitVec 16
  mirrorSel : Byte
  mirrorWindow : MirrorEntry
  notices : List NoticeRecord
  reservations : Pair (Option Nat)
  dupNotices : Nat
  checks : Pair Check
  freeCount : Nat
  pending : List Instr
  deriving DecidableEq, Repr

/-- A chain port after a hardware reset: DOWN, HELD, counters 0 (R25, R30, R42). -/
def ChainPort.reset : ChainPort :=
  { link := .down, idleRun := 0, lossTimer := false, exch := .held, rx := .nothing,
    crcErrors := 0, symbolErrors := 0, timeouts := 0, lateReplies := 0, strayReplies := 0,
    timeoutsHold := 0 }

/-- The machine right after a hardware reset, RESETn just returned high (R180 and the reset rules of
each block). CSn is high (log 7); the address counter and the SDO byte are 0 (logs 8, 10). -/
def State.reset : State :=
  { inReset := false
    csnHigh := true
    spi := .waitHigh
    addrCounter := 0
    sdoByte := 0
    cmd := 0
    cmdResult := .none
    params := Params.reset
    replyBaseHold := 0x64
    msecHold := 0
    sticky := StickyBits.clear
    enables := EnableBits.off
    ports := { a := ChainPort.reset, b := ChainPort.reset }
    roster := Vector.replicate 62 RosterEntry.vacant
    rosterState := .empty
    ringState := .unknown
    tails := { a := 0, b := 0 }
    exceeded := false
    lockHeld := false
    epoch := 0
    fingerprint := 0
    rosterSel := 0
    rosterWindow := RosterEntry.vacant
    census := Census.reset
    mailbox := Mailbox.reset
    slots := Vector.replicate 16 Slot.free
    submissionCounter := 0
    completionQueue := []
    submitResult := .none
    cancelTag := 0
    markers := { a := .sweep, b := .sweep }
    followUps := { a := none, b := none }
    mirror := Vector.replicate 62 MirrorEntry.empty
    cursors := { a := 0, b := 0 }
    msecTimer := 0
    mirrorSel := 0
    mirrorWindow := MirrorEntry.empty
    notices := []
    reservations := { a := none, b := none }
    dupNotices := 0
    checks := { a := Check.reset, b := Check.reset }
    freeCount := 0
    pending := [] }

/-- Reasons a step stops the machine. None: the spec names no event that stops the chip; every error
it describes is an effect on the state. -/
inductive Fault where
  deriving DecidableEq, Repr

/-- Reasons the model gives no meaning. -/
inductive Refusal where
  /-- The row has no meaning yet. Raised by no arm of `exec`: every row has its meaning. Safe. -/
  | notModelled (mnemonic : String)
  deriving DecidableEq, Repr

end Sys2Proof.Machine
end

