-- ==== Sys2Proof/Machine/Frames.lean ====
section
/-! DEFINITION. The chain frame as bytes (section 11.1): how the chip writes one, how it judges one it
receives (R4, R7, R181), and the payloads of IDENT, STATUS, NOTICE and NAK (R6, R8, R9, R10). -/

namespace Sys2Proof.Machine

/-! ## Kinds -/

/-- The kind codes of section 11.1. -/
def Kind.code : Kind → BitVec 4
  | .release => 1
  | .claim => 2
  | .probe => 3
  | .read => 4
  | .write => 5
  | .bcastWrite => 6
  | .poll => 7
  | .fetch => 8
  | .restart => 9
  | .ident => 10
  | .ack => 11
  | .nak => 12
  | .data => 13
  | .status => 14
  | .notice => 15

/-- The kind of a code; code 0 names none (R181). -/
def Kind.ofCode (c : BitVec 4) : Option Kind :=
  match c.toNat with
  | 1 => some .release
  | 2 => some .claim
  | 3 => some .probe
  | 4 => some .read
  | 5 => some .write
  | 6 => some .bcastWrite
  | 7 => some .poll
  | 8 => some .fetch
  | 9 => some .restart
  | 10 => some .ident
  | 11 => some .ack
  | 12 => some .nak
  | 13 => some .data
  | 14 => some .status
  | 15 => some .notice
  | _ => none

/-- Whether byte 3 is the register, told from the kind code (R181): READ, WRITE and BCAST_WRITE. -/
def codeHasRegister (c : BitVec 4) : Bool :=
  c == 4 || c == 5 || c == 6

/-- The six module-to-head kinds (section 1.2). -/
def Kind.fromModule : Kind → Bool
  | .ident | .ack | .nak | .data | .status | .notice => true
  | _ => false

/-- The two kinds without a reply (R32). -/
def Kind.noReply : Kind → Bool
  | .release | .bcastWrite => true
  | _ => false

/-- The payload lengths section 1.2 gives for each kind. -/
def Kind.lengthOk (k : Kind) (n : Nat) : Bool :=
  match k with
  | .release | .probe | .restart | .ack => n == 0
  | .claim | .read | .nak => n == 1
  | .write | .bcastWrite | .data => decide (1 ≤ n ∧ n ≤ 32)
  | .poll | .fetch => decide (n ≤ 1)
  | .ident => n == 12
  | .status => decide (1 ≤ n ∧ n ≤ 18)
  | .notice => decide (1 ≤ n ∧ n ≤ 9)

/-! ## Writing a frame -/

/-- The bytes the CRC covers: byte 0 to the last payload byte (R4, section 11.1). -/
def Frame.body (f : Frame) : List Byte :=
  [f.kind.code ++ f.control, BitVec.ofNat 8 f.dest, BitVec.ofNat 8 f.source]
    ++ (if codeHasRegister f.kind.code then [f.register] else [])
    ++ [BitVec.ofNat 8 f.payload.length] ++ f.payload

/-- The frame as it goes out between the delimiters, the CRC low byte first (R4). -/
def Frame.wire (f : Frame) : List Byte :=
  let c := crc16 f.body
  f.body ++ [c.setWidth 8, (c >>> 8).setWidth 8]

/-! ## Judging a received frame -/

/-- The fields of received bytes, before they are judged. -/
structure RawFrame where
  code : BitVec 4
  control : BitVec 4
  destByte : Byte
  sourceByte : Byte
  register : Byte
  payload : List Byte
  body : List Byte
  crc : BitVec 16
  overlong : Bool
  deriving DecidableEq, Repr

/-- The fields from the payload length on. `none` when the bytes end before the payload length, the
payload or the two CRC bytes (R181). -/
def rawTail (b0 b1 b2 register : Byte) (head rest : List Byte) : Option RawFrame :=
  match rest with
  | [] => none
  | len :: tail =>
    match tail.drop len.toNat with
    | lo :: hi :: extra =>
      some { code := b0.extractLsb' 4 4, control := b0.extractLsb' 0 4, destByte := b1,
             sourceByte := b2, register := register, payload := tail.take len.toNat,
             body := head ++ (len :: tail.take len.toNat), crc := hi ++ lo,
             overlong := !extra.isEmpty }
    | _ => none

/-- The fields of received bytes; byte 3 is the register in the kinds that have one (R181). -/
def rawFrame (bytes : List Byte) : Option RawFrame :=
  match bytes with
  | b0 :: b1 :: b2 :: rest =>
    if codeHasRegister (b0.extractLsb' 4 4) then
      match rest with
      | [] => none
      | r :: rest' => rawTail b0 b1 b2 r [b0, b1, b2, r] rest'
    else rawTail b0 b1 b2 0 [b0, b1, b2] rest
  | _ => none

/-- A byte of a payload; 0 beyond its end. -/
def payloadByte (payload : List Byte) (i : Nat) : Byte := payload.getD i 0

/-- The coded fields of a module-to-head frame hold defined values (R181). -/
def codedFieldsOk (k : Kind) (control : BitVec 4) (payload : List Byte) : Bool :=
  match k with
  | .ident =>
    decide (control.toNat ≤ 1) && (payloadByte payload 11).extractLsb' 5 2 == 0
      && decide (((payloadByte payload 11).extractLsb' 0 5).toNat ≤ 16)
  | .nak => decide (1 ≤ (payloadByte payload 0).toNat ∧ (payloadByte payload 0).toNat ≤ 4)
  | .status =>
    decide (((payloadByte payload 0).extractLsb' 0 2).toNat ≤ 2)
      && (payloadByte payload 0).extractLsb' 5 3 == 0
      && (decide (payload.length = 1) || (payloadByte payload 1).extractLsb' 4 4 == 0)
  | _ => true

/-- A module-to-head frame is well coded (R181). -/
def RawFrame.wellCoded (r : RawFrame) (k : Kind) : Bool :=
  r.destByte.extractLsb' 6 2 == 0 && r.sourceByte.extractLsb' 6 2 == 0
    && k.lengthOk r.payload.length && codedFieldsOk k r.control r.payload

/-- What the chip makes of a received frame. -/
inductive Judged where
  /-- bad CRC, or a malformed frame of a module-to-head kind or of no kind (R7, R181) -/
  | damaged
  /-- good CRC, a head-to-module kind: discarded (R7) -/
  | headKind
  /-- good CRC, a well-coded module-to-head frame -/
  | good (frame : Frame)
  deriving DecidableEq, Repr

/-- Judging received bytes (R4, R7, R181). An overlong frame follows the free value of log 13. -/
def judge (bytes : List Byte) : Judged :=
  match rawFrame bytes with
  | none => .damaged
  | some r =>
    if (r.overlong && Config.overlongFrameDamaged bytes) || r.crc != crc16 r.body then .damaged
    else
      match Kind.ofCode r.code with
      | none => .damaged
      | some k =>
        if k.fromModule then
          if r.wellCoded k then
            .good { kind := k, control := r.control, dest := r.destByte.toNat,
                    source := r.sourceByte.toNat, register := 0, payload := r.payload }
          else .damaged
        else .headKind

/-- A well-coded module-to-head frame, as a frame value (R181, section 1.2). -/
def Frame.fromModuleOk (f : Frame) : Bool :=
  f.kind.fromModule && decide (f.dest ≤ 63) && decide (f.source ≤ 63) && f.register == 0
    && f.kind.lengthOk f.payload.length && codedFieldsOk f.kind f.control f.payload

/-! ## Payloads -/

/-- NAK reasons (R6). -/
inductive NakReason where
  | busy
  | badReg
  | badLen
  | badKind
  deriving DecidableEq, Repr

/-- The reason of a well-coded NAK: 1 BUSY, 2 BAD_REG, 3 BAD_LEN, 4 BAD_KIND (section 11.1). -/
def nakReason (f : Frame) : NakReason :=
  match (payloadByte f.payload 0).toNat with
  | 1 => .busy
  | 2 => .badReg
  | 3 => .badLen
  | _ => .badKind

/-- IDENT "fresh" has form 0 in its control field, "assigned" form 1 (section 11.1). -/
def identFresh (f : Frame) : Bool := f.control == 0

/-- The descriptor of an IDENT payload (R8, section 11.1). -/
def Identity.ofBytes (p : List Byte) : Identity :=
  { maker := payloadByte p 1 ++ payloadByte p 0
    typeCode := payloadByte p 3 ++ payloadByte p 2
    serial := payloadByte p 9 ++ payloadByte p 8 ++ payloadByte p 7 ++ payloadByte p 6
      ++ payloadByte p 5 ++ payloadByte p 4
    revision := payloadByte p 10
    noticeCapable := (payloadByte p 11).getLsbD 7
    recordMax := ((payloadByte p 11).extractLsb' 0 5).toNat }

/-- The six bytes of a serial, low byte first (R8). -/
def serialBytes (x : BitVec 48) : List Byte :=
  [x.extractLsb' 0 8, x.extractLsb' 8 8, x.extractLsb' 16 8, x.extractLsb' 24 8,
   x.extractLsb' 32 8, x.extractLsb' 40 8]

/-- The twelve bytes of a descriptor in the order of R8. -/
def Identity.bytes (i : Identity) : List Byte :=
  [i.maker.extractLsb' 0 8, i.maker.extractLsb' 8 8,
   i.typeCode.extractLsb' 0 8, i.typeCode.extractLsb' 8 8] ++ serialBytes i.serial
    ++ [i.revision, BitVec.ofBool i.noticeCapable ++ (0#2 ++ BitVec.ofNat 5 i.recordMax)]

/-- The identities agree in maker code, type code and serial (R110). -/
def Identity.sameModule (x y : Identity) : Bool :=
  x.maker == y.maker && x.typeCode == y.typeCode && x.serial == y.serial

/-- A status report (R9). -/
structure StatusReport where
  health : Health
  pendingCount : Nat
  record : Option StatusRecord
  deriving DecidableEq, Repr

/-- The report of a well-coded STATUS payload (R9, section 11.1). -/
def StatusReport.ofBytes (p : List Byte) : StatusReport :=
  let b := payloadByte p 0
  { health := match (b.extractLsb' 0 2).toNat with
      | 0 => .ok
      | 1 => .warn
      | _ => .fault
    pendingCount := (b.extractLsb' 2 3).toNat
    record :=
      if p.length ≤ 1 then none
      else some { kind := (payloadByte p 1).extractLsb' 0 4, data := p.drop 2 } }

/-! ## Which replies a port accepts -/

/-- The reply to the kind sent, by kind and source (R35); the destination is 0. -/
def acceptsReply (sent f : Frame) : Bool :=
  f.dest == 0 &&
  match sent.kind with
  | .claim =>
    f.kind == .ident &&
      (if identFresh f then f.source == sent.dest
       else decide (1 ≤ f.source ∧ f.source ≤ Config.lastAddress))
  | .probe => f.source == sent.dest && ((f.kind == .ident && !identFresh f) || f.kind == .nak)
  | .read => f.source == sent.dest && (f.kind == .data || f.kind == .nak)
  | .write => f.source == sent.dest && (f.kind == .ack || f.kind == .nak)
  | .poll => f.source == sent.dest && (f.kind == .status || f.kind == .nak)
  | .fetch => f.source == sent.dest && (f.kind == .notice || f.kind == .ack || f.kind == .nak)
  | .restart => f.source == sent.dest && (f.kind == .ack || f.kind == .nak)
  | _ => false

end Sys2Proof.Machine
end

