-- ==== Sys2Proof/Machine/Operands.lean ====
section
/-! DEFINITION. What the host's bytes stand for: the register addresses and command codes of section
11.3, the SPI header (11.2), the parameter limits (R175), the mailbox kinds (R90). -/

namespace Sys2Proof.Machine

/-! ## Register addresses (section 11.3) -/

namespace Reg

def cmd : RegAddr := 0x0008
def cancelTag : RegAddr := 0x000B
def cause0 : RegAddr := 0x0010
def cause1 : RegAddr := 0x0011
def enable0 : RegAddr := 0x0012
def enable1 : RegAddr := 0x0013
def control : RegAddr := 0x0020
def replyBaseLow : RegAddr := 0x0021
def replyBaseHigh : RegAddr := 0x0022
def hopAllow : RegAddr := 0x0023
def retryLimit : RegAddr := 0x0024
def busyLimit : RegAddr := 0x0025
def busyBackoff : RegAddr := 0x0026
def faultLimit : RegAddr := 0x0027
def sweepPeriod : RegAddr := 0x0028
def staleLimit : RegAddr := 0x0029
def expectedFp : RegAddr := 0x002C
def msecTimerLow : RegAddr := 0x0030
def portAState : RegAddr := 0x0040
def portBState : RegAddr := 0x0048
def dupNotices : RegAddr := 0x006F
def mbxKind : RegAddr := 0x0080
def mbxTarget : RegAddr := 0x0081
def mbxReg : RegAddr := 0x0082
def mbxLen : RegAddr := 0x0083
def mbxData : RegAddr := 0x00A0
def rosterSel : RegAddr := 0x0100
def mirrorSel : RegAddr := 0x0140
def mirrorCtrl : RegAddr := 0x0141

/-- CAUSE0 or CAUSE1. -/
def cause : CauseByte → RegAddr
  | .zero => cause0
  | .one => cause1

/-- ENABLE0 or ENABLE1. -/
def enable : CauseByte → RegAddr
  | .zero => enable0
  | .one => enable1

/-- PORT_A_STATE or PORT_B_STATE, the first register of a port's block. -/
def portState : Port → RegAddr
  | .a => portAState
  | .b => portBState

/-- A one-byte counter of a port: CRC_ERRORS, SYMBOL_ERRORS, LATE_REPLIES, STRAY_REPLIES at the
block's offsets 1, 2, 5, 6. -/
def counter (p : Port) : ByteCounter → RegAddr
  | .crcErrors => portState p + 1
  | .symbolErrors => portState p + 2
  | .lateReplies => portState p + 5
  | .strayReplies => portState p + 6

/-- The TIMEOUTS low byte of a port, at offset 3. -/
def timeoutsLow (p : Port) : RegAddr := portState p + 3

/-- The registers of a port whose read has a side effect (R42). -/
def portEffects (p : Port) : List RegAddr :=
  [counter p .crcErrors, counter p .symbolErrors, timeoutsLow p, counter p .lateReplies,
   counter p .strayReplies]

/-- The registers whose read has a side effect, each with a row of its own (R42, R149, R171). -/
def readEffects : List RegAddr := [msecTimerLow, dupNotices] ++ portEffects .a ++ portEffects .b

end Reg

/-! ## Command codes (section 11.3) -/

/-- The commands of CMD. -/
inductive Command where
  | submit
  | cancel
  | popCompletion
  | popNotice
  | startCensus
  | abortCensus
  | acceptRoster
  | clearAllChanged
  | softReset
  deriving DecidableEq, Repr

/-- The code of a command. -/
def Command.code : Command → Byte
  | .submit => 0x01
  | .cancel => 0x02
  | .popCompletion => 0x03
  | .popNotice => 0x04
  | .startCensus => 0x10
  | .abortCensus => 0x11
  | .acceptRoster => 0x12
  | .clearAllChanged => 0x20
  | .softReset => 0x5A

/-- The command a code names; any other code, 0 among them, names none (R172). -/
def Command.ofCode (c : Byte) : Option Command :=
  if c = 0x01 then some .submit
  else if c = 0x02 then some .cancel
  else if c = 0x03 then some .popCompletion
  else if c = 0x04 then some .popNotice
  else if c = 0x10 then some .startCensus
  else if c = 0x11 then some .abortCensus
  else if c = 0x12 then some .acceptRoster
  else if c = 0x20 then some .clearAllChanged
  else if c = 0x5A then some .softReset
  else none

/-! ## SPI header (section 11.2) -/

/-- Bit 15 of the header: 1 reads and 0 writes. -/
def headerReads (h : BitVec 16) : Bool := h.getLsbD 15

/-- Bits 14..0 of the header: the register address. -/
def headerAddr (h : BitVec 16) : RegAddr := h.setWidth 15

/-! ## Parameter limits (R175) -/

/-- A value kept inside a range: below it the low end, above it the high end. -/
def clamp (lo hi v : Nat) : Nat := if v < lo then lo else if hi < v then hi else v

/-- REPLY_BASE from the hold and the high byte: clamped to 20..2550, rounded down to a multiple of
10 (R175). -/
def replyBaseStored (hold high : Byte) : Nat :=
  let v := (high ++ hold : BitVec 16).toNat
  clamp 20 2550 v / 10 * 10

/-! ## CONTROL (section 11.3) -/

def controlSweep (v : Byte) : Bool := v.getLsbD 0

/-- PORT_A_EN is bit 1, PORT_B_EN bit 2. -/
def controlPort (v : Byte) : Port → Bool
  | .a => v.getLsbD 1
  | .b => v.getLsbD 2

def controlExpect (v : Byte) : Bool := v.getLsbD 3

/-! ## Mailbox (R88, R90) -/

/-- The kind a MBX_KIND code names (section 11.3); other values name no kind. -/
def ReqKind.ofCode (c : Byte) : Option ReqKind :=
  match c.toNat with
  | 1 => some .read
  | 2 => some .write
  | 3 => some .bcastWrite
  | 4 => some .probe
  | 5 => some .restart
  | _ => none

/-- The kinds with a target (R88). -/
def ReqKind.targeted : ReqKind → Bool
  | .bcastWrite => false
  | _ => true

/-- The lengths check 1 of R90 admits. -/
def ReqKind.lengthOk (k : ReqKind) (n : Nat) : Bool :=
  match k with
  | .read | .write | .bcastWrite => decide (1 ≤ n ∧ n ≤ 32)
  | .probe | .restart => n == 0

/-- The kinds whose slot takes MBX_REG (R89). -/
def ReqKind.hasRegister : ReqKind → Bool
  | .read | .write | .bcastWrite => true
  | _ => false

/-- The kinds whose slot takes write data (R89). -/
def ReqKind.hasData : ReqKind → Bool
  | .write | .bcastWrite => true
  | _ => false

/-- The kinds the lock refuses (R54, R107). -/
def ReqKind.lockRefuses : ReqKind → Bool
  | .write | .bcastWrite | .restart => true
  | _ => false

end Sys2Proof.Machine
end

