-- ==== Sys2Proof/Machine/Ops.lean ====
section
/-! DEFINITION. The named reads and updates of State that every block uses: entries by address, slots by
tag, the two ports, saturating counts, and lists of addresses and tags in order. -/

namespace Sys2Proof.Machine

/-! ## Tables -/

/-- A table with every cell put through one function. -/
def mapCells {α : Type} {n : Nat} (f : α → α) (v : Vector α n) : Vector α n :=
  ⟨⟨v.toList.map f⟩, by simp⟩

/-- The module addresses 1..62, ascending. -/
def addresses : List Nat := List.range' 1 62

/-- The tags 0..15, ascending. -/
def allTags : List Tag := [0, 1, 2, 3, 4, 5, 6, 7, 8, 9, 10, 11, 12, 13, 14, 15]

/-- Put into a list ordered by descending key, before what has a smaller key. -/
def insertByKey {α : Type} (key : α → Nat) (x : α) : List α → List α
  | [] => [x]
  | y :: ys => if key y < key x then x :: y :: ys else y :: insertByKey key x ys

/-- A list in order of descending key. -/
def sortByKey {α : Type} (key : α → Nat) : List α → List α
  | [] => []
  | x :: xs => insertByKey key x (sortByKey key xs)

/-- A counter that stops at the top of its range (3.2). -/
def satInc (top n : Nat) : Nat := if n < top then n + 1 else top

/-! ## Roster and mirror entries -/

/-- The roster entry of an address; 0 and 63 have none and read as VACANT (R43, R59). -/
def State.entry (s : State) (a : Nat) : RosterEntry :=
  if h : 1 ≤ a ∧ a ≤ 62 then s.roster[a - 1]'(by omega) else RosterEntry.vacant

/-- The roster with the entry of an address replaced; nothing where there is no entry. -/
def State.setEntry (s : State) (a : Nat) (e : RosterEntry) : State :=
  if h : 1 ≤ a ∧ a ≤ 62 then { s with roster := s.roster.set (a - 1) e (by omega) } else s

/-- The mirror entry of an address; 0 and 63 have none and read as EMPTY (R124, R137). -/
def State.status (s : State) (a : Nat) : MirrorEntry :=
  if h : 1 ≤ a ∧ a ≤ 62 then s.mirror[a - 1]'(by omega) else MirrorEntry.empty

/-- The mirror with the entry of an address replaced; nothing where there is no entry. -/
def State.setStatus (s : State) (a : Nat) (m : MirrorEntry) : State :=
  if h : 1 ≤ a ∧ a ≤ 62 then { s with mirror := s.mirror.set (a - 1) m (by omega) } else s

/-- A module the chip keeps as held and reachable: ACTIVE or SUSPECT (R44). -/
def RosterEntry.live (e : RosterEntry) : Bool := e.state == .active || e.state == .suspect

/-- Some roster entry has this port as its route (R29, R120). -/
def State.anyRouted (s : State) (p : Port) : Bool :=
  addresses.any fun a => (s.entry a).route == some p

/-- The hop count of an entry on a port, 0 where it has none. -/
def RosterEntry.hopsOn (e : RosterEntry) (p : Port) : Nat := (e.hops.get p).getD 0

/-! ## Slots -/

/-- The slot of a tag. -/
def State.slot (s : State) (t : Tag) : Slot := s.slots[t.val]

/-- The slots with one replaced. -/
def State.setSlot (s : State) (t : Tag) (x : Slot) : State :=
  { s with slots := s.slots.set t.val x }

/-- The request kind of a slot, where its code names one. -/
def Slot.kind (x : Slot) : Option ReqKind := ReqKind.ofCode x.kindCode

/-- QUEUED, ACTIVE or WAITING_RETRY (R105). -/
def Slot.unfinished (x : Slot) : Bool :=
  x.state == .queued || x.state == .active || x.state == .waitingRetry

/-- How far a slot's submission sequence lies behind the counter: the farther, the older (R86). -/
def State.ageOf (s : State) (t : Tag) : Nat := (s.submissionCounter - (s.slot t).seq).toNat

/-- `t` was submitted before `u` (R86). -/
def State.older (s : State) (t u : Tag) : Bool := decide (s.ageOf u < s.ageOf t)

/-- The unfinished slots in ascending submission sequence, oldest first (R86). -/
def State.unfinishedTags (s : State) : List Tag :=
  sortByKey s.ageOf (allTags.filter fun t => (s.slot t).unfinished)

/-! ## Ports -/

/-- The chain port of a name. -/
def State.port (s : State) (p : Port) : ChainPort := s.ports.get p

/-- The ports with one replaced. -/
def State.setPort (s : State) (p : Port) (x : ChainPort) : State :=
  { s with ports := s.ports.set p x }

/-- The link of a port is UP. -/
def State.isUp (s : State) (p : Port) : Bool := (s.port p).link == .up

/-- The port's exchange replaced. -/
def State.setExch (s : State) (p : Port) (x : Exchange) : State :=
  s.setPort p { s.port p with exch := x }

/-- What an exchange is making, in SENDING and AWAITING. -/
def Exchange.xfer : Exchange → Option Xfer
  | .held => none
  | .idle => none
  | .sending x => some x
  | .awaiting x _ _ => some x

/-- The exchange in flight on a port. -/
def State.inFlight (s : State) (p : Port) : Option Xfer := (s.port p).exch.xfer

/-- An exchange of this owner is in flight on the port. -/
def State.carries (s : State) (p : Port) (o : Owner) : Bool :=
  match s.inFlight p with
  | some x => x.owner == o
  | none => false

/-- The exchange is IDLE or HELD (R67). -/
def Exchange.atRest : Exchange → Bool
  | .held => true
  | .idle => true
  | _ => false

/-- Whether the port is enabled: DISABLED is the link state of a cleared enable (R25). -/
def State.portEnabled (s : State) (p : Port) : Bool := (s.port p).link != .disabled

/-! ## Census and checks -/

/-- The census is running (R62). -/
def State.censusRunning (s : State) : Bool := s.census.state != .idle

/-- A census exchange is in flight on either port (R79). -/
def State.censusInFlight (s : State) : Bool := s.carries .a .census || s.carries .b .census

/-- The check of a port is not IDLE. -/
def State.checkRunning (s : State) (p : Port) : Bool := (s.checks.get p).state != .idle

/-- The checks with one replaced. -/
def State.setCheck (s : State) (p : Port) (c : Check) : State :=
  { s with checks := s.checks.set p c }

/-- A running check holds the module of an entry: the check of its route port is not IDLE (R158). -/
def State.held (s : State) (a : Nat) : Bool :=
  match (s.entry a).route with
  | some p => s.checkRunning p
  | none => false

/-- The reservations outstanding, 0..2 (R144). -/
def State.outstanding (s : State) : Nat :=
  (if s.reservations.a.isSome then 1 else 0) + (if s.reservations.b.isSome then 1 else 0)

/-! ## Sticky causes (R177) -/

def State.raiseNoticeBacklog (s : State) : State :=
  { s with sticky := { s.sticky with noticeBacklog := true } }

def State.raiseModuleStale (s : State) : State :=
  { s with sticky := { s.sticky with moduleStale := true } }

def State.raisePortChange (s : State) : State :=
  { s with sticky := { s.sticky with portChange := true } }

def State.raiseReachDone (s : State) : State :=
  { s with sticky := { s.sticky with reachDone := true } }

def State.raiseModuleLost (s : State) : State :=
  { s with sticky := { s.sticky with moduleLost := true } }

def State.raiseCmdError (s : State) : State :=
  { s with sticky := { s.sticky with cmdError := true } }

def State.raiseCensusDone (s : State) : State :=
  { s with sticky := { s.sticky with censusDone := true } }

def State.raiseLockHeld (s : State) : State :=
  { s with sticky := { s.sticky with lockHeld := true } }

end Sys2Proof.Machine
end

