-- ==== Sys2Proof/Machine/Flags.lean ====
section
/-! DEFINITION. The interrupt causes: which are pending, which are active, the group summary and IRQn
(R177..R179), and the cause and enable registers as bytes (section 11.3). -/

namespace Sys2Proof.Machine

/-! ## Level causes -/

/-- The change set holds at least one entry: some entry's changed flag is yes (R136). -/
def State.changeSetNonempty (s : State) : Bool := s.mirror.toList.any (·.changed)

/-- COMPLETION_READY (R96). -/
def State.completionReady (s : State) : Bool := !s.completionQueue.isEmpty

/-- NOTICE_PENDING (R142). -/
def State.noticePending (s : State) : Bool := !s.notices.isEmpty

/-! ## Active causes and groups -/

/-- GROUP_SUMMARY flag TRAFFIC (R177, R179). -/
def State.groupTraffic (s : State) : Bool := s.completionReady && s.enables.completionReady

/-- GROUP_SUMMARY flag NOTICE. -/
def State.groupNotice (s : State) : Bool :=
  (s.noticePending && s.enables.noticePending) || (s.sticky.noticeBacklog && s.enables.noticeBacklog)

/-- GROUP_SUMMARY flag MIRROR. -/
def State.groupMirror (s : State) : Bool :=
  (s.changeSetNonempty && s.enables.mirrorChange) || (s.sticky.moduleStale && s.enables.moduleStale)

/-- GROUP_SUMMARY flag CHAIN. -/
def State.groupChain (s : State) : Bool :=
  (s.sticky.portChange && s.enables.portChange) || (s.sticky.reachDone && s.enables.reachDone)
    || (s.sticky.moduleLost && s.enables.moduleLost) || (s.sticky.cmdError && s.enables.cmdError)

/-- GROUP_SUMMARY flag CENSUS. -/
def State.groupCensus (s : State) : Bool :=
  (s.sticky.censusDone && s.enables.censusDone) || (s.sticky.lockHeld && s.enables.lockHeld)

/-- IRQn is driven low: some group flag is set and the part is not in reset (R179, R180). -/
def State.irqLow (s : State) : Bool :=
  !s.inReset && (s.groupTraffic || s.groupNotice || s.groupMirror || s.groupChain || s.groupCensus)

/-! ## Bytes -/

/-- A byte from its bits, bit 0 first. -/
def byteOfBits (b0 b1 b2 b3 b4 b5 b6 b7 : Bool) : Byte :=
  BitVec.ofBool b7 ++ BitVec.ofBool b6 ++ BitVec.ofBool b5 ++ BitVec.ofBool b4
    ++ BitVec.ofBool b3 ++ BitVec.ofBool b2 ++ BitVec.ofBool b1 ++ BitVec.ofBool b0

/-- CAUSE0 or CAUSE1 as read (section 11.3). -/
def State.causeByte (s : State) : CauseByte → Byte
  | .zero => byteOfBits s.completionReady s.noticePending s.sticky.noticeBacklog s.changeSetNonempty
      s.sticky.moduleStale s.sticky.portChange s.sticky.reachDone s.sticky.moduleLost
  | .one => byteOfBits s.sticky.cmdError s.sticky.censusDone s.sticky.lockHeld
      false false false false false

/-- ENABLE0 or ENABLE1 as read: the same places. -/
def EnableBits.byte (e : EnableBits) : CauseByte → Byte
  | .zero => byteOfBits e.completionReady e.noticePending e.noticeBacklog e.mirrorChange
      e.moduleStale e.portChange e.reachDone e.moduleLost
  | .one => byteOfBits e.cmdError e.censusDone e.lockHeld false false false false false

/-- GROUP_SUMMARY as read. -/
def State.groupSummary (s : State) : Byte :=
  byteOfBits s.groupTraffic s.groupNotice s.groupMirror s.groupChain s.groupCensus false false false

/-- A write of a cause register: each sticky cause written 1 is cleared; 0s and level places have no
effect (R178). -/
def StickyBits.clearBy (k : StickyBits) (which : CauseByte) (v : Byte) : StickyBits :=
  match which with
  | .zero =>
    { k with
      noticeBacklog := k.noticeBacklog && !v.getLsbD 2
      moduleStale := k.moduleStale && !v.getLsbD 4
      portChange := k.portChange && !v.getLsbD 5
      reachDone := k.reachDone && !v.getLsbD 6
      moduleLost := k.moduleLost && !v.getLsbD 7 }
  | .one =>
    { k with
      cmdError := k.cmdError && !v.getLsbD 0
      censusDone := k.censusDone && !v.getLsbD 1
      lockHeld := k.lockHeld && !v.getLsbD 2 }

/-- A write of an enable register (R179); bits of no cause ignore the write (R182). -/
def EnableBits.write (e : EnableBits) (which : CauseByte) (v : Byte) : EnableBits :=
  match which with
  | .zero =>
    { e with
      completionReady := v.getLsbD 0
      noticePending := v.getLsbD 1
      noticeBacklog := v.getLsbD 2
      mirrorChange := v.getLsbD 3
      moduleStale := v.getLsbD 4
      portChange := v.getLsbD 5
      reachDone := v.getLsbD 6
      moduleLost := v.getLsbD 7 }
  | .one =>
    { e with
      cmdError := v.getLsbD 0
      censusDone := v.getLsbD 1
      lockHeld := v.getLsbD 2 }

end Sys2Proof.Machine
end

