-- ==== Sys2Proof/Machine/Roster.lean ====
section
/-! DEFINITION. The roster (chapter 3): reports from exchanges, toggles and last sequences, creation and
loss of entries, the census clear and the fingerprint; and the start of a reach check, which the
roster's signal causes (R46, R156). -/

namespace Sys2Proof.Machine

/-! ## Starting a reach check (R156) -/

/-- The roster's signal for an address: an IDLE check enters PROBING; a running one absorbs it
(R156, R157). -/
def signalCheck (p : Port) (a : Nat) (s : State) : State :=
  if s.checkRunning p then s
  else s.setCheck p { Check.reset with state := .probing, trigger := a }

/-- The addresses whose entry is ACTIVE or SUSPECT with this route, ascending. -/
def State.routedLive (s : State) (p : Port) : List Nat :=
  addresses.filter fun a => (s.entry a).live && (s.entry a).route == some p

/-- Marked PENDING (R161). -/
def pendingMarks (as : List Nat) : List CutOff := as.map fun a => { addr := a, mark := .pending }

/-- A check started by its port not being UP: REROUTING with the break at hop 0 and every entry
routed on the port cut off (R156). -/
def startCutOff (p : Port) (s : State) : State :=
  s.setCheck p { Check.reset with
    state := .rerouting, result := .brk, cutOff := pendingMarks (s.routedLive p) }

/-! ## Reports (R46) -/

/-- A good reply: fail_count becomes 0 in an ACTIVE or SUSPECT entry (R46). -/
def reportGood (a : Nat) (s : State) : State :=
  if (s.entry a).live then s.setEntry a { s.entry a with failCount := 0 } else s

/-- A failure: fail_count + 1, stopping at 15, then the threshold test, which makes an ACTIVE entry
SUSPECT and, with no census running, signals its route port's check (R46). -/
def reportFailure (a : Nat) (s : State) : State :=
  let e := s.entry a
  let n := satInc 15 e.failCount
  if e.live then
    if e.state == .active && decide (s.params.faultLimit ≤ n) then
      let s1 := s.setEntry a { e with failCount := n, state := .suspect }
      match e.route with
      | some p => if s.censusRunning then s1 else signalCheck p a s1
      | none => s1
    else s.setEntry a { e with failCount := n }
  else s

/-! ## Toggle and last sequence (R47, R48) -/

/-- The entry's toggle set; a VACANT entry keeps toggle 0 (R43, R91). -/
def setToggle (a : Nat) (t : Toggle) (s : State) : State :=
  if (s.entry a).state = .vacant then s else s.setEntry a { s.entry a with toggle := t }

/-- The entry's last_seq set; a VACANT entry keeps NONE (R43). -/
def setLastSeq (a : Nat) (q : Option Seq) (s : State) : State :=
  if (s.entry a).state = .vacant then s else s.setEntry a { s.entry a with lastSeq := q }

/-- The toggle bit of a frame as a toggle. -/
def Toggle.ofBit (b : Bool) : Toggle := if b then .one else .zero

/-- The entry answered in a reach check: SUSPECT becomes ACTIVE (R160). -/
def answered (a : Nat) (s : State) : State :=
  if (s.entry a).state = .suspect then s.setEntry a { s.entry a with state := .active } else s

/-! ## Creation, re-route and loss (R49, R50, R162) -/

/-- The entry a claim creates at an address (R49). -/
def createdEntry (walk : Port) (position : Nat) (i : Identity) : RosterEntry :=
  { RosterEntry.vacant with
    state := .active, identity := some i, route := some walk,
    hops := ({ a := none, b := none } : Pair (Option Nat)).set walk (some position) }

/-- A re-route happens only where the entry is ACTIVE or SUSPECT and holds a hop count for that port
(R45). -/
def canReroute (e : RosterEntry) (y : Port) : Bool := e.live && (e.hops.get y).isSome

/-- An entry re-routed to a port: route and state change, nothing else (R162). -/
def reroutedEntry (e : RosterEntry) (y : Port) : RosterEntry :=
  { e with route := some y, state := .active }

/-- An entry made LOST (R50). -/
def lostEntry (e : RosterEntry) : RosterEntry :=
  { e with state := .lost, route := none, lostMark := true }

/-! ## Fingerprint (R57) -/

/-- The nine bytes an entry contributes: address, type code, serial, low bytes first (R57). -/
def fingerprintBytes (a : Nat) (i : Identity) : List Byte :=
  [BitVec.ofNat 8 a, i.typeCode.extractLsb' 0 8, i.typeCode.extractLsb' 8 8] ++ serialBytes i.serial

/-- What the fingerprint covers: every entry that is not VACANT, in ascending order of address. -/
def State.fingerprintInput (s : State) : List Byte :=
  addresses.flatMap fun a =>
    if (s.entry a).state = .vacant then []
    else
      match (s.entry a).identity with
      | some i => fingerprintBytes a i
      | none => []

/-- The fingerprint of the entries present; 0 when there are none (R57). -/
def State.computeFingerprint (s : State) : BitVec 32 :=
  if s.fingerprintInput.isEmpty then 0 else crc32 s.fingerprintInput

/-! ## Census clear (R60) -/

/-- The roster's part of the census clear. -/
def clearRoster (s : State) : State :=
  { s with
    roster := Vector.replicate 62 RosterEntry.vacant
    rosterState := .building
    ringState := .unknown
    tails := { a := 0, b := 0 }
    exceeded := false
    lockHeld := true
    epoch := s.epoch + 1
    fingerprint := 0 }

end Sys2Proof.Machine
end

