-- ==== Sys2Proof/Machine/Mirror.lean ====
section
/-! DEFINITION. The status mirror (chapter 7): storing a STATUS, counting misses, staleness, the events
that clear or mark entries, the host's flags, and the millisecond timer's effect on ages. -/

namespace Sys2Proof.Machine

/-- The record's limits are not checked (R131); the change test compares health and record (R132). -/
def reportDiffers (m : MirrorEntry) (r : StatusReport) : Bool :=
  m.state == .empty || m.health != r.health || m.record != r.record

/-- The entry after a STATUS is stored (R131 steps 3 to 7). fetch_wanted follows the pending count
where the identity says notice-capable (R135). -/
def storedStatus (m : MirrorEntry) (r : StatusReport) (capable : Bool) : MirrorEntry :=
  { m with
    changed := m.changed || (m.watch && reportDiffers m r)
    health := r.health
    record := r.record
    pendingCount := r.pendingCount
    age := 0
    missCount := 0
    state := .fresh
    fetchWanted := capable && decide (1 ≤ r.pendingCount) }

/-- The identity of an entry says notice-capable yes. -/
def RosterEntry.capable (e : RosterEntry) : Bool :=
  match e.identity with
  | some i => i.noticeCapable
  | none => false

/-- Storing a STATUS; made only while the roster entry is ACTIVE or SUSPECT (R131, R134). -/
def storeStatus (a : Nat) (r : StatusReport) (s : State) : State :=
  if (s.entry a).live then s.setStatus a (storedStatus (s.status a) r (s.entry a).capable) else s

/-- An entry that becomes STALE; an EMPTY one takes age 0 (R126). -/
def staleEntry (m : MirrorEntry) : MirrorEntry :=
  { m with state := .stale, age := if m.state = .empty then 0 else m.age }

/-- A miss: the count goes up, stopping at 15, and an EMPTY or FRESH entry at STALE_LIMIT becomes
STALE and raises MODULE_STALE (R133); only while the roster entry is ACTIVE or SUSPECT (R134). -/
def countMiss (a : Nat) (s : State) : State :=
  if (s.entry a).live then
    let m := { s.status a with missCount := satInc 15 (s.status a).missCount }
    if m.state != .stale && decide (s.params.staleLimit ≤ m.missCount) then
      (s.setStatus a (staleEntry m)).raiseModuleStale
    else s.setStatus a m
  else s

/-- fetch_wanted set (R135). -/
def setFetchWanted (a : Nat) (b : Bool) (s : State) : State :=
  s.setStatus a { s.status a with fetchWanted := b }

/-- The entry of a lost module: STALE with lost mark yes, fetch_wanted no, stored values kept
(R138). -/
def markStatusLost (a : Nat) (s : State) : State :=
  let m := s.status a
  let s1 := s.setStatus a { staleEntry m with lostMark := true, fetchWanted := false }
  if m.state = .stale then s1 else s1.raiseModuleStale

/-- The entry of a restarted module: EMPTY values; watch, changed and lost mark unchanged (R138). -/
def clearStatus (a : Nat) (s : State) : State :=
  let m := s.status a
  s.setStatus a { MirrorEntry.empty with
    changed := m.changed, watch := m.watch, lostMark := m.lostMark }

/-- Every changed flag cleared: the change set is empty (R136). -/
def clearAllFlags (s : State) : State :=
  { s with mirror := mapCells (fun m => { m with changed := false }) s.mirror }

/-- One millisecond of an entry's age (R126). -/
def agedEntry (m : MirrorEntry) : MirrorEntry :=
  if m.state = .empty then m else { m with age := satInc 65535 m.age }

/-- An increment of the millisecond timer (R126). -/
def tick (s : State) : State :=
  { s with msecTimer := s.msecTimer + 1, mirror := mapCells agedEntry s.mirror }

/-- The mirror's part of the census clear: every entry EMPTY, flags clear, cursors 0 (R67, R138). -/
def clearMirror (s : State) : State :=
  { s with mirror := Vector.replicate 62 MirrorEntry.empty, cursors := { a := 0, b := 0 } }

end Sys2Proof.Machine
end

