-- ==== Sys2Proof/Machine/Notices.lean ====
section
/-! DEFINITION. The notice unit (chapter 8): reservations, judging a notice, the duplicate counter, the
acknowledgement carried in POLL and FETCH. -/

namespace Sys2Proof.Machine

/-- A reservation for a port can be made (R144). -/
def State.canReserve (s : State) (p : Port) : Bool :=
  decide (s.notices.length + s.outstanding < Config.noticePlaces) && (s.reservations.get p).isNone

/-- The queue length plus the reservations outstanding has reached 32 (R146). -/
def State.noPlace (s : State) : Bool :=
  decide (Config.noticePlaces ≤ s.notices.length + s.outstanding)

/-- The port's reservation made for an address. -/
def reserve (p : Port) (a : Nat) (s : State) : State :=
  { s with reservations := s.reservations.set p (some a) }

/-- The port's reservation released (R145). -/
def release (p : Port) (s : State) : State :=
  { s with reservations := s.reservations.set p none }

/-- The record of an accepted NOTICE (R141). The gap is yes when last_seq holds a sequence and the
notice's is not last_seq + 1 modulo 16 (R147). -/
def noticeRecord (a : Nat) (f : Frame) (s : State) : NoticeRecord :=
  { source := a
    epoch := s.epoch
    seq := f.control
    code := payloadByte f.payload 0
    payload := f.payload.drop 1
    gap := match (s.entry a).lastSeq with
      | some q => f.control != q + 1
      | none => false
    arrival := s.msecTimer }

/-- Judging a NOTICE against last_seq: a duplicate is counted and discarded; any other is appended,
using the port's reservation, and last_seq takes its sequence (R147). A record joins only by a
reservation (R144); without one nothing joins (log 31). -/
def judgeNotice (p : Port) (a : Nat) (f : Frame) (s : State) : State :=
  if (s.entry a).lastSeq = some f.control then
    release p { s with dupNotices := satInc 255 s.dupNotices }
  else if (s.reservations.get p).isSome then
    setLastSeq a (some f.control)
      (release p { s with notices := s.notices ++ [noticeRecord a f s] })
  else s

/-- The acknowledgement of a POLL or FETCH from last_seq: control field and payload (R5, R150). -/
def ackFields (q : Option Seq) : BitVec 4 × List Byte :=
  match q with
  | some x => (x, [0])
  | none => (0, [])

end Sys2Proof.Machine
end

