-- ==== Sys2Proof/Machine/Requests.lean ====
section
/-! DEFINITION. The request unit (chapter 5) and the dispatch engine's front checks (R105..R107, R120):
completing a slot, SUBMIT and its validation, POP_COMPLETION, CANCEL, the census flushes. -/

namespace Sys2Proof.Machine

/-! ## Completing a slot (R91) -/

/-- The effect of a completion, from kind and history (R94). A code that names no kind has sent
nothing: NOT_APPLIED (log 18). -/
def effectOf (k : Option ReqKind) (h : History) : Effect :=
  match k, h with
  | some .write, .acked => .applied
  | some .restart, .acked => .applied
  | some .write, .sentNoReply => .unknown
  | some .restart, .sentNoReply => .unknown
  | some .bcastWrite, .sentNoReply => .unknown
  | _, _ => .notApplied

/-- A slot made DONE (R91 steps 1 to 5); a busy backoff ends with it (R85). -/
def doneSlot (x : Slot) (st : Status) (late : Bool) (data : List Byte) (epoch : Byte) : Slot :=
  { x with
    state := .done
    backoff := none
    outcome := some
      { status := st, effect := effectOf x.kind x.history, lateCancel := late, data := data,
        epoch := epoch } }

/-- A slot becomes DONE and joins the tail of the completion queue; a WRITE of effect UNKNOWN makes
its target's toggle UNSURE in the same step (R91). A FREE or DONE slot is left alone (R85). -/
def complete (t : Tag) (st : Status) (late : Bool) (data : List Byte) (s : State) : State :=
  let x := s.slot t
  if x.unfinished then
    let s1 := s.setSlot t (doneSlot x st late data s.epoch)
    let s2 := { s1 with completionQueue := s1.completionQueue ++ [t] }
    if x.kind == some .write && effectOf x.kind x.history == .unknown then
      match x.target with
      | some a => setToggle a .unsure s2
      | none => s2
    else s2
  else s

/-- A completion with no data and late_cancel clear. -/
def finish (t : Tag) (st : Status) (s : State) : State := complete t st false [] s

/-! ## The front (R105) -/

/-- The slot's kind is BCAST_WRITE. -/
def Slot.isBcast (x : Slot) : Bool := x.kind == some .bcastWrite

/-- Another unfinished slot, older than this one. -/
def State.olderUnfinished (s : State) (t u : Tag) : Bool :=
  u != t && (s.slot u).unfinished && s.older u t

/-- A slot stands at the front (R105). -/
def State.atFront (s : State) (t : Tag) : Bool :=
  let x := s.slot t
  !s.censusRunning && x.unfinished &&
    !(allTags.any fun u =>
      s.olderUnfinished t u &&
        (x.isBcast || (s.slot u).isBcast || (s.slot u).target == x.target))

/-- Both reach checks are IDLE. -/
def State.checksIdle (s : State) : Bool := !s.checkRunning .a && !s.checkRunning .b

/-- The status a front check gives a slot at the front, if one applies (R107). DEDUCED, unsafe (log 37): check 3
also completes a WRITE or RESTART whose target a running reach check holds. R106 and R158 say that such a slot
waits without being failed or completed; R107 makes only check 2 wait for the checks. -/
def State.frontCheck (s : State) (x : Slot) : Option Status :=
  match x.kind with
  | none => none
  | some k =>
    let e := s.entry (x.target.getD 0)
    if k.targeted && e.state == .vacant then some .noModule
    else if k.targeted && e.state == .lost && s.checksIdle then some .unreachable
    else if k.lockRefuses && s.lockHeld then some .refusedLock
    else none

/-- The ports a BCAST_WRITE is to go on: UP, with at least one entry routed on them (R120). -/
def State.bcastPorts (s : State) : Pair Bool :=
  { a := s.isUp .a && s.anyRouted .a, b := s.isUp .b && s.anyRouted .b }

/-- A BCAST_WRITE at the front chosen: its broadcast ports are fixed; with none it completes OK
(R120). -/
def chooseBcast (t : Tag) (s : State) : State :=
  let ps := s.bcastPorts
  if ps.a || ps.b then
    s.setSlot t { s.slot t with state := .active, bcastPorts := ps, bcastSent := false }
  else finish t .ok s

/-- A slot is QUEUED or WAITING_RETRY. -/
def Slot.waiting (x : Slot) : Bool := x.state == .queued || x.state == .waitingRetry

/-- One slot meets the front checks, and a BCAST_WRITE that passes them is chosen (R107, R120). -/
def frontStep (t : Tag) (s : State) : State :=
  if s.atFront t && (s.slot t).waiting then
    match s.frontCheck (s.slot t) with
    | some st => finish t st s
    | none => if (s.slot t).isBcast then chooseBcast t s else s
  else s

/-- The front checks of all slots in ascending submission sequence: a completed slot may bring younger
ones to the front, which come later in the order (R107). -/
def frontPass (s : State) : State :=
  s.unfinishedTags.foldl (fun s' t => frontStep t s') s

/-! ## SUBMIT (R89, R90, R92) -/

/-- The lowest-numbered FREE slot. -/
def State.lowestFree (s : State) : Option Tag := allTags.find? fun t => (s.slot t).state == .free

/-- The slot with the mailbox copied into it, QUEUED (R89). A request that fails check 1 or 2 is
addressed to no module: its target is absent (R90). -/
def slotFromMailbox (m : Mailbox) (seq : BitVec 32) (valid : Bool) : Slot :=
  let k := ReqKind.ofCode m.kind
  { Slot.free with
    state := .queued
    kindCode := m.kind
    target := if valid && (k.map ReqKind.targeted).getD false then some m.target.toNat else none
    register := if (k.map ReqKind.hasRegister).getD false then m.register else 0
    length := m.length.toNat
    writeData :=
      if (k.map ReqKind.hasData).getD false then m.data.toList.take m.length.toNat else []
    seq := seq }

/-- Checks 1 and 2 of R90 pass. -/
def mailboxValid (m : Mailbox) : Bool :=
  match ReqKind.ofCode m.kind with
  | none => false
  | some k =>
    k.lengthOk m.length.toNat &&
      (!k.targeted || decide (1 ≤ m.target.toNat ∧ m.target.toNat ≤ Config.lastAddress))

/-- Checks 3 and 4 apply at submission: the roster is not BUILDING and no other unfinished slot has
the same target (R92). -/
def State.checksApply (s : State) (t : Tag) (target : Option Nat) : Bool :=
  s.rosterState != .building &&
    !(allTags.any fun u => u != t && (s.slot u).unfinished && (s.slot u).target == target)

/-- Checks 3 and 4 of R90 on a slot just taken. -/
def validateTarget (t : Tag) (s : State) : State :=
  match (s.slot t).target with
  | none => s
  | some a =>
    if s.checksApply t (some a) then
      if (s.entry a).state = .vacant then finish t .noModule s
      else if (s.entry a).state = .lost then finish t .unreachable s
      else s
    else s

/-- The mailbox taken into a FREE slot and validated (R86, R89, R90). -/
def takeSlot (t : Tag) (s : State) : State :=
  let ok := mailboxValid s.mailbox
  let s1 := s.setSlot t (slotFromMailbox s.mailbox s.submissionCounter ok)
  let s2 := { s1 with
    submissionCounter := s.submissionCounter + 1, submitResult := .accepted t }
  if ok then validateTarget t s2 else finish t .badRequest s2

/-! ## POP_COMPLETION (R97) -/

/-- The head slot leaves the queue and becomes FREE. -/
def popHead (t : Tag) (rest : List Tag) (s : State) : State :=
  { s.setSlot t Slot.free with completionQueue := rest }

/-! ## Frames of a broadcast in flight (R84) -/

/-- A frame of this BCAST_WRITE is being sent on a port. -/
def State.bcastSending (s : State) (t : Tag) (p : Port) : Bool := s.carries p (.bcast t)

/-- A frame of this BCAST_WRITE is being sent on some port. -/
def State.bcastInFlight (s : State) (t : Tag) : Bool :=
  s.bcastSending t .a || s.bcastSending t .b

/-- Only the ports on which a frame of it is being sent stay to be carried: no further frame of it is
sent (R65, R100). -/
def stopBcast (t : Tag) (s : State) : State :=
  s.setSlot t { s.slot t with
    bcastPorts :=
      { a := (s.slot t).bcastPorts.a && s.bcastSending t .a
        b := (s.slot t).bcastPorts.b && s.bcastSending t .b } }

/-! ## CANCEL (R98, R100) -/

/-- CANCEL of an ACTIVE slot: a BCAST_WRITE with no frame being sent ends at once, any other slot
notes the cancel (R98, R100). -/
def cancelActive (t : Tag) (s : State) : State :=
  if (s.slot t).isBcast then
    if s.bcastInFlight t then
      let s1 := stopBcast t s
      s1.setSlot t { s1.slot t with cancelRequested := true }
    else finish t .cancelled (stopBcast t s)
  else s.setSlot t { s.slot t with cancelRequested := true }

/-! ## Census flushes (R65, R67) -/

/-- A QUEUED slot waits behind an older ACTIVE slot of its target (R65). -/
def State.behindActive (s : State) (t : Tag) : Bool :=
  (s.slot t).target.isSome &&
    allTags.any fun u =>
      (s.slot u).state == .active && (s.slot u).target == (s.slot t).target && s.older u t

/-- What START_CENSUS does to one slot (R65). -/
def flushAtStart (t : Tag) (s : State) : State :=
  let x := s.slot t
  match x.state with
  | .waitingRetry => finish t .rosterChanged s
  | .queued =>
    if s.behindActive t then s.setSlot t { x with flushWithOlder := true }
    else finish t .rosterChanged s
  | .active =>
    if x.isBcast then
      if s.bcastInFlight t then stopBcast t s else finish t .rosterChanged (stopBcast t s)
    else s
  | _ => s

/-- The flush at START_CENSUS, in ascending submission sequence (R65). -/
def flushAll (s : State) : State := s.unfinishedTags.foldl (fun s' t => flushAtStart t s') s

/-- The slots held back at START_CENSUS behind an ACTIVE slot of this target are ended with it
(R65). -/
def flushFollower (target : Option Nat) (t : Tag) (s : State) : State :=
  let x := s.slot t
  if x.state == .queued && x.flushWithOlder && x.target == target then finish t .rosterChanged s
  else s

/-- An ACTIVE slot made DONE by its exchange; in a census, the slots held back behind it follow in
the same step (R65). -/
def completeActive (t : Tag) (st : Status) (late : Bool) (data : List Byte) (s : State) : State :=
  let target := (s.slot t).target
  let s1 := complete t st late data s
  if s.censusRunning then
    s1.unfinishedTags.foldl (fun s' u => flushFollower target u s') s1
  else s1

/-- A QUEUED slot ended by the census clear (R67 step 1). -/
def flushAtClear (t : Tag) (s : State) : State :=
  if (s.slot t).state = .queued then finish t .rosterChanged s else s

/-- The flush of the census clear, in ascending submission sequence (R67). -/
def flushQueued (s : State) : State := s.unfinishedTags.foldl (fun s' t => flushAtClear t s') s

end Sys2Proof.Machine
end

