-- ==== Sys2Proof/Machine/Checks.lean ====
section
/-! DEFINITION. The reach checks (chapter 9): fixing the probe list, finding the break, deciding cut-off
modules, ending; and `settle`, what follows in the same step from what a command changed. -/

namespace Sys2Proof.Machine

/-! ## Cut-off lists -/

/-- The list with the mark of an address replaced. -/
def setMark (a : Nat) (m : Mark) (l : List CutOff) : List CutOff :=
  l.map fun c => if c.addr = a then { c with mark := m } else c

/-- The PENDING addresses of a list. -/
def pendingAddrs (l : List CutOff) : List Nat :=
  (l.filter fun c => c.mark == .pending).map (·.addr)

/-- The lowest of some addresses. -/
def lowest : List Nat → Option Nat
  | [] => none
  | a :: as =>
    match lowest as with
    | none => some a
    | some b => some (min a b)

/-- The list holds the address, under any mark (R162). -/
def listed (a : Nat) (l : List CutOff) : Bool := l.any fun c => c.addr == a

/-- Entries of this port that are not yet in the list join it as PENDING (R161, R164). -/
def joinPending (as : List Nat) (l : List CutOff) : List CutOff :=
  l ++ pendingMarks (as.filter fun a => !listed a l)

/-! ## Losing a module (R163) -/

/-- A cut-off module decided LOST by the check of port X: roster, mirror, cause, mark and count in
one step (R163). The roster entry changes where it is ACTIVE or SUSPECT (log 31). -/
def loseModule (x : Port) (a : Nat) (s : State) : State :=
  let s1 :=
    if (s.entry a).live then markStatusLost a (s.setEntry a (lostEntry (s.entry a))) else s
  let c := s1.checks.get x
  (s1.setCheck x { c with cutOff := setMark a .lost c.cutOff, lost := c.lost + 1 }).raiseModuleLost

/-! ## The end of a check (R166) -/

/-- The targets this check made LOST. -/
def Check.madeLost (c : Check) (a : Nat) : Bool :=
  c.cutOff.any fun m => m.addr == a && m.mark == .lost

/-- A waiting slot of a module the check made LOST becomes DONE UNREACHABLE (R166 step 1). -/
def completeLost (c : Check) (t : Tag) (s : State) : State :=
  match (s.slot t).target with
  | some a => if (s.slot t).waiting && c.madeLost a then finish t .unreachable s else s
  | none => s

/-- The check of a port ends: requests, ring, event, release, in this order (R166). -/
def endCheck (x : Port) (s : State) : State :=
  let c := s.checks.get x
  let s1 := s.unfinishedTags.foldl (fun s' t => completeLost c t s') s
  let s2 :=
    if s1.ringState = .closed ∧ c.cutOff ≠ [] then { s1 with ringState := .broken } else s1
  (s2.setCheck x { c with
    state := .idle, probeList := [], cursor := 0, tries := 0, cutOff := [], begun := false,
    deciding := none }).raiseReachDone

/-! ## Deciding (R162) -/

/-- The module is decided LOST without a probe (R162). -/
def State.losesWithoutProbe (s : State) (x : Port) (a : Nat) : Bool :=
  (s.checkRunning x.other && listed a (s.checks.get x.other).cutOff)
    || !s.isUp x.other || ((s.entry a).hops.get x.other).isNone

/-- REROUTING goes on until a re-route probe is ready or every module is decided: the lowest PENDING
module is taken, and with none left the check ends (R162, R166). -/
def decideModules (x : Port) : Nat → State → State
  | 0, s => s
  | fuel + 1, s =>
    let c := s.checks.get x
    if c.state = .rerouting ∧ c.deciding = none then
      match lowest (pendingAddrs c.cutOff) with
      | none => endCheck x s
      | some a =>
        if s.losesWithoutProbe x a then decideModules x fuel (loseModule x a s)
        else s.setCheck x { c with deciding := some a, tries := 0 }
    else s

/-- The cursor of the first listed module that is still routed on the port, from a place on (R159). -/
def skipUnrouted (s : State) (x : Port) : List Nat → Nat → Nat
  | [], i => i
  | a :: as, i => if (s.entry a).route = some x then i else skipUnrouted s x as (i + 1)

/-- PROBING passes over modules no longer routed on the port; at the end of the probe list the check
ends with NO_BREAK (R159, R161). -/
def advanceProbing (x : Port) (s : State) : State :=
  let c := s.checks.get x
  if c.state = .probing ∧ c.begun then
    let i := skipUnrouted s x (c.probeList.drop c.cursor) c.cursor
    if c.probeList.length ≤ i then endCheck x (s.setCheck x { c with result := .noBreak })
    else if i = c.cursor then s
    else s.setCheck x { c with cursor := i, tries := 0 }
  else s

/-- What a check does without waiting for anything. -/
def advanceCheck (x : Port) (s : State) : State :=
  let s1 := advanceProbing x s
  decideModules x ((s1.checks.get x).cutOff.length + 1) s1

/-- One reach check does what it can, then the slots its decisions bring to the front meet their checks
(R107, R166). -/
def advanceAndFront (x : Port) (s : State) : State := frontPass (advanceCheck x s)

/-- What follows in the same step from what a command changed (95_what_each_step_holds.md): the slots that
stand at the front meet their checks at once (R107), then the two reach checks decide, one first (log 33). -/
def settleFrom (first : Port) (s : State) : State :=
  advanceAndFront first.other (advanceAndFront first (frontPass s))

def settle (s : State) : State := settleFrom .a s

/-! ## Probing (R159..R161) -/

/-- The probe list of a port: its ACTIVE and SUSPECT entries in ascending hop count on it (R159). -/
def State.probeListOf (s : State) (x : Port) : List Nat :=
  (sortByKey (fun a => (s.entry a).hopsOn x) (s.routedLive x)).reverse

/-- PROBING begins (R159). -/
def beginProbing (x : Port) (s : State) : State :=
  s.setCheck x { s.checks.get x with
    begun := true, probeList := s.probeListOf x, cursor := 0, tries := 0 }

/-- The module the check is probing, or is to probe next, in PROBING. -/
def Check.probeTarget (c : Check) : Option Nat :=
  if c.state = .probing ∧ c.begun then c.probeList[c.cursor]? else none

/-- The break is found at the module: break location, cut-off list, REROUTING (R161). -/
def breakFound (x : Port) (a : Nat) (s : State) : State :=
  let c := s.checks.get x
  let k := (s.entry a).hopsOn x
  s.setCheck x { c with
    breakLocation := k - 1
    cutOff := pendingMarks
      ((s.routedLive x).filter fun b => decide (k ≤ (s.entry b).hopsOn x))
    result := .brk
    state := .rerouting
    tries := 0
    deciding := none }

/-! ## Outcomes of check probes (R160, R162) -/

/-- The roster report of a probe: an answer is a good reply, an IDENT sets the toggle to 0, a
failure is a failure, LINK_LOST is not reported (R46, R47, R160). -/
def reportProbe (a : Nat) (o : PortOutcome) (s : State) : State :=
  match o with
  | .reply f =>
    if f.kind = .ident then setToggle a .zero (reportGood a s) else reportGood a s
  | .timeout | .crcError | .symbolError => reportFailure a s
  | .sent | .linkLost _ => s

/-- PROBING acts on a probe's outcome (R160). LINK_LOST is left to R164. -/
def probingOutcome (x : Port) (a : Nat) (o : PortOutcome) (s : State) : State :=
  let c := s.checks.get x
  match o with
  | .reply _ => (answered a s).setCheck x { c with cursor := c.cursor + 1, tries := 0 }
  | .timeout | .crcError | .symbolError => if c.tries < 2 then s else breakFound x a s
  | .sent | .linkLost _ => s

/-- The module is re-routed to the other port (R162). -/
def rerouteModule (x : Port) (a : Nat) (s : State) : State :=
  let s1 := s.setEntry a (reroutedEntry (s.entry a) x.other)
  let c := s1.checks.get x
  s1.setCheck x { c with
    cutOff := setMark a .rerouted c.cutOff, rerouted := c.rerouted + 1, deciding := none }

/-- The module being decided is LOST, and the next may be taken. -/
def loseDecided (x : Port) (a : Nat) (s : State) : State :=
  let s1 := loseModule x a s
  s1.setCheck x { s1.checks.get x with deciding := none }

/-- REROUTING acts on a re-route probe's outcome (R162). LINK_LOST is left to R165. -/
def reroutingOutcome (x : Port) (a : Nat) (o : PortOutcome) (s : State) : State :=
  match o with
  | .reply _ =>
    if canReroute (s.entry a) x.other then rerouteModule x a s else loseDecided x a s
  | .timeout | .crcError | .symbolError =>
    if (s.checks.get x).tries < 2 then s else loseDecided x a s
  | .sent | .linkLost _ => s

/-- The outcome of a check-class PROBE sent on port `p` for the check of port `x`. A check that was
abandoned meanwhile does not act on it (R66). -/
def checkOutcome (p x : Port) (a : Nat) (o : PortOutcome) (s : State) : State :=
  let s1 := reportProbe a o s
  let c := s1.checks.get x
  if p = x then
    if c.probeTarget = some a then probingOutcome x a o s1 else s1
  else
    if c.state = .rerouting ∧ c.deciding = some a then reroutingOutcome x a o s1 else s1

/-! ## A port leaving UP (R29, R164, R165) -/

/-- Port X leaves UP while its own check runs: the break is at hop 0 and every module still routed on
X joins the cut-off list (R164). -/
def ownPortLeft (x : Port) (s : State) : State :=
  let c := s.checks.get x
  match c.state with
  | .idle => if s.anyRouted x then startCutOff x s else s
  | .probing =>
    s.setCheck x { c with
      breakLocation := 0, result := .brk, cutOff := joinPending (s.routedLive x) c.cutOff,
      state := .rerouting, tries := 0, deciding := none }
  | .rerouting =>
    s.setCheck x { c with
      breakLocation := 0, cutOff := joinPending (s.routedLive x) c.cutOff }

/-- Every module still PENDING becomes LOST, in ascending order of address (R165). -/
def losePending (x : Port) : Nat → State → State
  | 0, s => s
  | fuel + 1, s =>
    match lowest (pendingAddrs (s.checks.get x).cutOff) with
    | none => s
    | some a => losePending x fuel (loseModule x a s)

/-- Port Y leaves UP while the check of port X is in REROUTING (R165). -/
def otherPortLeft (x : Port) (s : State) : State :=
  let c := s.checks.get x
  if c.state = .rerouting then
    let s1 := losePending x c.cutOff.length s
    s1.setCheck x { s1.checks.get x with deciding := none }
  else s

/-! ## Abandonment (R66, R168) -/

/-- START_CENSUS: a running check returns to IDLE and keeps result, trigger and counts (R168). -/
def abandonCheck (x : Port) (s : State) : State :=
  let c := s.checks.get x
  if c.state = .idle then s
  else s.setCheck x { Check.reset with
    trigger := c.trigger, result := c.result, rerouted := c.rerouted, lost := c.lost }

end Sys2Proof.Machine
end

