-- ==== Sys2Proof/Machine/Engine.lean ====
section
/-! DEFINITION. The dispatch engine (chapter 6): eligibility, attempts, the resynchronising PROBE, the
outcomes of attempts and of broadcast frames. -/

namespace Sys2Proof.Machine

/-- A port starts sending the frame it is handed (R31). -/
def handFrame (p : Port) (x : Xfer) (s : State) : State := s.setExch p (.sending x)

/-- A head-to-module frame with source 0 (R3, R31). -/
def headFrame (k : Kind) (control : BitVec 4) (dest : Nat) (register : Byte)
    (payload : List Byte) : Frame :=
  { kind := k, control := control, dest := dest, source := 0, register := register,
    payload := payload }

/-! ## Eligibility (R106) -/

/-- A slot at the front is eligible on a port (R106). -/
def State.eligible (s : State) (p : Port) (t : Tag) : Bool :=
  let x := s.slot t
  let a := x.target.getD 0
  s.atFront t && x.target.isSome && (x.kind.map ReqKind.targeted).getD false
    && (x.state == .queued || (x.state == .waitingRetry && x.backoff.isNone))
    && (s.entry a).state == .active && (s.entry a).route == some p
    && !s.held a && (s.frontCheck x).isNone

/-- The eligible slot with the lowest submission sequence (R106). -/
def State.nextEligible (s : State) (p : Port) : Option Tag :=
  s.unfinishedTags.find? fun t => s.eligible p t

/-- An ACTIVE BCAST_WRITE that this port is still to carry (R104, R121). -/
def State.nextBcast (s : State) (p : Port) : Option Tag :=
  s.unfinishedTags.find? fun t =>
    (s.slot t).isBcast && (s.slot t).state == .active && (s.slot t).bcastPorts.get p
      && !s.bcastSending t p

/-! ## Making an attempt (R109, R117, R121) -/

/-- The toggle bit of a toggle; UNSURE is never sent (R117). -/
def Toggle.bit : Toggle → Bool
  | .one => true
  | _ => false

/-- The control field of a toggle bit. -/
def toggleControl (b : Bool) : BitVec 4 := if b then 1 else 0

/-- The frame of a targeted slot's kind (R109). -/
def attemptFrame (x : Slot) (k : ReqKind) (toggle : Bool) : Frame :=
  let a := x.target.getD 0
  match k with
  | .read => headFrame .read 0 a x.register [BitVec.ofNat 8 x.length]
  | .write => headFrame .write (toggleControl toggle) a x.register x.writeData
  | .probe => headFrame .probe 0 a 0 []
  | .restart => headFrame .restart 0 a 0 []
  | .bcastWrite => headFrame .bcastWrite 0 Config.broadcast x.register x.writeData

/-- The toggle of a WRITE slot's frame: its toggle used, fixed at its first WRITE frame from the
target entry's toggle (R116). -/
def writeToggle (x : Slot) (e : RosterEntry) : Bool := x.toggleUsed.getD e.toggle.bit

/-- An attempt of a targeted slot (R109). -/
def makeAttempt (p : Port) (t : Tag) (k : ReqKind) (s : State) : State :=
  let x := s.slot t
  let e := s.entry (x.target.getD 0)
  let b := writeToggle x e
  let s1 := s.setSlot t { x with
    state := .active
    attempts := x.attempts + 1
    toggleUsed := if k = .write then some b else x.toggleUsed }
  handFrame p { frame := attemptFrame x k b, hops := e.hopsOn p, owner := .attempt t } s1

/-- A resynchronising PROBE in place of the WRITE, which becomes the port's follow-up WRITE (R117). -/
def makeResync (p : Port) (t : Tag) (s : State) : State :=
  let x := s.slot t
  let a := x.target.getD 0
  let s1 := s.setSlot t { x with state := .active }
  let s2 := { s1 with followUps := s1.followUps.set p (some t) }
  handFrame p
    { frame := headFrame .probe 0 a 0 [], hops := (s.entry a).hopsOn p, owner := .resync t } s2

/-- The slot is a WRITE with no WRITE frame made yet and an UNSURE target (R117). -/
def State.needsResync (s : State) (t : Tag) : Bool :=
  let x := s.slot t
  x.kind == some .write && x.toggleUsed.isNone && (s.entry (x.target.getD 0)).toggle == .unsure

/-- The next exchange of an eligible slot (R106). -/
def startSlot (p : Port) (t : Tag) (s : State) : State :=
  if s.needsResync t then makeResync p t s
  else
    match (s.slot t).kind with
    | some k => makeAttempt p t k s
    | none => s

/-- A frame of an ACTIVE BCAST_WRITE handed to a port (R121). -/
def startBcast (p : Port) (t : Tag) (s : State) : State :=
  let x := s.slot t
  let s1 := s.setSlot t { x with attempts := x.attempts + 1 }
  handFrame p { frame := attemptFrame x .bcastWrite false, hops := 0, owner := .bcast t } s1

/-! ## Outcomes of attempts (R87, R110..R113, R99, R65) -/

/-- The history after an attempt (R87). -/
def historyAfter (h : History) (o : PortOutcome) : History :=
  match o with
  | .reply f => if f.kind = .nak then .naked else .acked
  | .timeout | .crcError | .symbolError => .sentNoReply
  | .linkLost true => .sentNoReply
  | .linkLost false => h
  | .sent => .sentNoReply

/-- The records of an ACKed RESTART: toggle 0, last_seq NONE, mirror entry EMPTY (R119, R152). -/
def restartAcked (a : Nat) (s : State) : State :=
  clearStatus a (setLastSeq a none (setToggle a .zero s))

/-- The roster report of an attempt (R46, R47, R48, R110 part 1). -/
def reportAttempt (k : ReqKind) (a : Nat) (f : Frame) (o : PortOutcome) (s : State) : State :=
  match o with
  | .reply r =>
    let s1 := reportGood a s
    match k, r.kind with
    | .write, .ack => setToggle a (Toggle.ofBit (!f.control.getLsbD 0)) s1
    | .probe, .ident => setToggle a .zero s1
    | .restart, .ack => restartAcked a s1
    | _, _ => s1
  | .timeout | .crcError | .symbolError => reportFailure a s
  | .sent | .linkLost _ => s

/-- What an attempt's outcome asks for its slot, before cancel and census (R110). -/
inductive Decision where
  /-- the request is carried out: DONE with this status and data -/
  | success (status : Status) (data : List Byte)
  /-- a NAK other than BUSY: DONE REJECTED -/
  | rejected
  /-- NAK BUSY (R111) -/
  | busy
  /-- a failed attempt (R112), or LINK_LOST sent in part (R113) -/
  | failed
  /-- LINK_LOST not sent (R113) -/
  | notSent
  deriving DecidableEq, Repr

/-- The status of an IDENT to a PROBE: OK if maker, type and serial equal the roster's (R110). -/
def identStatus (e : RosterEntry) (f : Frame) : Status :=
  match e.identity with
  | some i => if i.sameModule (Identity.ofBytes f.payload) then .ok else .identityMismatch
  | none => .identityMismatch

/-- The decision of an outcome (R110's table). -/
def decisionOf (e : RosterEntry) (o : PortOutcome) : Decision :=
  match o with
  | .reply f =>
    match f.kind with
    | .nak => if nakReason f = .busy then .busy else .rejected
    | .data => .success .ok f.payload
    | .ident => .success (identStatus e f) f.payload
    | _ => .success .ok []
  | .timeout | .crcError | .symbolError => .failed
  | .linkLost true => .failed
  | .linkLost false => .notSent
  | .sent => .failed

/-- WAITING_RETRY with or without a backoff; in a census the slot ends ROSTER_CHANGED instead
(R65). -/
def waitOrFlush (t : Tag) (backoff : Option Nat) (s : State) : State :=
  if s.censusRunning then completeActive t .rosterChanged false [] s
  else s.setSlot t { s.slot t with state := .waitingRetry, backoff := backoff }

/-- The busy backoff in microseconds (R111). -/
def State.backoffUs (s : State) : Nat := s.params.busyBackoff * 100

/-- The slot decision after NAK BUSY: BUSY_EXHAUSTED at BUSY_LIMIT, else one more busy count and a
backoff (R111). -/
def busyDecision (t : Tag) (s : State) : State :=
  let x := s.slot t
  if s.params.busyLimit ≤ x.busyCount then completeActive t .busyExhausted false [] s
  else
    waitOrFlush t (some s.backoffUs) (s.setSlot t { x with busyCount := x.busyCount + 1 })

/-- The slot decision after a failed attempt: WAITING_RETRY below 1 + RETRY_LIMIT attempts, else
TIMEOUT (R112, R113). -/
def failedDecision (t : Tag) (s : State) : State :=
  if (s.slot t).attempts < 1 + s.params.retryLimit then waitOrFlush t none s
  else completeActive t .timeout false [] s

/-- The count of attempts after an outcome: NAK BUSY and LINK_LOST not sent do not use one up (R111,
R113, log 19). -/
def attemptsAfter (n : Nat) (d : Decision) : Nat :=
  match d with
  | .busy | .notSent => n - 1
  | _ => n

/-- The slot decision (R110 part 3), with R99 where cancel_requested is yes. -/
def decideSlot (t : Tag) (d : Decision) (s : State) : State :=
  if (s.slot t).cancelRequested then
    match d with
    | .success st data => completeActive t st true data s
    | _ => completeActive t .cancelled false [] s
  else
    match d with
    | .success st data => completeActive t st false data s
    | .rejected => completeActive t .rejected false [] s
    | .busy => busyDecision t s
    | .failed => failedDecision t s
    | .notSent => waitOrFlush t none s

/-- The outcome of an attempt: roster report, history, slot decision, in this order (R110). -/
def attemptOutcome (t : Tag) (f : Frame) (o : PortOutcome) (s : State) : State :=
  let x := s.slot t
  match x.kind with
  | none => s
  | some k =>
    let a := x.target.getD 0
    let d := decisionOf (s.entry a) o
    let s1 := reportAttempt k a f o s
    let y := s1.slot t
    let s2 := s1.setSlot t { y with
      history := historyAfter y.history o, attempts := attemptsAfter y.attempts d }
    decideSlot t d s2

/-! ## Outcome of the resynchronising PROBE (R118) -/

/-- The roster report of the PROBE (R46, R47). -/
def reportResync (a : Nat) (o : PortOutcome) (s : State) : State := reportProbe a o s

/-- The follow-up WRITE dropped or handed over: cleared either way (R118). -/
def clearFollowUp (p : Port) (s : State) : State :=
  { s with followUps := s.followUps.set p none }

/-- A matching IDENT: the follow-up WRITE goes out in the same step with toggle used 0; in a census it
is not sent and the slot ends ROSTER_CHANGED (R118). -/
def resyncMatched (p : Port) (t : Tag) (s : State) : State :=
  if s.censusRunning then completeActive t .rosterChanged false [] s
  else makeAttempt p t .write (s.setSlot t { s.slot t with toggleUsed := some false })

/-- The outcome of the resynchronising PROBE (R118): not an attempt, so attempts used and history
stay. A cancel completes the slot CANCELLED on any outcome (R99). -/
def resyncOutcome (p : Port) (t : Tag) (o : PortOutcome) (s : State) : State :=
  let a := (s.slot t).target.getD 0
  let d := decisionOf (s.entry a) o
  let s1 := clearFollowUp p (reportResync a o s)
  if (s1.slot t).cancelRequested then completeActive t .cancelled false [] s1
  else
    match d with
    | .success .identityMismatch _ => completeActive t .identityMismatch false [] s1
    | .success _ _ => resyncMatched p t s1
    | .rejected => completeActive t .rejected false [] s1
    | .busy => busyDecision t s1
    | .failed => waitOrFlush t none s1
    | .notSent => waitOrFlush t none s1

/-! ## Outcome of a broadcast frame (R121, R100, R65) -/

/-- How a BCAST_WRITE that is to send no more ends: CANCELLED after a cancel, ROSTER_CHANGED in a
census, OK otherwise (R100, R65, R121). -/
def bcastStatus (s : State) (x : Slot) : Status :=
  if x.cancelRequested then .cancelled
  else if s.censusRunning then .rosterChanged
  else .ok

/-- With no port left to carry it, the broadcast completes. -/
def bcastMaybeDone (t : Tag) (s : State) : State :=
  let x := s.slot t
  if x.bcastPorts.a || x.bcastPorts.b then s else finish t (bcastStatus s x) s

/-- A broadcast frame's outcome at a port: the port leaves the set; sent, in whole or in part, is
recorded; not sent uncounts the attempt (R121). DEDUCED, unsafe (log 38): of a cancelled broadcast whose frame
being sent ends not sent, and of which nothing else went out, the history stays NOT_SENT and the effect is
NOT_APPLIED by R94 and R121, where R100 and R65 say UNKNOWN for the frame that goes out to its end. -/
def bcastOutcome (p : Port) (t : Tag) (o : PortOutcome) (s : State) : State :=
  let x := s.slot t
  let x1 := { x with bcastPorts := x.bcastPorts.set p false }
  let x2 :=
    match o with
    | .linkLost false => { x1 with attempts := x1.attempts - 1 }
    | _ => { x1 with bcastSent := true, history := .sentNoReply }
  bcastMaybeDone t (s.setSlot t x2)

/-- A port in the set leaves UP before its frame is handed over: it leaves the set (R121). -/
def bcastPortGone (p : Port) (t : Tag) (s : State) : State :=
  let x := s.slot t
  if x.isBcast && x.state == .active && x.bcastPorts.get p then
    bcastMaybeDone t (s.setSlot t { x with bcastPorts := x.bcastPorts.set p false })
  else s

/-- Every waiting broadcast loses the port that left UP. -/
def bcastPortGoneAll (p : Port) (s : State) : State :=
  s.unfinishedTags.foldl (fun s' t => bcastPortGone p t s') s

end Sys2Proof.Machine
end

