-- ==== Sys2Proof/Machine/Sweep.lean ====
section
/-! DEFINITION. The sweep (chapter 7): which entries are due or can be fetched, the choice of a sweep
frame, and the outcomes of POLL and FETCH (R127..R135, R144..R147). -/

namespace Sys2Proof.Machine

/-! ## Due and fetchable -/

/-- A POLL or FETCH to the module is in flight (R128). -/
def State.sweepInFlight (s : State) (a : Nat) : Bool :=
  s.carries .a (.poll a) || s.carries .a (.fetch a)
    || s.carries .b (.poll a) || s.carries .b (.fetch a)

/-- The first three conditions of R128. -/
def State.sweepable (s : State) (p : Port) (a : Nat) : Bool :=
  (s.entry a).state == .active && (s.entry a).route == some p && !s.held a && !s.sweepInFlight a

/-- A mirror entry is due on a port (R128). -/
def State.due (s : State) (p : Port) (a : Nat) : Bool :=
  s.sweepable p a &&
    ((s.status a).state == .empty || decide (s.params.sweepPeriod ≤ (s.status a).age))

/-- The conditions of a fetch on a port but for the reservation (R135, R146). -/
def State.wantsFetch (s : State) (p : Port) (a : Nat) : Bool :=
  (s.status a).fetchWanted && s.sweepable p a

/-- The sweep may offer frames: SWEEP_ENABLE on, no census running (R127). -/
def State.sweepOn (s : State) : Bool := s.params.sweepEnable && !s.censusRunning

/-! ## Choosing (R129) -/

/-- The addresses from the cursor itself up to 62, then from 1 (R129 step 1). -/
def fetchOrder (cursor : Nat) : List Nat :=
  addresses.filter (fun a => decide (cursor ≤ a)) ++ addresses.filter (fun a => decide (a < cursor))

/-- The addresses above the cursor up to 62, then from 1 to the cursor itself (R129 step 2). -/
def pollOrder (cursor : Nat) : List Nat :=
  addresses.filter (fun a => decide (cursor < a)) ++ addresses.filter (fun a => decide (a ≤ cursor))

/-- What the sweep would hand a port. -/
inductive SweepChoice where
  | fetch (addr : Nat)
  | poll (addr : Nat)
  | nothing
  deriving DecidableEq, Repr

/-- The sweep's choice for a port (R127, R129). -/
def State.sweepChoice (s : State) (p : Port) : SweepChoice :=
  if s.sweepOn then
    match (if s.canReserve p then (fetchOrder (s.cursors.get p)).find? (s.wantsFetch p) else none) with
    | some a => .fetch a
    | none =>
      match (pollOrder (s.cursors.get p)).find? (s.due p) with
      | some a => .poll a
      | none => .nothing
  else .nothing

/-- A FETCH is withheld on a port for want of a place (R146). -/
def State.backlog (s : State) (p : Port) : Bool :=
  s.sweepOn && addresses.any (s.wantsFetch p) && s.noPlace

/-- A sweep frame to an address (R130, R135, R150). -/
def sweepXfer (k : Kind) (o : Owner) (p : Port) (a : Nat) (s : State) : Xfer :=
  let (c, payload) := ackFields (s.entry a).lastSeq
  { frame := headFrame k c a 0 payload, hops := (s.entry a).hopsOn p, owner := o }

/-- The cursor of a port set to the address of the frame handed to it (R129). -/
def setCursor (p : Port) (a : Nat) (s : State) : State :=
  { s with cursors := s.cursors.set p a }

/-- A sweep frame handed to the port; a FETCH with its reservation (R129, R135, R144). -/
def startSweep (p : Port) (c : SweepChoice) (s : State) : State :=
  match c with
  | .fetch a =>
    handFrame p (sweepXfer .fetch (.fetch a) p a s) (reserve p a (setCursor p a s))
  | .poll a => handFrame p (sweepXfer .poll (.poll a) p a s) (setCursor p a s)
  | .nothing => s

/-! ## Outcomes -/

/-- The outcome of a POLL (R131, R133, R134). -/
def pollOutcome (a : Nat) (o : PortOutcome) (s : State) : State :=
  match o with
  | .reply f =>
    if f.kind = .status then storeStatus a (StatusReport.ofBytes f.payload) (reportGood a s)
    else countMiss a (reportGood a s)
  | .timeout | .crcError | .symbolError => countMiss a (reportFailure a s)
  | .sent | .linkLost _ => s

/-- The outcome of a FETCH (R135, R145, R147). -/
def fetchOutcome (p : Port) (a : Nat) (o : PortOutcome) (s : State) : State :=
  match o with
  | .reply f =>
    if f.kind = .notice then judgeNotice p a f (reportGood a s)
    else release p (setFetchWanted a false (reportGood a s))
  | .timeout | .crcError | .symbolError => release p (reportFailure a s)
  | .sent | .linkLost _ => release p s

end Sys2Proof.Machine
end

