-- ==== Sys2Proof/Machine/CensusOps.lean ====
section
/-! DEFINITION. The census controller (chapter 4): the start, the clear, RELEASE and CLAIM, the outcomes
of the walks, the finish and the stop. -/

namespace Sys2Proof.Machine

/-! ## START_CENSUS and ABORT_CENSUS -/

/-- START_CENSUS taken from IDLE: result and reason NONE, DRAINING, the flush, the checks abandoned
(R63, R65, R66). -/
def startCensus (s : State) : State :=
  let s1 := { s with census := { s.census with
    result := .none, reason := .none, stopPending := none, state := .draining } }
  abandonCheck .b (abandonCheck .a (flushAll s1))

/-- ABORT_CENSUS taken: the first cause stands; a running settle is stopped (R78). -/
def abortCensus (s : State) : State :=
  { s with census := { s.census with
    stopPending := match s.census.stopPending with
      | none => some .aborted
      | some c => some c
    settleTimer := false } }

/-- A failure found: it sets stop pending where none is pending (R79). -/
def failCensus (r : CensusReason) (s : State) : State :=
  match s.census.stopPending with
  | none => { s with census := { s.census with stopPending := some (.failed r) } }
  | some _ => s

/-! ## The end (R77, R79) -/

/-- The census state returns to IDLE with a result, which raises CENSUS_DONE (R81). Stop pending keeps
its value until the next START_CENSUS (R63). -/
def endCensus (r : CensusResult) (why : CensusReason) (s : State) : State :=
  { s with census := { s.census with
    state := .idle, result := r, reason := why, settleTimer := false }
  }.raiseCensusDone

/-- The lock at a finish (R54, R58, R77 step 3). -/
def decideLock (s : State) : State :=
  if s.params.expectEnable then
    if s.fingerprint = s.params.expectedFp then { s with lockHeld := false }
    else { s with lockHeld := true }.raiseLockHeld
  else { s with lockHeld := false }

/-- The census finishes (R77). -/
def finishCensus (s : State) : State :=
  let s1 := { s with rosterState := .valid, fingerprint := s.computeFingerprint }
  endCensus (if s.exceeded then .exceeded else .ok) .none (decideLock s1)

/-- A port that is not UP with entries routed on it starts its check (R79 step 6). -/
def startCheckIfDown (p : Port) (s : State) : State :=
  if !s.isUp p && s.anyRouted p && !s.checkRunning p then startCutOff p s else s

/-- The result and reason of a stop cause (R79 step 5). -/
def StopCause.result : StopCause → CensusResult
  | .aborted => .aborted
  | .failed _ => .failed

def StopCause.reason : StopCause → CensusReason
  | .aborted => .none
  | .failed r => r

/-- The census stops (R79). The slots it held come to the front when its state becomes IDLE (step 5) and meet
the front checks at once (R105, R107), before a check is started (step 6). -/
def stopCensus (c : StopCause) (s : State) : State :=
  let s1 := { s with rosterState := .partly, fingerprint := s.computeFingerprint }
  let s2 := frontPass (endCensus c.result c.reason s1)
  startCheckIfDown .b (startCheckIfDown .a s2)

/-! ## The clear (R67, R68) -/

/-- The steps of the clear, 1 to 5 (R67). -/
def clearCensus (s : State) : State :=
  let s1 := clearMirror (clearRoster (flushQueued s))
  { s1 with
    reservations := { a := none, b := none }
    census := { s1.census with
      ports := { a := s1.isUp .a, b := s1.isUp .b }
      nextAddr := 1, position := 0, tries := 0
      released := { a := false, b := false }, settleTimer := false } }

/-- What follows the clear: a stop, NO_PORT, or RELEASING (R67, R68). -/
def afterClear (s : State) : State :=
  match s.census.stopPending with
  | some c => stopCensus c s
  | none =>
    if s.census.ports.a || s.census.ports.b then
      { s with census := { s.census with state := .releasing } }
    else endCensus .failed .noPort { s with rosterState := .partly }

/-! ## Frames of the census (R69, R71) -/

/-- The RELEASE frame (section 1.2). -/
def releaseFrame : Frame := headFrame .release 0 Config.broadcast 0 []

/-- A RELEASE is ready on a port: port A first, port B once A's has ended (R69). -/
def State.releaseReady (s : State) (p : Port) : Bool :=
  s.census.ports.get p && !s.census.released.get p && s.census.stopPending.isNone
    && !s.censusInFlight &&
    match p with
    | .a => true
    | .b => !s.census.ports.a || s.census.released.a

/-- A CLAIM is ready in a walk: no stop is pending, none is in flight, and the address to offer is not
63 (R71, R73, R78). -/
def State.claimReady (s : State) : Bool :=
  s.census.stopPending.isNone && !s.censusInFlight && decide (s.census.nextAddr < 63)

/-- The CLAIM of a walk's position: address offered, position, window's hop count (R71, R75). -/
def claimXfer (s : State) (pos : Nat) : Xfer :=
  { frame := headFrame .claim 0 s.census.nextAddr 0 [BitVec.ofNat 8 pos], hops := pos,
    owner := .census }

/-- A CLAIM handed over: position becomes the walk's tail + 1, and try counts the CLAIMs for that
position (R71). -/
def startClaim (p : Port) (s : State) : State :=
  let pos := s.tails.get p + 1
  let n := if s.census.position = pos then s.census.tries + 1 else 1
  handFrame p (claimXfer s pos)
    { s with census := { s.census with position := pos, tries := n } }

/-- The census frame for a port, if it has one (R64, R69, R71, R75). -/
def handCensus (p : Port) (s : State) : State :=
  match s.census.state, p with
  | .releasing, _ =>
    if s.releaseReady p then
      handFrame p { frame := releaseFrame, hops := 0, owner := .census } s
    else s
  | .walkA, .a => if s.claimReady then startClaim .a s else s
  | .walkB, .b => if s.claimReady then startClaim .b s else s
  | _, _ => s

/-- The state a walk starts in: position 0, try 0 (R74). -/
def enterWalk (w : CensusState) (s : State) : State :=
  { s with census := { s.census with state := w, position := 0, tries := 0 } }

/-- A RELEASE has ended SENT; after the last one the settle starts (R69). With a stop pending neither
the other RELEASE nor the settle is started (R78). -/
def releaseSent (p : Port) (s : State) : State :=
  let r := s.census.released.set p true
  let allSent := (!s.census.ports.a || r.a) && (!s.census.ports.b || r.b)
  { s with census := { s.census with
    released := r, settleTimer := s.census.stopPending.isNone && allSent } }

/-! ## Outcomes of CLAIMs (R72, R73, R75, R76, R78) -/

/-- A claim in a walk: the entry is created, the walk's tail and the next address advance (R49, R72,
R75). -/
def takeClaim (p : Port) (f : Frame) (s : State) : State :=
  let s1 := s.setEntry s.census.nextAddr
    (createdEntry p s.census.position (Identity.ofBytes f.payload))
  { s1 with
    tails := s1.tails.set p (s1.tails.get p + 1)
    census := { s1.census with nextAddr := s1.census.nextAddr + 1 } }

/-- After a claim: address 63 is never offered; with none to offer EXCEEDED is set and the census
finishes (R73, R77). A stop pending keeps the census from finishing (R78). -/
def afterClaim (s : State) : State :=
  if s.census.nextAddr = 63 ∧ s.census.stopPending = none then
    finishCensus { s with exceeded := true }
  else s

/-- The end of walk A by two failed CLAIMs (R74). -/
def endWalkA (s : State) : State :=
  if s.census.stopPending = none then
    if s.census.ports.b then enterWalk .walkB s else finishCensus s
  else s

/-- The end of walk B by two failed CLAIMs: the ring is OPEN and the census finishes (R75). -/
def endWalkB (s : State) : State :=
  let s1 := { s with ringState := .opened }
  if s1.census.stopPending = none then finishCensus s1 else s1

/-- Ring closure: every entry gets a hops_b of tail_a − hops_a + 1 (R76). -/
def closedHops (tailA : Nat) (e : RosterEntry) : RosterEntry :=
  match e.hops.a with
  | some h => { e with hops := { e.hops with b := some (tailA - h + 1) } }
  | none => e

/-- Ring closure (R76); the census finishes unless a stop is pending (R78). -/
def closeRing (s : State) : State :=
  let s1 := { s with ringState := .closed, roster := mapCells (closedHops s.tails.a) s.roster }
  if s1.census.stopPending = none then finishCensus s1 else s1

/-- The IDENT is a claim: "fresh", or "assigned" from the address offered at try 2 (R72, R75). -/
def isClaim (s : State) (f : Frame) : Bool :=
  identFresh f || (f.source == s.census.nextAddr && s.census.tries == 2)

/-- The IDENT closes the ring (R75): from the end of walk A, before walk B has claimed. -/
def isClosure (s : State) (f : Frame) : Bool :=
  s.tails.b == 0 && decide (1 ≤ s.tails.a) && (s.entry f.source).hops.a == some s.tails.a

/-- The outcome of a CLAIM in walk A (R72). -/
def claimOutcomeA (o : PortOutcome) (s : State) : State :=
  match o with
  | .reply f =>
    if isClaim s f then afterClaim (takeClaim .a f s) else failCensus .staleAddress s
  | .timeout | .crcError | .symbolError => if s.census.tries = 2 then endWalkA s else s
  | .linkLost _ => failCensus .portLost s
  | .sent => s

/-- The outcome of a CLAIM in walk B, the rows in order (R75). -/
def claimOutcomeB (o : PortOutcome) (s : State) : State :=
  match o with
  | .reply f =>
    if isClaim s f then afterClaim (takeClaim .b f s)
    else if isClosure s f then closeRing s
    else failCensus .ringConflict s
  | .timeout | .crcError | .symbolError => if s.census.tries = 2 then endWalkB s else s
  | .linkLost _ => failCensus .portLost s
  | .sent => s

/-- The outcome of a census exchange on a port. -/
def censusOutcome (p : Port) (o : PortOutcome) (s : State) : State :=
  match s.census.state with
  | .releasing =>
    match o with
    | .sent => releaseSent p s
    | .linkLost _ => failCensus .portLost s
    | _ => s
  | .walkA => claimOutcomeA o s
  | .walkB => claimOutcomeB o s
  | _ => s

/-! ## A census port leaving UP (R70, R80) -/

/-- A census port leaving UP in RELEASING or a walk makes the census stop with PORT_LOST; a running
settle is stopped (R70, R80). -/
def censusPortLeft (p : Port) (s : State) : State :=
  match s.census.state with
  | .releasing | .walkA | .walkB =>
    if s.census.ports.get p then
      let s1 := failCensus .portLost s
      { s1 with census := { s1.census with settleTimer := false } }
    else s
  | _ => s

end Sys2Proof.Machine
end

