-- ==== Sys2Proof/Machine/Ports.lean ====
section
/-! DEFINITION. The chain ports (chapter 2): link changes, the end of an exchange and who is told, frames
sent, frames received inside and outside a reply window, and the arbiter (R103, R104). -/

namespace Sys2Proof.Machine

/-! ## The end of an exchange (R38) -/

/-- The outcome handed to the owner of the exchange that ended on port `p` (R38). -/
def applyOutcome (p : Port) (x : Xfer) (o : PortOutcome) (s : State) : State :=
  match x.owner with
  | .census => censusOutcome p o s
  | .check q => checkOutcome p q x.frame.dest o s
  | .attempt t => attemptOutcome t x.frame o s
  | .resync t => resyncOutcome p t o s
  | .bcast t => bcastOutcome p t o s
  | .poll a => pollOutcome a o s
  | .fetch a => fetchOutcome p a o s

/-- The exchange ends with an outcome: the port goes to IDLE, the owner is told, and what follows in
the same step is done (R38). -/
def endExchange (p : Port) (x : Xfer) (o : PortOutcome) (s : State) : State :=
  settle (applyOutcome p x o (s.setExch p .idle))

/-! ## Counters (R41) -/

def countCrcError (p : Port) (s : State) : State :=
  s.setPort p { s.port p with crcErrors := satInc 255 (s.port p).crcErrors }

def countSymbolError (p : Port) (s : State) : State :=
  s.setPort p { s.port p with symbolErrors := satInc 255 (s.port p).symbolErrors }

def countTimeout (p : Port) (s : State) : State :=
  s.setPort p { s.port p with timeouts := satInc 65535 (s.port p).timeouts }

def countLate (p : Port) (s : State) : State :=
  s.setPort p { s.port p with lateReplies := satInc 255 (s.port p).lateReplies }

def countStray (p : Port) (s : State) : State :=
  s.setPort p { s.port p with strayReplies := satInc 255 (s.port p).strayReplies }

/-- The exchange ends with TIMEOUT (R36). -/
def timeoutExchange (p : Port) (x : Xfer) (s : State) : State :=
  endExchange p x .timeout (countTimeout p s)

/-! ## Reception (R31, R34..R37) -/

/-- The port's reception replaced. -/
def State.setRx (s : State) (p : Port) (r : Receiving) : State :=
  s.setPort p { s.port p with rx := r }

/-- A discarded or stray frame, or one that was lost, has ended: the exchange ends with TIMEOUT if its
window ran out meanwhile (R36). -/
def afterDiscard (p : Port) (x : Xfer) (ranOut : Bool) (s : State) : State :=
  if ranOut then timeoutExchange p x s else s

/-- A frame of the exchange received to its end, judged in the order of R34. -/
def judgeInWindow (p : Port) (x : Xfer) (ranOut : Bool) (r : Reception) (s : State) : State :=
  match r with
  | .symbolError => endExchange p x .symbolError (countSymbolError p s)
  | .content bytes =>
    match judge bytes with
    | .damaged => endExchange p x .crcError (countCrcError p s)
    | .headKind => afterDiscard p x ranOut s
    | .good f =>
      if acceptsReply x.frame f then endExchange p x (.reply f) s
      else afterDiscard p x ranOut (countStray p s)

/-- A frame of no exchange received to its end: counted and discarded (R37). -/
def judgeOutside (p : Port) (r : Reception) (s : State) : State :=
  match r with
  | .symbolError => countSymbolError p s
  | .content bytes =>
    match judge bytes with
    | .damaged => countCrcError p s
    | .headKind => s
    | .good _ => countLate p s

/-- A frame being received ends: it is judged as one of the exchange or of none. -/
def endReception (p : Port) (r : Reception) (s : State) : State :=
  match (s.port p).rx with
  | .nothing => s
  | .outside => judgeOutside p r (s.setRx p .nothing)
  | .ofExchange =>
    match (s.port p).exch with
    | .awaiting x _ ranOut => judgeInWindow p x ranOut r (s.setRx p .nothing)
    | _ => s.setRx p .nothing

/-- Reception begins: of the exchange in AWAITING, of no exchange in IDLE; in SENDING and HELD the
port does not receive (R32, R34, R37). -/
def beginReception (p : Port) (s : State) : State :=
  match (s.port p).exch with
  | .awaiting _ _ _ => s.setRx p .ofExchange
  | .idle => s.setRx p .outside
  | _ => s

/-- The frame being received is lost with the signal: it has ended without being judged (R31, log
14). -/
def loseReception (p : Port) (s : State) : State :=
  match (s.port p).rx, (s.port p).exch with
  | .ofExchange, .awaiting x _ ranOut => afterDiscard p x ranOut (s.setRx p .nothing)
  | _, _ => s.setRx p .nothing

/-! ## Link changes (R25, R28, R29, R39) -/

/-- A port enters UP: PORT_CHANGE, its exchange goes from HELD to IDLE (R29). -/
def enterUp (p : Port) (s : State) : State :=
  (s.setPort p { s.port p with
    link := .up, idleRun := Config.alignRun, lossTimer := false, exch := .idle, rx := .nothing
  }).raisePortChange

/-- LINK_LOST of the exchange in flight: a frame in AWAITING went out whole; of one in SENDING it is
the free value of log 11 whether any part did (R39). -/
def lostOutcome (x : Exchange) (free : Nat) : PortOutcome :=
  match x with
  | .sending _ => .linkLost (Config.startDelimiterOut free)
  | _ => .linkLost true

/-- The port as it leaves UP: PORT_CHANGE, the exchange HELD, nothing being received (R29, R39). -/
def dropLink (p : Port) (l : LinkState) (s : State) : State :=
  (s.setPort p { s.port p with
    link := l, idleRun := 0, lossTimer := false, exch := .held, rx := .nothing
  }).raisePortChange

/-- The owner of the exchange in flight is told LINK_LOST (R29 step 1, R39). -/
def tellLinkLost (p : Port) (e : Exchange) (free : Nat) (s : State) : State :=
  match e.xfer with
  | some x => applyOutcome p x (lostOutcome e free) s
  | none => s

/-- What the reach checks make of the port's leaving UP; while the census runs there is none (R29
step 3, R164, R165). -/
def tellChecks (p : Port) (s : State) : State :=
  if s.censusRunning then s else ownPortLeft p (otherPortLeft p.other s)

/-- R29 step 1: the port leaves UP, its exchange in flight and the broadcasts that wait for it end, and the slots
that come to the front behind them meet their checks at once (R107, R121). -/
def endTraffic (p : Port) (l : LinkState) (s : State) : State :=
  frontPass (bcastPortGoneAll p (tellLinkLost p (s.port p).exch s.freeCount (dropLink p l s)))

/-- Leaving UP: the port and its traffic, the census, the checks, in this order (R29); then what follows, the
order of the two checks being the free value of log 12 (R165). -/
def leaveUp (p : Port) (l : LinkState) (s : State) : State :=
  let s2 := tellChecks p (censusPortLeft p (endTraffic p l s))
  settleFrom (if Config.leavingPortFirst s.freeCount then p else p.other)
    { s2 with freeCount := s.freeCount + 1 }

/-- The port enable cleared: DISABLED from any link state, leaving UP from UP (R25). -/
def disablePort (p : Port) (s : State) : State :=
  match (s.port p).link with
  | .up => leaveUp p .disabled s
  | .disabled => s
  | _ => s.setPort p { s.port p with link := .disabled, idleRun := 0 }

/-- The port enable set: a DISABLED port goes to DOWN (R25). -/
def enablePort (p : Port) (s : State) : State :=
  if (s.port p).link = .disabled then s.setPort p { s.port p with link := .down } else s

/-! ## Frame sent (R32, R33) -/

/-- The reply window in microseconds: REPLY_BASE + HOP_ALLOW × h (R33). -/
def State.windowUs (s : State) (h : Nat) : Nat := s.params.replyBase + s.params.hopAllow * h

/-- The end delimiter of a frame has gone out (R32). -/
def frameGone (p : Port) (x : Xfer) (s : State) : State :=
  if x.frame.kind.noReply then endExchange p x .sent s
  else s.setExch p (.awaiting x (s.windowUs x.hops) false)

/-- The reply window runs out: while a frame of the exchange is received the port waits for it,
otherwise the exchange ends with TIMEOUT (R36). -/
def windowRunsOut (p : Port) (s : State) : State :=
  match (s.port p).exch with
  | .awaiting x w false =>
    if (s.port p).rx = .ofExchange then s.setExch p (.awaiting x w true)
    else timeoutExchange p x s
  | _ => s

/-! ## The arbiter (R103, R104) -/

/-- The three conditions under which the arbiter hands a frame (R103, R31). -/
def State.canHand (s : State) (p : Port) : Bool :=
  s.isUp p && (s.port p).exch == .idle && (s.port p).rx == .nothing

/-- A check-class PROBE handed to a port (R159, R162): try counts it. -/
def startProbe (p x : Port) (a : Nat) (s : State) : State :=
  let c := s.checks.get x
  handFrame p
    { frame := headFrame .probe 0 a 0 [], hops := (s.entry a).hopsOn p, owner := .check x }
    (s.setCheck x { c with tries := c.tries + 1 })

/-- The module of the re-route probe that the check of a port has ready for the other port (R162). -/
def State.rerouteReady (s : State) (x : Port) : Option Nat :=
  let c := s.checks.get x
  if c.state = .rerouting then c.deciding else none

/-- The turn marker of a port set (R104). -/
def setMarker (p : Port) (t : Turn) (s : State) : State :=
  { s with markers := s.markers.set p t }

/-- The host frame ready on a port: an ACTIVE broadcast it is to carry, or an eligible slot (R104). -/
inductive HostFrame where
  | bcast (tag : Tag)
  | slot (tag : Tag)
  deriving DecidableEq, Repr

/-- The host frame ready on a port, if any. -/
def State.hostFrame (s : State) (p : Port) : Option HostFrame :=
  match s.nextBcast p with
  | some t => some (.bcast t)
  | none => (s.nextEligible p).map .slot

/-- The host frame handed over; the marker becomes HOST (R104). -/
def startHost (p : Port) (h : HostFrame) (s : State) : State :=
  match h with
  | .bcast t => startBcast p t (setMarker p .host s)
  | .slot t => startSlot p t (setMarker p .host s)

/-- Host class and sweep class share the port by alternation (R104). -/
def handShared (p : Port) (s : State) : State :=
  match s.hostFrame p, s.sweepChoice p with
  | none, .nothing => s
  | none, c => startSweep p c (setMarker p .sweep s)
  | some h, .nothing => startHost p h s
  | some h, c =>
    match s.markers.get p with
    | .host => startSweep p c (setMarker p .sweep s)
    | .sweep => startHost p h s

/-- The test for NOTICE_BACKLOG, made when the sweep decides whether it has a frame (R146). -/
def testBacklog (p : Port) (s : State) : State :=
  if s.backlog p then s.raiseNoticeBacklog else s

/-- The arbiter's choice, the first row of R103 that applies. -/
def arbitrate (p : Port) (s : State) : State :=
  if s.censusRunning then handCensus p s
  else if s.checkRunning p then
    match (s.checks.get p).probeTarget with
    | some a => startProbe p p a s
    | none =>
      match s.rerouteReady p.other with
      | some a => startProbe p p.other a s
      | none => s
  else
    match s.rerouteReady p.other with
    | some a => startProbe p p.other a s
    | none => handShared p (testBacklog p s)

/-! ## What a port puts on the line (section 2.1) -/

/-- What a chain port sends: nothing, idle symbols, or a frame between its delimiters (R25, R31,
R180). -/
inductive LineOut where
  | nothing
  | idleSymbols
  | frame (bytes : List Byte)
  deriving DecidableEq, Repr

/-- What a port sends in a state. -/
def State.lineOut (s : State) (p : Port) : LineOut :=
  if s.inReset then .nothing
  else
    match (s.port p).link with
    | .disabled => .nothing
    | _ =>
      match (s.port p).exch with
      | .sending x => .frame x.frame.wire
      | _ => .idleSymbols

end Sys2Proof.Machine
end

