-- ==== Sys2Proof/Machine/HostPort.lean ====
section
/-! DEFINITION. The host port (chapter 10): how a data byte reaches a register, the commands of CMD, the
writes and the reads with an effect, and the two resets. -/

namespace Sys2Proof.Machine

/-! ## Reaching a register (R169, R170) -/

/-- A write byte can act on this register: a write transaction stands in DATA at its address and the
part is not in reset (R169, R180, log 4). -/
def State.writeAt (s : State) (a : RegAddr) : Bool :=
  !s.inReset && s.spi == .data false && s.addrCounter == a

/-- A read byte can be taken: a read transaction stands in DATA and the part is not in reset (R169,
R180). -/
def State.readOpen (s : State) : Bool := !s.inReset && s.spi == .data true

/-- The read byte that can be taken acts on this register: the address counter stands there (R169). -/
def State.readAt (s : State) (a : RegAddr) : Bool := s.readOpen && s.addrCounter == a

/-- The address counter at a register's successor, wrapping from 0x7FFF to 0x0000 (R169). -/
def counterPast (a : RegAddr) (s : State) : State := { s with addrCounter := a + 1 }

/-- A write byte at a register: the owner's effect, and the address counter goes on (R169, R170). -/
def hostWrite (a : RegAddr) (f : State → State) (s : State) : State :=
  if s.writeAt a then counterPast a (f s) else s

/-- What SDO carries in this data byte. -/
def loadSdo (v : Byte) (s : State) : State := { s with sdoByte := v }

/-! ## Commands (R172) -/

/-- An owner's answer to a command: taken, with the state after it, or refused with a reason. -/
inductive Answer where
  | taken (after : State)
  | refused (reason : RefuseReason)

/-- CMD and CMD_RESULT set. -/
def setCmd (code : Byte) (r : CmdResult) (s : State) : State := { s with cmd := code, cmdResult := r }

/-- A command issued with a code: its answer sets CMD_RESULT, and a refusal changes nothing else but
CMD_ERROR (R172). CMD reads back the code. -/
def answerCommand (code : Byte) (a : Answer) (s : State) : State :=
  match a with
  | .taken t => setCmd code .done t
  | .refused r => (setCmd code (.refused r) s).raiseCmdError

/-- SUBMIT: the lowest FREE slot, or FULL; front checks and the broadcast choice follow (R89, R90,
R107, R120). -/
def submitAnswer (s : State) : Answer :=
  match s.lowestFree with
  | some t => .taken (settle (takeSlot t s))
  | none => .taken { s with submitResult := .full }

/-- The slot CANCEL_TAG names, if it names one (R98). -/
def State.cancelTarget (s : State) : Option Tag :=
  if h : s.cancelTag.toNat < 16 then some ⟨s.cancelTag.toNat, h⟩ else none

/-- CANCEL of a slot (R98, R100): what is behind a slot it completes may come to the front (R107). -/
def cancelSlot (t : Tag) (s : State) : Answer :=
  match (s.slot t).state with
  | .queued | .waitingRetry => .taken (settle (finish t .cancelled s))
  | .active =>
    if (s.slot t).isBcast && !s.bcastInFlight t then .taken (settle (cancelActive t s))
    else .taken (cancelActive t s)
  | .free | .done => .refused .noSuchTag

/-- CANCEL (R98). -/
def cancelAnswer (s : State) : Answer :=
  match s.cancelTarget with
  | some t => cancelSlot t s
  | none => .refused .noSuchTag

/-- POP_COMPLETION (R97). -/
def popCompletionAnswer (s : State) : Answer :=
  match s.completionQueue with
  | [] => .refused .empty
  | t :: rest => .taken (popHead t rest s)

/-- POP_NOTICE (R143). -/
def popNoticeAnswer (s : State) : Answer :=
  match s.notices with
  | [] => .refused .empty
  | _ :: rest => .taken { s with notices := rest }

/-- START_CENSUS (R63). -/
def startCensusAnswer (s : State) : Answer :=
  if s.censusRunning then .refused .busy else .taken (startCensus s)

/-- What ABORT_CENSUS does in the step it is taken: with no census exchange in flight outside DRAINING
the census is to stop at once, which CENSUS_STOP carries out (R78, R79). -/
def abortCensusAnswer (s : State) : Answer :=
  if s.censusRunning then .taken (abortCensus s) else .refused .idle

/-- ACCEPT_ROSTER (R55). -/
def acceptRosterAnswer (s : State) : Answer :=
  match s.rosterState with
  | .valid | .partly => .taken { s with lockHeld := false }
  | .empty | .building => .refused .state

/-- CLEAR_ALL_CHANGED (R136). -/
def clearAllChangedAnswer (s : State) : Answer := .taken (clearAllFlags s)

/-! ## SOFT_RESET (R173) -/

/-- A chain port at SOFT_RESET: the exchange abandoned, the counters and the hold 0; link, alignment
and enable kept (R40, R42). A frame being received goes on, as one of no exchange (log 23). -/
def softResetPort (x : ChainPort) : ChainPort :=
  { x with
    exch := if x.link = .up then .idle else .held
    rx := if x.rx = .nothing then .nothing else .outside
    crcErrors := 0
    symbolErrors := 0
    timeouts := 0
    lateReplies := 0
    strayReplies := 0
    timeoutsHold := 0 }

/-- The roster at SOFT_RESET (R61). -/
def softResetRoster (s : State) : State :=
  { s with
    roster := Vector.replicate 62 RosterEntry.vacant
    rosterState := .empty
    ringState := .unknown
    tails := { a := 0, b := 0 }
    exceeded := false
    lockHeld := false
    epoch := s.epoch + 1
    fingerprint := 0
    rosterSel := 0
    rosterWindow := RosterEntry.vacant }

/-- The request unit and the dispatch engine at SOFT_RESET (R102, R123). -/
def softResetRequests (s : State) : State :=
  { s with
    mailbox := Mailbox.reset
    slots := Vector.replicate 16 Slot.free
    submissionCounter := 0
    completionQueue := []
    submitResult := .none
    cancelTag := 0
    markers := { a := .sweep, b := .sweep }
    followUps := { a := none, b := none } }

/-- The sweep and mirror at SOFT_RESET (R139). -/
def softResetMirror (s : State) : State :=
  { s with
    mirror := Vector.replicate 62 MirrorEntry.empty
    cursors := { a := 0, b := 0 }
    msecTimer := 0
    mirrorSel := 0
    mirrorWindow := MirrorEntry.empty }

/-- The notice unit, the census controller and the reach checks at SOFT_RESET (R154, R82, R168). -/
def softResetChain (s : State) : State :=
  { s with
    notices := []
    reservations := { a := none, b := none }
    dupNotices := 0
    census := Census.reset
    checks := { a := Check.reset, b := Check.reset } }

/-- The host port at SOFT_RESET but for CMD and CMD_RESULT: causes cleared, holds as R171 gives. -/
def softResetHost (s : State) : State :=
  { s with
    sticky := StickyBits.clear
    replyBaseHold := BitVec.ofNat 8 s.params.replyBase
    msecHold := 0 }

/-- SOFT_RESET of every block (R173). -/
def softReset (s : State) : State :=
  softResetHost (softResetChain (softResetMirror (softResetRequests (softResetRoster
    { s with ports := { a := softResetPort s.ports.a, b := softResetPort s.ports.b } }))))

/-- SOFT_RESET is always taken (R172, R173). -/
def softResetAnswer (s : State) : Answer := .taken (softReset s)

/-- A byte written to CMD: the command of its code, or UNKNOWN (R172). -/
def commandAnswer (code : Byte) (s : State) : Answer :=
  match Command.ofCode code with
  | some .submit => submitAnswer s
  | some .cancel => cancelAnswer s
  | some .popCompletion => popCompletionAnswer s
  | some .popNotice => popNoticeAnswer s
  | some .startCensus => startCensusAnswer s
  | some .abortCensus => abortCensusAnswer s
  | some .acceptRoster => acceptRosterAnswer s
  | some .clearAllChanged => clearAllChangedAnswer s
  | some .softReset => softResetAnswer s
  | none => .refused .unknown

/-- A command issued by its code, with its owner's answer (R172). -/
def issue (c : Command) (answer : State → Answer) (s : State) : State :=
  answerCommand c.code (answer s) s

/-- The write byte at CMD (R172). -/
def writeCmd (code : Byte) (s : State) : State := answerCommand code (commandAnswer code s) s

/-! ## Windows (R59, R137) -/

/-- A byte written to ROSTER_SEL: the snapshot (R59). -/
def writeRosterSel (v : Byte) (s : State) : State :=
  { s with rosterSel := v, rosterWindow := s.entry v.toNat }

/-- The mirror snapshot of the selected entry (R137). -/
def snapMirror (s : State) : State := { s with mirrorWindow := s.status s.mirrorSel.toNat }

/-- A byte written to MIRROR_SEL: the snapshot (R137). -/
def writeMirrorSel (v : Byte) (s : State) : State := snapMirror { s with mirrorSel := v }

/-- What a MIRROR_CTRL action does to an entry (R137, section 11.3). -/
def mirrorAction (code : Byte) (m : MirrorEntry) : MirrorEntry :=
  if code = 1 then { m with watch := true }
  else if code = 2 then { m with watch := false }
  else if code = 3 then { m with changed := false }
  else m

/-- A byte written to MIRROR_CTRL: the action on the selected live entry and a new snapshot; with no
entry selected no effect, the window keeping EMPTY (R137). -/
def writeMirrorCtrl (code : Byte) (s : State) : State :=
  let a := s.mirrorSel.toNat
  snapMirror (s.setStatus a (mirrorAction code (s.status a)))

/-! ## Causes and enables (R178, R179) -/

def writeCause (which : CauseByte) (v : Byte) (s : State) : State :=
  { s with sticky := s.sticky.clearBy which v }

def writeEnable (which : CauseByte) (v : Byte) (s : State) : State :=
  { s with enables := s.enables.write which v }

/-! ## Parameters (R171, R174, R175) -/

def writeReplyBaseLow (v : Byte) (s : State) : State := { s with replyBaseHold := v }

def writeReplyBaseHigh (v : Byte) (s : State) : State :=
  { s with params := { s.params with replyBase := replyBaseStored s.replyBaseHold v } }

/-- PORT_X_EN takes a value (R25). -/
def writePortEnable (p : Port) (on : Bool) (s : State) : State :=
  if on then enablePort p s else disablePort p s

/-- The two single-bit parameters of CONTROL that are no port enables (R127, R58). -/
def writeControlParams (v : Byte) (s : State) : State :=
  { s with params := { s.params with
    sweepEnable := controlSweep v, expectEnable := controlExpect v } }

/-- A byte written to CONTROL: all four bits, port A's enable before port B's (R25, R182, log 16). -/
def writeControl (v : Byte) (s : State) : State :=
  writePortEnable .b (controlPort v .b) (writePortEnable .a (controlPort v .a)
    (writeControlParams v s))

/-- A byte of EXPECTED_FP replaced, byte 0 the lowest (R58). -/
def replaceByte (w : BitVec 32) (i : Nat) (v : Byte) : BitVec 32 :=
  (w &&& ~~~((0xFF : BitVec 32) <<< (8 * i))) ||| (v.setWidth 32 <<< (8 * i))

/-- The parameter a register other than CONTROL and REPLY_BASE stores (R174, R175); the parameters
unchanged where the register is none of them. -/
def Params.write (q : Params) (a : RegAddr) (v : Byte) : Params :=
  let n := v.toNat
  if a = Reg.hopAllow then { q with hopAllow := clamp 0 63 n }
  else if a = Reg.retryLimit then { q with retryLimit := clamp 0 7 n }
  else if a = Reg.busyLimit then { q with busyLimit := clamp 0 15 n }
  else if a = Reg.busyBackoff then { q with busyBackoff := clamp 1 255 n }
  else if a = Reg.faultLimit then { q with faultLimit := clamp 1 15 n }
  else if a = Reg.sweepPeriod then { q with sweepPeriod := clamp 1 255 n }
  else if a = Reg.staleLimit then { q with staleLimit := clamp 1 15 n }
  else if a = Reg.expectedFp then { q with expectedFp := replaceByte q.expectedFp 0 v }
  else if a = Reg.expectedFp + 1 then { q with expectedFp := replaceByte q.expectedFp 1 v }
  else if a = Reg.expectedFp + 2 then { q with expectedFp := replaceByte q.expectedFp 2 v }
  else if a = Reg.expectedFp + 3 then { q with expectedFp := replaceByte q.expectedFp 3 v }
  else q

/-- The place in MBX_DATA of an address, if it is one of its 32 registers. -/
def mbxDataIndex (a : RegAddr) : Option (Fin 32) :=
  if h : Reg.mbxData.toNat ≤ a.toNat ∧ a.toNat - Reg.mbxData.toNat < 32 then
    some ⟨a.toNat - Reg.mbxData.toNat, h.2⟩
  else none

/-- A mailbox register keeps the byte written (R88); the mailbox unchanged where the register is none
of its own. -/
def Mailbox.write (m : Mailbox) (a : RegAddr) (v : Byte) : Mailbox :=
  if a = Reg.mbxKind then { m with kind := v }
  else if a = Reg.mbxTarget then { m with target := v }
  else if a = Reg.mbxReg then { m with register := v }
  else if a = Reg.mbxLen then { m with length := v }
  else
    match mbxDataIndex a with
    | some i => { m with data := m.data.set i.val v }
    | none => m

/-- A byte written to a register that only keeps it: a parameter, a mailbox register or CANCEL_TAG; a
read-only or unlisted address ignores it (R170, R182). -/
def writeStored (a : RegAddr) (v : Byte) (s : State) : State :=
  { s with
    params := s.params.write a v
    mailbox := s.mailbox.write a v
    cancelTag := if a = Reg.cancelTag then v else s.cancelTag }

/-- A write byte at any address of the window (R170). At the registers that have a row of their own it
does what that row does (log 17). -/
def writeRegister (a : RegAddr) (v : Byte) (s : State) : State :=
  if a = Reg.cmd then writeCmd v s
  else if a = Reg.cause0 then writeCause .zero v s
  else if a = Reg.cause1 then writeCause .one v s
  else if a = Reg.enable0 then writeEnable .zero v s
  else if a = Reg.enable1 then writeEnable .one v s
  else if a = Reg.control then writeControl v s
  else if a = Reg.replyBaseLow then writeReplyBaseLow v s
  else if a = Reg.replyBaseHigh then writeReplyBaseHigh v s
  else if a = Reg.rosterSel then writeRosterSel v s
  else if a = Reg.mirrorSel then writeMirrorSel v s
  else if a = Reg.mirrorCtrl then writeMirrorCtrl v s
  else writeStored a v s

/-! ## Reads with an effect (R42, R149, R171) -/

/-- The value of a one-byte counter (R41). -/
def ChainPort.byteCounter (x : ChainPort) : ByteCounter → Nat
  | .crcErrors => x.crcErrors
  | .symbolErrors => x.symbolErrors
  | .lateReplies => x.lateReplies
  | .strayReplies => x.strayReplies

/-- A one-byte counter cleared (R42). -/
def ChainPort.clearCounter (x : ChainPort) : ByteCounter → ChainPort
  | .crcErrors => { x with crcErrors := 0 }
  | .symbolErrors => { x with symbolErrors := 0 }
  | .lateReplies => { x with lateReplies := 0 }
  | .strayReplies => { x with strayReplies := 0 }

/-- The low byte and the high byte of a 16-bit count. -/
def lowByte (n : Nat) : Byte := BitVec.ofNat 8 n
def highByte (n : Nat) : Byte := BitVec.ofNat 8 (n / 256)

/-- TIMEOUTS cleared, its high byte held (R42). -/
def ChainPort.takeTimeouts (x : ChainPort) : ChainPort :=
  { x with timeouts := 0, timeoutsHold := highByte x.timeouts }

/-! ## Hardware reset (R180) -/

/-- Every block at its hardware-reset values (R180). The level of CSn, which the host drives, the
index of the free values and the queue of commands stay (logs 1, 7, 27). -/
def hardwareReset (s : State) : State :=
  { State.reset with csnHigh := s.csnHigh, freeCount := s.freeCount, pending := s.pending }

end Sys2Proof.Machine
end

