-- ==== Sys2Proof/Machine/Commands.lean ====
section
/-! DEFINITION. The commands of CMD (R172): the meaning of a byte written there, one definition per command. -/

namespace Sys2Proof.Machine

/-- SUBMIT: the mailbox takes the lowest FREE slot, or the answer is FULL (R89). -/
def execSubmit (s : State) : Host.Outcome State Fault Refusal :=
  .next (hostWrite Reg.cmd (issue .submit submitAnswer) s)

/-- CANCEL of the slot CANCEL_TAG names (R98, R100). -/
def execCancel (s : State) : Host.Outcome State Fault Refusal :=
  .next (hostWrite Reg.cmd (issue .cancel cancelAnswer) s)

/-- POP_COMPLETION: the head record leaves and its slot is freed (R97). -/
def execPopCompletion (s : State) : Host.Outcome State Fault Refusal :=
  .next (hostWrite Reg.cmd (issue .popCompletion popCompletionAnswer) s)

/-- POP_NOTICE: the head notice leaves (R143). -/
def execPopNotice (s : State) : Host.Outcome State Fault Refusal :=
  .next (hostWrite Reg.cmd (issue .popNotice popNoticeAnswer) s)

/-- START_CENSUS from IDLE, refused BUSY while a census runs (R63). -/
def execStartCensus (s : State) : Host.Outcome State Fault Refusal :=
  .next (hostWrite Reg.cmd (issue .startCensus startCensusAnswer) s)

/-- ABORT_CENSUS of a running census, refused IDLE otherwise (R78). -/
def execAbortCensus (s : State) : Host.Outcome State Fault Refusal :=
  .next (hostWrite Reg.cmd (issue .abortCensus abortCensusAnswer) s)

/-- ACCEPT_ROSTER opens the lock on a VALID or PARTIAL roster (R55). -/
def execAcceptRoster (s : State) : Host.Outcome State Fault Refusal :=
  .next (hostWrite Reg.cmd (issue .acceptRoster acceptRosterAnswer) s)

/-- CLEAR_ALL_CHANGED empties the change set (R136). -/
def execClearAllChanged (s : State) : Host.Outcome State Fault Refusal :=
  .next (hostWrite Reg.cmd (issue .clearAllChanged clearAllChangedAnswer) s)

/-- SOFT_RESET of every block (R173). -/
def execSoftReset (s : State) : Host.Outcome State Fault Refusal :=
  .next (hostWrite Reg.cmd (issue .softReset softResetAnswer) s)

/-- A code that names no command is refused UNKNOWN (R172); a code that names one is that command. -/
def execUnknownCommand (code : Byte) (s : State) : Host.Outcome State Fault Refusal :=
  .next (hostWrite Reg.cmd (writeCmd code) s)

end Sys2Proof.Machine
end

