-- ==== Sys2Proof/Machine/Events.lean ====
section
/-! DEFINITION. Events at the pins, the lines and the timers (chapters 2, 4, 6, 7, 9 and 10): what each
does where it can happen. An event that cannot happen in the state changes nothing (log 3). -/

namespace Sys2Proof.Machine

/-- What a command other than a pin level does only outside reset: every block and every timer is at
rest in reset (R180). -/
def outsideReset (f : State → State) (s : State) : State := if s.inReset then s else f s

/-- An effect made only where a condition holds. -/
def onlyIf (c : State → Bool) (f : State → State) (s : State) : State := if c s then f s else s

/-! ## SPI port and reset pin (R169, R180) -/

/-- A falling CSn starts a transaction: the port is IDLE, or waits in WAIT_HIGH for a CSn that has been
high (R169, R180, log 7). -/
def State.transactionStarts (s : State) : Bool :=
  !s.inReset && (s.spi == .idle || s.spi == .waitHigh)

/-- CSn falls (R169). -/
def csnFalls (s : State) : State :=
  if s.csnHigh then
    if s.transactionStarts then { s with csnHigh := false, spi := .header }
    else { s with csnHigh := false }
  else s

/-- CSn rises: the transaction ends, or WAIT_HIGH does (R169, R180). -/
def csnRises (s : State) : State :=
  if s.csnHigh then s
  else if s.inReset then { s with csnHigh := true }
  else { s with csnHigh := true, spi := .idle }

/-- The second header byte is complete (R169). -/
def takeHeader (h : BitVec 16) (s : State) : State :=
  { s with spi := .data (headerReads h), addrCounter := headerAddr h, sdoByte := 0 }

/-- RESETn goes low: the blocks stand at their reset values from here on, the SPI transaction is
abandoned (R180, log 9). -/
def enterReset (s : State) : State := { hardwareReset s with inReset := true }

/-- RESETn returns high (R180). -/
def leaveReset (s : State) : State := if s.inReset then hardwareReset s else s

/-! ## Link (R26, R27, R28) -/

/-- The link of the port is in a state. -/
def State.linkIs (s : State) (p : Port) (l : LinkState) : Bool := (s.port p).link == l

/-- The link moved, the idle run at 0 (R26, R27). -/
def moveLink (p : Port) (l : LinkState) (s : State) : State :=
  s.setPort p { s.port p with link := l, idleRun := 0 }

/-- One idle symbol received: in ALIGNING the run grows by one, and when it reaches 64 the port goes to UP
(R27). In DISABLED it is ignored (R25). DESIGN CHOICE, unsafe (log 40): it is signal only where signal is already
there. A port in DOWN does not detect signal by it and stays DOWN (R26), and in UP it neither returns the signal
nor stops a signal-loss timer that runs (R28): SIGNAL_DETECTED and SIGNAL_RETURN alone do. DESIGN CHOICE, unsafe
(log 39): in UP, between a start delimiter and its end delimiter, where R1 names only undecodable symbols and
start delimiters, it leaves the reception in progress as it is. -/
def hearIdle (p : Port) (s : State) : State :=
  if s.linkIs p .aligning then
    let n := (s.port p).idleRun + 1
    if n < Config.alignRun then s.setPort p { s.port p with idleRun := n } else enterUp p s
  else s

/-- Idle symbols received one after another without anything else between them (R27). -/
def hearIdles (p : Port) : Nat → State → State
  | 0, s => s
  | n + 1, s => hearIdles p n (hearIdle p s)

/-- The idle symbols that the run of a port still lacks, the last of them always (R27, log 24). -/
def ChainPort.idleMissing (x : ChainPort) : Nat := Config.alignRun - 1 - x.idleRun + 1

/-- The run of a port reaches 64: the idle symbols it lacks come one after another (R27, log 24). -/
def completeRun (p : Port) (s : State) : State := hearIdles p (s.port p).idleMissing s

/-- One idle symbol comes in on each line, as between commands nothing else does (section 1.1, R27, log 24);
in reset nothing is received (R180). A frame in progress stands (log 39), and so do DOWN and a signal-loss timer
that runs (log 40). -/
def idleSymbols (s : State) : State :=
  outsideReset (fun t => hearIdle .b (hearIdle .a t)) s

/-- The signal-loss timer started or stopped (R28). -/
def setLossTimer (p : Port) (on : Bool) (s : State) : State :=
  s.setPort p { s.port p with lossTimer := on }

/-- The port is UP and its signal is absent, or present (R28). -/
def State.signalGone (s : State) (p : Port) : Bool := s.isUp p && (s.port p).lossTimer
def State.signalHere (s : State) (p : Port) : Bool := s.isUp p && !(s.port p).lossTimer

/-- Signal becomes absent: the timer starts, and a frame being received is lost with it (R28, R31). -/
def loseSignal (p : Port) (s : State) : State := loseReception p (setLossTimer p true s)

/-! ## Frames on the line (R1, R32, R34, R37) -/

/-- The end delimiter of the frame being sent goes out (R32). -/
def finishSending (p : Port) (s : State) : State :=
  match (s.port p).exch with
  | .sending x => frameGone p x s
  | _ => s

/-- The port is receiving a frame of this standing. -/
def State.receiving (s : State) (p : Port) (r : Receiving) : Bool := (s.port p).rx == r

/-- A start delimiter: it ends a frame in progress as a symbol error and begins a new one (R1, R34,
R37, log 15). -/
def startFrame (p : Port) (s : State) : State := beginReception p (endReception p .symbolError s)

/-! ## Census (R67, R69, R79) -/

/-- Draining ends: both exchanges are IDLE or HELD (R67). -/
def State.drained (s : State) : Bool :=
  s.census.state == .draining && (s.port .a).exch.atRest && (s.port .b).exch.atRest

/-- The census clear and what follows it (R67, R68, R79). -/
def makeClear (s : State) : State := settle (afterClear (clearCensus s))

/-- The settle timer is running (R69). -/
def State.settling (s : State) : Bool := s.census.state == .releasing && s.census.settleTimer

/-- The settle timer runs out: WALK_A where port A is a census port, WALK_B otherwise (R69). -/
def endSettle (s : State) : State :=
  let s1 := { s with census := { s.census with settleTimer := false } }
  if s1.census.ports.a then enterWalk .walkA s1 else enterWalk .walkB s1

/-- The cause of a stop that can be made now: the census is past its clear and no census exchange is in
flight (R79). -/
def State.stopReady (s : State) : Option StopCause :=
  match s.census.state with
  | .releasing | .walkA | .walkB => if s.censusInFlight then none else s.census.stopPending
  | .idle | .draining => none

/-- The census stops (R79); a check it starts decides what it can in the same step. -/
def makeStop (s : State) : State :=
  match s.stopReady with
  | some c => settle (stopCensus c s)
  | none => s

/-! ## Timers (R114, R126) -/

/-- The slot's busy backoff runs out (R114). -/
def endBackoff (t : Tag) (s : State) : State := s.setSlot t { s.slot t with backoff := none }

/-! ## Reach checks (R159) -/

/-- The check of the port waits in PROBING and the port's exchange is IDLE (R159). -/
def State.canProbe (s : State) (p : Port) : Bool :=
  (s.checks.get p).state == .probing && !(s.checks.get p).begun && (s.port p).exch == .idle

/-- Probing begins; the check passes over what is no longer routed on the port (R159). -/
def startProbing (p : Port) (s : State) : State := settle (beginProbing p s)

end Sys2Proof.Machine
end

