-- ==== Sys2Proof/Machine/Exchanges.lean ====
section
/-! DEFINITION. The exchange of a port (R31 to R37, R103). -/

namespace Sys2Proof.Machine

/-- The arbiter hands the port its next frame, if it has one (R103, R104). -/
def execArbiterHand (port : Port) (s : State) : Host.Outcome State Fault Refusal :=
  .next (outsideReset (onlyIf (fun t => t.canHand port) (arbitrate port)) s)

/-- The end delimiter of the frame goes out (R32). -/
def execFrameSent (port : Port) (s : State) : Host.Outcome State Fault Refusal :=
  .next (outsideReset (finishSending port) s)

/-- The reply window runs out (R36). -/
def execReplyWindowExpiry (port : Port) (s : State) : Host.Outcome State Fault Refusal :=
  .next (outsideReset (windowRunsOut port) s)

/-- A frame that began in the reply window has been received to its end (R34). -/
def execFrameReceived (port : Port) (reception : Reception) (s : State) : Host.Outcome State Fault Refusal :=
  .next (outsideReset (onlyIf (fun t => t.receiving port .ofExchange) (endReception port reception)) s)

/-- A frame that began outside any window has been received to its end (R37). -/
def execLateFrame (port : Port) (reception : Reception) (s : State) : Host.Outcome State Fault Refusal :=
  .next (outsideReset (onlyIf (fun t => t.receiving port .outside) (endReception port reception)) s)

/-- A start delimiter is received on a port in UP with signal (R1, R34, R37); in DOWN, or with the signal-loss timer
running, it changes nothing: signal comes first, by a row of its own (logs 3, 40). -/
def execStartDelimiterReceived (port : Port) (s : State) : Host.Outcome State Fault Refusal :=
  .next (outsideReset (onlyIf (fun t => t.signalHere port) (startFrame port)) s)

end Sys2Proof.Machine
end

