-- ==== Sys2Proof/Machine/Link.lean ====
section
/-! DEFINITION. The link of a port (R26, R27, R28). -/

namespace Sys2Proof.Machine

/-- A port in DOWN detects signal: ALIGNING with an idle run of 0 (R26). That this row alone tells of it, and no
symbol that comes in, is the model's choice (log 40). -/
def execSignalDetected (port : Port) (s : State) : Host.Outcome State Fault Refusal :=
  .next (outsideReset (onlyIf (fun t => t.linkIs port .down) (moveLink port .aligning)) s)

/-- The idle run of a port in ALIGNING reaches 64: the idle symbols it still lacks come in, each counted, and
with the last the port goes to UP (R27, R29, log 24). -/
def execIdleRunComplete (port : Port) (s : State) : Host.Outcome State Fault Refusal :=
  .next (outsideReset (onlyIf (fun t => t.linkIs port .aligning) (completeRun port)) s)

/-- Signal is lost in ALIGNING: DOWN (R27). -/
def execAligningSignalLoss (port : Port) (s : State) : Host.Outcome State Fault Refusal :=
  .next (outsideReset (onlyIf (fun t => t.linkIs port .aligning) (moveLink port .down)) s)

/-- Signal becomes absent in UP: the 1 ms timer starts (R28). -/
def execSignalAbsent (port : Port) (s : State) : Host.Outcome State Fault Refusal :=
  .next (outsideReset (onlyIf (fun t => t.signalHere port) (loseSignal port)) s)

/-- Signal returns while the timer runs: it stops without effect (R28). That this row alone tells of it, and no
symbol that comes in, is the model's choice (log 40). -/
def execSignalReturn (port : Port) (s : State) : Host.Outcome State Fault Refusal :=
  .next (outsideReset (onlyIf (fun t => t.signalGone port) (setLossTimer port false)) s)

/-- The signal-loss timer runs out: the port leaves UP (R28, R29). -/
def execSignalLossTimerExpiry (port : Port) (s : State) : Host.Outcome State Fault Refusal :=
  .next (outsideReset (onlyIf (fun t => t.signalGone port) (leaveUp port .down)) s)

/-- A symbol other than an idle one in ALIGNING: the run returns to 0 (R27). -/
def execIdleRunReset (port : Port) (s : State) : Host.Outcome State Fault Refusal :=
  .next (outsideReset (onlyIf (fun t => t.linkIs port .aligning) (moveLink port .aligning)) s)

end Sys2Proof.Machine
end

