-- ==== Sys2Proof/Machine/Pins.lean ====
section
/-! DEFINITION. The SPI pins and RESETn (R169, R180). -/

namespace Sys2Proof.Machine

/-- CSn falls (R169). -/
def execCsnFall (s : State) : Host.Outcome State Fault Refusal :=
  .next (csnFalls s)

/-- The second header byte is complete; it acts in HEADER (R169). -/
def execHeaderComplete (header : BitVec 16) (s : State) : Host.Outcome State Fault Refusal :=
  .next (outsideReset (onlyIf (fun t => t.spi == .header) (takeHeader header)) s)

/-- CSn rises (R169, R180). -/
def execCsnRise (s : State) : Host.Outcome State Fault Refusal :=
  .next (csnRises s)

/-- RESETn goes low (R180). -/
def execResetnLow (s : State) : Host.Outcome State Fault Refusal :=
  .next (enterReset s)

/-- RESETn returns high (R180). -/
def execResetnHigh (s : State) : Host.Outcome State Fault Refusal :=
  .next (leaveReset s)

end Sys2Proof.Machine
end

