-- ==== Sys2Proof/Machine/Registers.lean ====
section
/-! DEFINITION. What the host reads: the register map and the windows (sections 11.3 and 11.4), and
what SDO carries (R169). -/

namespace Sys2Proof.Machine

/-! ## Codes (section 11.3) -/

def RefuseReason.code : RefuseReason → BitVec 3
  | .busy => 1
  | .idle => 2
  | .empty => 3
  | .state => 4
  | .noSuchTag => 5
  | .unknown => 6

/-- CMD_RESULT: bits 1..0 the result, bits 6..4 the reason. -/
def CmdResult.byte : CmdResult → Byte
  | .none => 0
  | .done => 1
  | .refused r => 0#1 ++ r.code ++ 2#4

/-- SUBMIT_RESULT: bits 1..0 the result, bits 7..4 the tag. -/
def SubmitResult.byte : SubmitResult → Byte
  | .none => 0
  | .accepted t => BitVec.ofNat 4 t.val ++ 1#4
  | .full => 2

/-- CONTROL as read: SWEEP_ENABLE, PORT_A_EN, PORT_B_EN, EXPECT_ENABLE. -/
def State.controlByte (s : State) : Byte :=
  byteOfBits s.params.sweepEnable (s.portEnabled .a) (s.portEnabled .b) s.params.expectEnable
    false false false false

def LinkState.code : LinkState → BitVec 2
  | .disabled => 0
  | .down => 1
  | .aligning => 2
  | .up => 3

def Exchange.code : Exchange → BitVec 2
  | .held => 0
  | .idle => 1
  | .sending _ => 2
  | .awaiting _ _ _ => 3

/-- PORT_X_STATE: bits 1..0 the link, bits 5..4 the exchange. -/
def ChainPort.stateByte (x : ChainPort) : Byte := 0#2 ++ x.exch.code ++ 0#2 ++ x.link.code

def RosterState.code : RosterState → BitVec 2
  | .empty => 0
  | .building => 1
  | .valid => 2
  | .partly => 3

def RingState.code : RingState → BitVec 2
  | .unknown => 0
  | .opened => 1
  | .closed => 2
  | .broken => 3

/-- ROSTER_STATUS: roster, ring, EXCEEDED, lock. -/
def State.rosterStatusByte (s : State) : Byte :=
  0#2 ++ BitVec.ofBool s.lockHeld ++ BitVec.ofBool s.exceeded ++ s.ringState.code ++ s.rosterState.code

def CensusState.code : CensusState → BitVec 3
  | .idle => 0
  | .draining => 1
  | .releasing => 2
  | .walkA => 3
  | .walkB => 4

def CensusResult.code : CensusResult → BitVec 3
  | .none => 0
  | .ok => 1
  | .exceeded => 2
  | .failed => 3
  | .aborted => 4

def CensusReason.code : CensusReason → BitVec 3
  | .none => 0
  | .noPort => 1
  | .portLost => 2
  | .staleAddress => 3
  | .ringConflict => 4

/-- CENSUS_STATE: the state, and the census ports in bits 4 and 5. -/
def Census.stateByte (c : Census) : Byte :=
  0#2 ++ BitVec.ofBool c.ports.b ++ BitVec.ofBool c.ports.a ++ 0#1 ++ c.state.code

/-- A result and a reason in the coding of CENSUS_RESULT. -/
def resultByte (r : CensusResult) (why : CensusReason) : Byte := 0#1 ++ why.code ++ 0#1 ++ r.code

/-- STOP_PENDING, coded as CENSUS_RESULT; 0 is none. -/
def Census.stopByte (c : Census) : Byte :=
  match c.stopPending with
  | none => 0
  | some x => resultByte x.result x.reason

def CheckState.code : CheckState → BitVec 2
  | .idle => 0
  | .probing => 1
  | .rerouting => 2

def CheckResult.code : CheckResult → BitVec 2
  | .none => 0
  | .noBreak => 1
  | .brk => 2

/-- CHECK_X_STATE: bits 1..0 the state, bits 5..4 the result. -/
def Check.stateByte (c : Check) : Byte := 0#2 ++ c.result.code ++ 0#2 ++ c.state.code

def Status.code : Status → Byte
  | .ok => 1
  | .rejected => 2
  | .timeout => 3
  | .busyExhausted => 4
  | .unreachable => 5
  | .rosterChanged => 6
  | .refusedLock => 7
  | .cancelled => 8
  | .noModule => 9
  | .badRequest => 10
  | .identityMismatch => 11

def Effect.code : Effect → BitVec 2
  | .notApplied => 0
  | .applied => 1
  | .unknown => 2

/-- A byte from a count. -/
def byteOf (n : Nat) : Byte := BitVec.ofNat 8 n

/-- The four bytes of a 32-bit register, low byte first. -/
def bytes32 (w : BitVec 32) : List Byte :=
  [w.extractLsb' 0 8, w.extractLsb' 8 8, w.extractLsb' 16 8, w.extractLsb' 24 8]

/-! ## Windows (section 11.4) -/

/-- An optional count: bit 7 present, bits 5..0 the count. -/
def presentByte (n : Option Nat) : Byte :=
  match n with
  | some k => 2#2 ++ BitVec.ofNat 6 k
  | none => 0

/-- Bits 1..0 the state, 3..2 the route, 4 lost_mark, 5 identity present. -/
def RosterEntry.firstByte (e : RosterEntry) : Byte :=
  let st : BitVec 2 :=
    match e.state with
    | .vacant => 0
    | .active => 1
    | .suspect => 2
    | .lost => 3
  let rt : BitVec 2 :=
    match e.route with
    | none => 0
    | some .a => 1
    | some .b => 2
  0#2 ++ BitVec.ofBool e.identity.isSome ++ BitVec.ofBool e.lostMark ++ rt ++ st

/-- Bits 3..0 fail_count, 5..4 the toggle. -/
def RosterEntry.countByte (e : RosterEntry) : Byte :=
  let tg : BitVec 2 :=
    match e.toggle with
    | .zero => 0
    | .one => 1
    | .unsure => 2
  0#2 ++ tg ++ BitVec.ofNat 4 e.failCount

/-- Bits 3..0 last_seq, bit 7 present. -/
def RosterEntry.seqByte (e : RosterEntry) : Byte :=
  match e.lastSeq with
  | some q => 8#4 ++ q
  | none => 0

/-- The roster window's 19 bytes; a VACANT entry reads as zero in every field (R59). -/
def RosterEntry.window (e : RosterEntry) : List Byte :=
  [e.firstByte, presentByte e.hops.a, presentByte e.hops.b, e.countByte, e.seqByte, 0, 0]
    ++ match e.identity with
      | some i => i.bytes
      | none => List.replicate 12 0

/-- Bits 1..0 the state, 3..2 health, 4 watch, 5 changed, 6 lost mark, 7 fetch_wanted. -/
def MirrorEntry.firstByte (m : MirrorEntry) : Byte :=
  let st : BitVec 2 :=
    match m.state with
    | .empty => 0
    | .fresh => 1
    | .stale => 2
  let h : BitVec 2 :=
    match m.health with
    | .ok => 0
    | .warn => 1
    | .fault => 2
  BitVec.ofBool m.fetchWanted ++ BitVec.ofBool m.lostMark ++ BitVec.ofBool m.changed
    ++ BitVec.ofBool m.watch ++ h ++ st

/-- A list of bytes made a given length, zeros beyond its end. -/
def padTo (n : Nat) (l : List Byte) : List Byte := l.take n ++ List.replicate (n - l.length) 0

/-- The mirror window's 22 bytes (R137). -/
def MirrorEntry.window (m : MirrorEntry) : List Byte :=
  [m.firstByte, BitVec.ofNat 4 m.missCount ++ 0#1 ++ BitVec.ofNat 3 m.pendingCount,
   lowByte m.age, highByte m.age]
    ++ match m.record with
      | some r => [8#4 ++ r.kind, byteOf r.data.length] ++ padTo 16 r.data
      | none => List.replicate 18 0

/-- The completion record of a DONE slot, with the count before it (R93). -/
def completionRecord (count : Nat) (t : Tag) (x : Slot) (c : Completion) : List Byte :=
  [byteOf count, byteOf t.val, x.kindCode, byteOf (x.target.getD 0), c.status.code,
   byteOf x.attempts, 0#5 ++ BitVec.ofBool c.lateCancel ++ c.effect.code, c.epoch,
   byteOf c.data.length] ++ List.replicate 23 0 ++ padTo 32 c.data

/-- The completion head window's 64 bytes; zero while the queue is empty (R96). -/
def State.completionWindow (s : State) : List Byte :=
  match s.completionQueue with
  | [] => []
  | t :: _ =>
    match (s.slot t).outcome with
    | some c => completionRecord s.completionQueue.length t (s.slot t) c
    | none => []

/-- The notice record at the head, with the count before it (R141). -/
def noticeBytes (count : Nat) (r : NoticeRecord) : List Byte :=
  [byteOf count, byteOf r.source, r.epoch, BitVec.ofBool r.gap ++ 0#3 ++ r.seq, r.code,
   byteOf r.payload.length, r.arrival.extractLsb' 0 8, r.arrival.extractLsb' 8 8]
    ++ padTo 8 r.payload

/-- The notice head window's 16 bytes; zero while the queue is empty (R142). -/
def State.noticeWindow (s : State) : List Byte :=
  match s.notices with
  | [] => []
  | r :: _ => noticeBytes s.notices.length r

/-! ## The register map (section 11.3) -/

/-- 0x0000..0x001F: identity, commands, causes. -/
def State.readCommand (s : State) (n : Nat) : Byte :=
  match n with
  | 0x00 => Config.chipId.extractLsb' 0 8
  | 0x01 => Config.chipId.extractLsb' 8 8
  | 0x02 => Config.chipRev
  | 0x08 => s.cmd
  | 0x09 => s.cmdResult.byte
  | 0x0A => s.submitResult.byte
  | 0x0B => s.cancelTag
  | 0x10 => s.causeByte .zero
  | 0x11 => s.causeByte .one
  | 0x12 => s.enables.byte .zero
  | 0x13 => s.enables.byte .one
  | 0x14 => s.groupSummary
  | _ => 0

/-- 0x0020..0x003F, by offset: parameters and the millisecond timer. -/
def State.readParam (s : State) (n : Nat) : Byte :=
  match n with
  | 0x0 => s.controlByte
  | 0x1 => lowByte s.params.replyBase
  | 0x2 => highByte s.params.replyBase
  | 0x3 => byteOf s.params.hopAllow
  | 0x4 => byteOf s.params.retryLimit
  | 0x5 => byteOf s.params.busyLimit
  | 0x6 => byteOf s.params.busyBackoff
  | 0x7 => byteOf s.params.faultLimit
  | 0x8 => byteOf s.params.sweepPeriod
  | 0x9 => byteOf s.params.staleLimit
  | 0x10 => s.msecTimer.extractLsb' 0 8
  | 0x11 => s.msecHold
  | _ => payloadByte (List.replicate 12 0 ++ bytes32 s.params.expectedFp) n

/-- The seven registers of a port, by offset (R41, R42). -/
def ChainPort.read (x : ChainPort) (n : Nat) : Byte :=
  match n with
  | 0 => x.stateByte
  | 1 => byteOf x.crcErrors
  | 2 => byteOf x.symbolErrors
  | 3 => lowByte x.timeouts
  | 4 => x.timeoutsHold
  | 5 => byteOf x.lateReplies
  | 6 => byteOf x.strayReplies
  | _ => 0

/-- 0x0050..0x005F, by offset: roster status and census status. -/
def State.readCensus (s : State) (n : Nat) : Byte :=
  match n with
  | 0x0 => s.rosterStatusByte
  | 0x1 => byteOf s.tails.a
  | 0x2 => byteOf s.tails.b
  | 0x3 => s.epoch
  | 0x8 => s.census.stateByte
  | 0x9 => resultByte s.census.result s.census.reason
  | 0xA => byteOf s.census.nextAddr
  | 0xB => byteOf s.census.position
  | 0xC => byteOf s.census.tries
  | 0xD => s.census.stopByte
  | _ => payloadByte (List.replicate 4 0 ++ bytes32 s.fingerprint) n

/-- The five registers of a reach check, by offset (R155). -/
def Check.read (c : Check) (n : Nat) : Byte :=
  match n with
  | 0 => c.stateByte
  | 1 => byteOf c.trigger
  | 2 => byteOf c.breakLocation
  | 3 => byteOf c.rerouted
  | 4 => byteOf c.lost
  | _ => 0

/-- 0x0080..0x00BF, by offset: the mailbox (R88). -/
def Mailbox.read (m : Mailbox) (n : Nat) : Byte :=
  match n with
  | 0 => m.kind
  | 1 => m.target
  | 2 => m.register
  | 3 => m.length
  | _ => payloadByte (List.replicate 32 0 ++ m.data.toList) n

/-- 0x0100..0x01CF: the selects and the windows. -/
def State.readWindow (s : State) (n : Nat) : Byte :=
  if n = 0x0100 then s.rosterSel
  else if n < 0x0140 then payloadByte s.rosterWindow.window (n - 0x0101)
  else if n = 0x0140 then s.mirrorSel
  else if n = 0x0141 then 0
  else if n < 0x0180 then payloadByte s.mirrorWindow.window (n - 0x0142)
  else if n < 0x01C0 then payloadByte s.completionWindow (n - 0x0180)
  else payloadByte s.noticeWindow (n - 0x01C0)

/-- The value of a register as a read byte finds it (R170, R182, R183); 0 at an address with no
register. -/
def State.regRead (s : State) (a : RegAddr) : Byte :=
  let n := a.toNat
  if n < 0x0020 then s.readCommand n
  else if n < 0x0040 then s.readParam (n - 0x0020)
  else if n < 0x0048 then s.ports.a.read (n - 0x0040)
  else if n < 0x0050 then s.ports.b.read (n - 0x0048)
  else if n < 0x0060 then s.readCensus (n - 0x0050)
  else if n < 0x0068 then s.checks.a.read (n - 0x0060)
  else if n < 0x006F then s.checks.b.read (n - 0x0068)
  else if n = 0x006F then byteOf s.dupNotices
  else if n < 0x0080 then 0
  else if n < 0x0100 then s.mailbox.read (n - 0x0080)
  else s.readWindow n

/-! ## SDO (R169, R180) -/

/-- What SDO carries: high impedance while CSn is high or the part is in reset; zeros in the header
and in a write; the byte taken in a read (R169, R180). In WAIT_HIGH with CSn low it is the free value
of log 8. -/
def State.sdo (s : State) : Sdo :=
  if s.inReset || s.csnHigh then .highZ
  else
    match s.spi with
    | .idle => .highZ
    | .header => .byte 0
    | .data true => .byte s.sdoByte
    | .data false => .byte 0
    | .waitHigh => Config.sdoInWaitHigh

end Sys2Proof.Machine
end

