-- ==== Sys2Proof/Machine/RegisterReads.lean ====
section
/-! DEFINITION. The read bytes: at a register with a side effect by its row, at any other as the next byte
of the transaction (R42, R149, R169, R170, R171). -/

namespace Sys2Proof.Machine

/-- A read byte at the address counter: the value the register shows when the byte begins goes to SDO,
the side effect happens in the same step, and the address counter goes on (R169, R170). -/
def takeReadByte (effect : State → State) (s : State) : State :=
  counterPast s.addrCounter (loadSdo (s.regRead s.addrCounter) (effect s))

/-- A read byte at a register with a side effect; it acts only where the address counter stands at that
register (R169, R170, log 4). -/
def hostRead (a : RegAddr) (effect : State → State) (s : State) : State :=
  if s.readAt a then takeReadByte effect s else s

/-- A read byte at a register without side effect, an address with no register or a byte of a window:
its value goes to SDO, the address counter goes on, and nothing else changes (R169, R170). At a register
with a side effect the byte is left to that register's row (log 5). -/
def plainReadByte (s : State) : State :=
  if s.readOpen && !Reg.readEffects.contains s.addrCounter then takeReadByte id s else s

/-- A read of a one-byte port counter returns and clears it as one event (R42). -/
def execCounterRead (port : Port) (counter : ByteCounter) (s : State) : Host.Outcome State Fault Refusal :=
  .next (hostRead (Reg.counter port counter)
    (fun t => t.setPort port ((t.port port).clearCounter counter)) s)

/-- A read of the TIMEOUTS low byte clears the counter and holds its high byte (R42, R171). -/
def execTimeoutsLowRead (port : Port) (s : State) : Host.Outcome State Fault Refusal :=
  .next (hostRead (Reg.timeoutsLow port)
    (fun t => t.setPort port (t.port port).takeTimeouts) s)

/-- A read of the MSEC_TIMER low byte holds the high byte of the same count (R171). -/
def execMsecTimerLowRead (s : State) : Host.Outcome State Fault Refusal :=
  .next (hostRead Reg.msecTimerLow
    (fun t => { t with msecHold := t.msecTimer.extractLsb' 8 8 }) s)

/-- A read of DUP_NOTICES returns and clears it as one event (R149). -/
def execDupNoticesRead (s : State) : Host.Outcome State Fault Refusal :=
  .next (hostRead Reg.dupNotices (fun t => { t with dupNotices := 0 }) s)

end Sys2Proof.Machine
end

