-- ==== Sys2Proof/Machine/RegisterWrites.lean ====
section
/-! DEFINITION. Register writes other than commands (R170): windows, causes, enables, CONTROL, REPLY_BASE and the registers that keep what is written. -/

namespace Sys2Proof.Machine

/-- MIRROR_CTRL action SET_WATCH (R137). -/
def execSetWatch (s : State) : Host.Outcome State Fault Refusal :=
  .next (hostWrite Reg.mirrorCtrl (writeMirrorCtrl 1) s)

/-- MIRROR_CTRL action CLEAR_WATCH (R137). -/
def execClearWatch (s : State) : Host.Outcome State Fault Refusal :=
  .next (hostWrite Reg.mirrorCtrl (writeMirrorCtrl 2) s)

/-- MIRROR_CTRL action CLEAR_CHANGED (R137). -/
def execClearChanged (s : State) : Host.Outcome State Fault Refusal :=
  .next (hostWrite Reg.mirrorCtrl (writeMirrorCtrl 3) s)

/-- A MIRROR_CTRL write of an undefined action takes a new snapshot only (R137). -/
def execMirrorCtrlUndefinedAction (code : Byte) (s : State) : Host.Outcome State Fault Refusal :=
  .next (hostWrite Reg.mirrorCtrl (writeMirrorCtrl code) s)

/-- A write of ROSTER_SEL takes a snapshot of the roster entry (R59). -/
def execRosterSelWrite (value : Byte) (s : State) : Host.Outcome State Fault Refusal :=
  .next (hostWrite Reg.rosterSel (writeRosterSel value) s)

/-- A write of MIRROR_SEL takes a snapshot of the mirror entry (R137). -/
def execMirrorSelWrite (value : Byte) (s : State) : Host.Outcome State Fault Refusal :=
  .next (hostWrite Reg.mirrorSel (writeMirrorSel value) s)

/-- A write of CAUSE0 or CAUSE1 clears the sticky causes written 1 (R178). -/
def execCauseClear (which : CauseByte) (value : Byte) (s : State) : Host.Outcome State Fault Refusal :=
  .next (hostWrite (Reg.cause which) (writeCause which value) s)

/-- A write of ENABLE0 or ENABLE1 (R179). -/
def execEnableWrite (which : CauseByte) (value : Byte) (s : State) : Host.Outcome State Fault Refusal :=
  .next (hostWrite (Reg.enable which) (writeEnable which value) s)

/-- A byte written to CONTROL in which PORT_X_EN is set; a DISABLED port goes to DOWN (R25, R182,
log 16). -/
def execPortEnableSet (_port : Port) (control : Byte) (s : State) : Host.Outcome State Fault Refusal :=
  .next (hostWrite Reg.control (writeControl control) s)

/-- A byte written to CONTROL in which PORT_X_EN is clear; the port goes to DISABLED (R25, R182,
log 16). -/
def execPortEnableClear (_port : Port) (control : Byte) (s : State) : Host.Outcome State Fault Refusal :=
  .next (hostWrite Reg.control (writeControl control) s)

/-- A byte written to CONTROL in which SWEEP_ENABLE is on (R127, log 16). -/
def execSweepEnableOn (control : Byte) (s : State) : Host.Outcome State Fault Refusal :=
  .next (hostWrite Reg.control (writeControl control) s)

/-- A byte written to CONTROL in which SWEEP_ENABLE is off (R127, log 16). -/
def execSweepEnableOff (control : Byte) (s : State) : Host.Outcome State Fault Refusal :=
  .next (hostWrite Reg.control (writeControl control) s)

/-- A write of the REPLY_BASE low byte goes to the hold (R171). -/
def execReplyBaseLowWrite (value : Byte) (s : State) : Host.Outcome State Fault Refusal :=
  .next (hostWrite Reg.replyBaseLow (writeReplyBaseLow value) s)

/-- A write of the REPLY_BASE high byte stores the parameter (R171, R175). -/
def execReplyBaseHighWrite (value : Byte) (s : State) : Host.Outcome State Fault Refusal :=
  .next (hostWrite Reg.replyBaseHigh (writeReplyBaseHigh value) s)

/-- A write byte at any other register (R170, R174, R175, R88, log 17). -/
def execRegisterWrite (addr : RegAddr) (value : Byte) (s : State) : Host.Outcome State Fault Refusal :=
  .next (hostWrite addr (writeRegister addr value) s)

end Sys2Proof.Machine
end

