-- ==== Sys2Proof/Machine/Timed.lean ====
section
/-! DEFINITION. What the census, the timers and the reach checks do of themselves (R67, R69, R79, R114, R126, R159). -/

namespace Sys2Proof.Machine

/-- Draining has ended: the census clear (R67, R68). -/
def execCensusClear (s : State) : Host.Outcome State Fault Refusal :=
  .next (outsideReset (onlyIf (fun t => t.drained) makeClear) s)

/-- The release settle timer runs out: the first walk (R69). -/
def execReleaseSettleExpiry (s : State) : Host.Outcome State Fault Refusal :=
  .next (outsideReset (onlyIf (fun t => t.settling) endSettle) s)

/-- A stop is pending and no census exchange is in flight: the census stops (R79). -/
def execCensusStop (s : State) : Host.Outcome State Fault Refusal :=
  .next (outsideReset makeStop s)

/-- The busy backoff of a slot runs out (R114). -/
def execBackoffExpiry (tag : Tag) (s : State) : Host.Outcome State Fault Refusal :=
  .next (outsideReset (onlyIf (fun t => (t.slot tag).backoff.isSome) (endBackoff tag)) s)

/-- The millisecond timer increments (R126). -/
def execMsecTick (s : State) : Host.Outcome State Fault Refusal :=
  .next (outsideReset tick s)

/-- The check of a port in PROBING finds its exchange IDLE: the probe list is fixed (R159). -/
def execProbingBegin (port : Port) (s : State) : Host.Outcome State Fault Refusal :=
  .next (outsideReset (onlyIf (fun t => t.canProbe port) (startProbing port)) s)

end Sys2Proof.Machine
end

