-- ==== Sys2Proof/Machine/Dispatch.lean ====
section
/-! DEFINITION. The meaning of every command, one arm per constructor of Instr. -/

namespace Sys2Proof.Machine

def exec (i : Instr) (s : State) : Host.Outcome State Fault Refusal :=
  match i with
  | .submit => Sys2Proof.Machine.execSubmit s
  | .cancel => Sys2Proof.Machine.execCancel s
  | .popCompletion => Sys2Proof.Machine.execPopCompletion s
  | .popNotice => Sys2Proof.Machine.execPopNotice s
  | .startCensus => Sys2Proof.Machine.execStartCensus s
  | .abortCensus => Sys2Proof.Machine.execAbortCensus s
  | .acceptRoster => Sys2Proof.Machine.execAcceptRoster s
  | .clearAllChanged => Sys2Proof.Machine.execClearAllChanged s
  | .softReset => Sys2Proof.Machine.execSoftReset s
  | .unknownCommand code => Sys2Proof.Machine.execUnknownCommand code s
  | .setWatch => Sys2Proof.Machine.execSetWatch s
  | .clearWatch => Sys2Proof.Machine.execClearWatch s
  | .clearChanged => Sys2Proof.Machine.execClearChanged s
  | .mirrorCtrlUndefinedAction code => Sys2Proof.Machine.execMirrorCtrlUndefinedAction code s
  | .rosterSelWrite value => Sys2Proof.Machine.execRosterSelWrite value s
  | .mirrorSelWrite value => Sys2Proof.Machine.execMirrorSelWrite value s
  | .causeClear which value => Sys2Proof.Machine.execCauseClear which value s
  | .enableWrite which value => Sys2Proof.Machine.execEnableWrite which value s
  | .portEnableSet port control => Sys2Proof.Machine.execPortEnableSet port control s
  | .portEnableClear port control => Sys2Proof.Machine.execPortEnableClear port control s
  | .sweepEnableOn control => Sys2Proof.Machine.execSweepEnableOn control s
  | .sweepEnableOff control => Sys2Proof.Machine.execSweepEnableOff control s
  | .replyBaseLowWrite value => Sys2Proof.Machine.execReplyBaseLowWrite value s
  | .replyBaseHighWrite value => Sys2Proof.Machine.execReplyBaseHighWrite value s
  | .registerWrite addr value => Sys2Proof.Machine.execRegisterWrite addr value s
  | .counterRead port counter => Sys2Proof.Machine.execCounterRead port counter s
  | .timeoutsLowRead port => Sys2Proof.Machine.execTimeoutsLowRead port s
  | .msecTimerLowRead => Sys2Proof.Machine.execMsecTimerLowRead s
  | .dupNoticesRead => Sys2Proof.Machine.execDupNoticesRead s
  | .csnFall => Sys2Proof.Machine.execCsnFall s
  | .headerComplete header => Sys2Proof.Machine.execHeaderComplete header s
  | .csnRise => Sys2Proof.Machine.execCsnRise s
  | .resetnLow => Sys2Proof.Machine.execResetnLow s
  | .resetnHigh => Sys2Proof.Machine.execResetnHigh s
  | .signalDetected port => Sys2Proof.Machine.execSignalDetected port s
  | .idleRunComplete port => Sys2Proof.Machine.execIdleRunComplete port s
  | .aligningSignalLoss port => Sys2Proof.Machine.execAligningSignalLoss port s
  | .signalAbsent port => Sys2Proof.Machine.execSignalAbsent port s
  | .signalReturn port => Sys2Proof.Machine.execSignalReturn port s
  | .signalLossTimerExpiry port => Sys2Proof.Machine.execSignalLossTimerExpiry port s
  | .arbiterHand port => Sys2Proof.Machine.execArbiterHand port s
  | .frameSent port => Sys2Proof.Machine.execFrameSent port s
  | .replyWindowExpiry port => Sys2Proof.Machine.execReplyWindowExpiry port s
  | .frameReceived port reception => Sys2Proof.Machine.execFrameReceived port reception s
  | .lateFrame port reception => Sys2Proof.Machine.execLateFrame port reception s
  | .censusClear => Sys2Proof.Machine.execCensusClear s
  | .releaseSettleExpiry => Sys2Proof.Machine.execReleaseSettleExpiry s
  | .censusStop => Sys2Proof.Machine.execCensusStop s
  | .backoffExpiry tag => Sys2Proof.Machine.execBackoffExpiry tag s
  | .msecTick => Sys2Proof.Machine.execMsecTick s
  | .probingBegin port => Sys2Proof.Machine.execProbingBegin port s
  | .startDelimiterReceived port => Sys2Proof.Machine.execStartDelimiterReceived port s
  | .idleRunReset port => Sys2Proof.Machine.execIdleRunReset port s

end Sys2Proof.Machine
end

