-- ==== Sys2Proof/Safety.lean ====
section
/-! DEFINITION. What the statements speak of: when a register is reached, which parts of the state a group
of operations may touch, and the laws of the device as predicates on states. -/

namespace Sys2Proof.Safety

open Sys2Proof.Machine

/-! ## Reaching a register (R169, R170) -/

/-- A write transaction stands in DATA at the register and the part is not in reset. -/
def WritingAt (s : State) (a : RegAddr) : Prop :=
  s.inReset = false ∧ s.spi = .data false ∧ s.addrCounter = a

/-- A read transaction stands in DATA at the register and the part is not in reset. -/
def ReadingAt (s : State) (a : RegAddr) : Prop :=
  s.inReset = false ∧ s.spi = .data true ∧ s.addrCounter = a

/-! ## Idle symbols on the lines (R27) -/

/-- The idle symbol that takes a port to UP: the 64th of its run. -/
def lastOfRun (x : ChainPort) : Bool := decide (x.link = .aligning ∧ 63 ≤ x.idleRun)

/-- A port after one idle symbol: in ALIGNING the run is one longer, or, with the 64th, the port is UP with its
exchange IDLE (R27, R29). In the other link states the port stands: that DOWN and a running signal-loss timer do
not take the symbol for signal is the model's choice (R26, R28; log 40). -/
def heardIdle (x : ChainPort) : ChainPort :=
  if lastOfRun x = true then
    { x with link := .up, idleRun := 64, lossTimer := false, exch := .idle, rx := .nothing }
  else if x.link = .aligning then { x with idleRun := x.idleRun + 1 }
  else x

/-- The state after one idle symbol on each line; a port that enters UP raises PORT_CHANGE (R27, R29). -/
def linesIdle (s : State) : State :=
  { s with
    ports := { a := heardIdle s.ports.a, b := heardIdle s.ports.b }
    sticky := { s.sticky with
      portChange := s.sticky.portChange || lastOfRun s.ports.a || lastOfRun s.ports.b } }

/-! ## What a group of operations may touch -/

/-- Only slots, the completion queue and the roster (whose toggles a completion may change, R91) differ. -/
def TouchesRequests (s t : State) : Prop :=
  t = { s with slots := t.slots, completionQueue := t.completionQueue, roster := t.roster }

/-- Only what the front checks and the reach checks write differs (R107, R120, R159 to R166). -/
def TouchesSettling (s t : State) : Prop :=
  t = { s with
    slots := t.slots, completionQueue := t.completionQueue, roster := t.roster
    mirror := t.mirror, ringState := t.ringState, checks := t.checks, sticky := t.sticky }

/-- Only what the outcome of an exchange may write differs (R38). -/
def TouchesOutcome (s t : State) : Prop :=
  t = { s with
    slots := t.slots, completionQueue := t.completionQueue, roster := t.roster
    mirror := t.mirror, ringState := t.ringState, checks := t.checks, sticky := t.sticky
    ports := t.ports, rosterState := t.rosterState, tails := t.tails, exceeded := t.exceeded
    lockHeld := t.lockHeld, fingerprint := t.fingerprint, census := t.census
    followUps := t.followUps, notices := t.notices, reservations := t.reservations
    dupNotices := t.dupNotices }

/-- Only the blocks behind the host port differ: no register the host alone writes, no parameter, no
enable, no snapshot, no pin and no part of the SPI transaction. -/
def TouchesBlocks (s t : State) : Prop :=
  t = { s with
    slots := t.slots, completionQueue := t.completionQueue, roster := t.roster
    mirror := t.mirror, ringState := t.ringState, checks := t.checks, sticky := t.sticky
    ports := t.ports, rosterState := t.rosterState, tails := t.tails, exceeded := t.exceeded
    lockHeld := t.lockHeld, fingerprint := t.fingerprint, census := t.census
    followUps := t.followUps, notices := t.notices, reservations := t.reservations
    dupNotices := t.dupNotices, markers := t.markers, cursors := t.cursors, epoch := t.epoch
    msecTimer := t.msecTimer, freeCount := t.freeCount }

/-! ## Laws of the device -/

/-- Law 5 (R144): the notice queue and the reservations outstanding fit in 32 places. -/
def NoticeLaw (s : State) : Prop := s.notices.length + s.outstanding ≤ 32

/-- The values R43 gives each kind of entry, and Law 6 (R45). -/
def EntryLaw (e : RosterEntry) : Prop :=
  match e.state with
  | .vacant => e = RosterEntry.vacant
  | .lost => e.route = none ∧ e.lostMark = true ∧ e.identity.isSome ∧ e.failCount ≤ 15
  | .active | .suspect =>
    (∃ p, e.route = some p ∧ (e.hops.get p).isSome) ∧ e.lostMark = false ∧ e.identity.isSome
      ∧ e.failCount ≤ 15

/-- Every roster entry obeys Law 6 and holds the values of its state (R43, R45, R50). -/
def RosterLaw (s : State) : Prop := ∀ a, EntryLaw (s.entry a)

/-- Law 12 (R125): a FRESH mirror entry has an ACTIVE or SUSPECT roster entry; an EMPTY one holds the
EMPTY values (R124); the counts stay in their ranges. -/
def MirrorLaw (s : State) : Prop :=
  ∀ a, ((s.status a).state = .fresh → (s.entry a).live = true)
    ∧ ((s.status a).state = .empty →
        (s.status a).health = .ok ∧ (s.status a).record = none ∧ (s.status a).pendingCount = 0
          ∧ (s.status a).fetchWanted = false ∧ (s.status a).age = 0)
    ∧ (s.status a).missCount ≤ 15 ∧ (s.status a).age ≤ 65535 ∧ (s.status a).pendingCount ≤ 7

/-- The exchange of a port is HELD exactly while its link is not UP (section 2.2), its counters stay in
their ranges (R41), a frame is received only in IDLE or AWAITING (R31, R32, R34, R37), and a port in ALIGNING
has not counted 64 idle symbols yet (R27). -/
def PortLaw (x : ChainPort) : Prop :=
  (x.exch = .held ↔ x.link ≠ .up)
    ∧ (x.lossTimer = true → x.link = .up)
    ∧ x.crcErrors ≤ 255 ∧ x.symbolErrors ≤ 255 ∧ x.timeouts ≤ 65535
    ∧ x.lateReplies ≤ 255 ∧ x.strayReplies ≤ 255
    ∧ (x.rx = .outside → x.exch = .idle)
    ∧ (x.rx = .ofExchange → ∃ f w r, x.exch = .awaiting f w r)
    ∧ (∀ f w, x.exch = .awaiting f w true → x.rx = .ofExchange)
    ∧ x.idleRun ≤ 64 ∧ (x.link = .aligning → x.idleRun < 64)

/-- Both chain ports obey the port law. -/
def PortsLaw (s : State) : Prop := PortLaw s.ports.a ∧ PortLaw s.ports.b

/-- Every parameter stands in its range (R174, R175). -/
def ParamsLaw (q : Params) : Prop :=
  20 ≤ q.replyBase ∧ q.replyBase ≤ 2550 ∧ q.replyBase % 10 = 0 ∧ q.hopAllow ≤ 63
    ∧ q.retryLimit ≤ 7 ∧ q.busyLimit ≤ 15 ∧ 1 ≤ q.busyBackoff ∧ q.busyBackoff ≤ 255
    ∧ 1 ≤ q.faultLimit ∧ q.faultLimit ≤ 15 ∧ 1 ≤ q.sweepPeriod ∧ q.sweepPeriod ≤ 255
    ∧ 1 ≤ q.staleLimit ∧ q.staleLimit ≤ 15

/-- The tag an exchange in flight is made for, but for broadcasts (R109, R117). -/
def Owner.targetedTag : Owner → Option Tag
  | .attempt t => some t
  | .resync t => some t
  | _ => none

/-- An exchange in flight on a port is made for a slot that is ACTIVE, and for a targeted slot on one
port only (R84, R109, R117, R121). -/
def OwnersLaw (s : State) : Prop :=
  (∀ p x t, s.inFlight p = some x → Owner.targetedTag x.owner = some t →
      (s.slot t).state = .active ∧ (s.slot t).isBcast = false
        ∧ ∀ y, s.inFlight p.other = some y → Owner.targetedTag y.owner ≠ some t)
    ∧ (∀ p x t, s.inFlight p = some x → x.owner = .bcast t →
        (s.slot t).state = .active ∧ (s.slot t).isBcast = true
          ∧ (s.slot t).bcastPorts.get p = true)

/-- Law 1 (R84): the completion queue holds exactly the slots in state DONE, each once. -/
def QueueLaw (s : State) : Prop :=
  s.completionQueue.Nodup ∧ ∀ t, t ∈ s.completionQueue ↔ (s.slot t).state = .done

/-- The requests obey Law 1, with what keeps it (R84, R85, R91). -/
def RequestLaw (s : State) : Prop := QueueLaw s ∧ OwnersLaw s

/-- The kinds the lock refuses, as frames (R54). -/
def lockedKind : Kind → Bool
  | .write | .bcastWrite | .restart => true
  | _ => false

/-- Law 8 (R54): while the lock is HELD no WRITE, RESTART or BCAST_WRITE is in flight. -/
def LockLaw (s : State) : Prop :=
  s.lockHeld = true → ∀ p x, s.inFlight p = some x → lockedKind x.frame.kind = false

/-- The census has passed its clear: RELEASING or a walk. -/
def pastClear (s : State) : Prop :=
  s.census.state = .releasing ∨ s.census.state = .walkA ∨ s.census.state = .walkB

/-- Law 9 (R64): past the clear only frames of the census, RELEASE and CLAIM, are in flight. -/
def CensusLaw (s : State) : Prop :=
  pastClear s → ∀ p x, s.inFlight p = some x →
    x.owner = .census ∧ (x.frame.kind = .release ∨ x.frame.kind = .claim)

/-- A broadcast that is ACTIVE has a port left to carry it, is being sent on every such port while a census
runs, and stands only under an OPEN lock (R65, R107, R120, R121). -/
def BroadcastLaw (s : State) : Prop :=
  ∀ t, (s.slot t).state = .active → (s.slot t).isBcast = true →
    (∃ p, (s.slot t).bcastPorts.get p = true)
      ∧ (s.censusRunning = true → ∀ p, (s.slot t).bcastPorts.get p = true →
          s.carries p (.bcast t) = true)
      ∧ s.lockHeld = false

/-- While the lock is HELD no resynchronising PROBE is in flight, whose WRITE would follow it (R118). -/
def ResyncLaw (s : State) : Prop :=
  s.lockHeld = true → ∀ p x t, s.inFlight p = some x → x.owner ≠ .resync t

/-- Laws 8 and 9 with what keeps them. -/
def TrafficLaw (s : State) : Prop :=
  RequestLaw s ∧ PortsLaw s ∧ LockLaw s ∧ CensusLaw s ∧ BroadcastLaw s ∧ ResyncLaw s

/-! ## How requests end and wait -/

/-- A mailbox that check 1 or 2 of R90 refuses: it names no kind, or gives a length outside the kind's range,
or a target outside 1..62. -/
def BadRequest (m : Mailbox) : Prop :=
  let k := m.kind.toNat
  (k = 0 ∨ 5 < k) ∨ (1 ≤ k ∧ k ≤ 3 ∧ (m.length.toNat = 0 ∨ 32 < m.length.toNat))
    ∨ ((k = 4 ∨ k = 5) ∧ m.length.toNat ≠ 0)
    ∨ (k ≠ 3 ∧ (m.target.toNat = 0 ∨ 62 < m.target.toNat))

/-- The effect R94 gives a kind code and a history; a code that names no kind has sent nothing (log 18). -/
def effectByHistory (code : Byte) (h : History) : Effect :=
  if (code = 2 ∨ code = 5) ∧ h = .acked then .applied
  else if (code = 2 ∨ code = 3 ∨ code = 5) ∧ h = .sentNoReply then .unknown
  else .notApplied

/-- A slot made DONE with this outcome, its backoff ended (R85, R91). -/
def doneWith (x : Slot) (st : Status) (e : Effect) (late : Bool) (data : List Byte) (epoch : Byte) :
    Slot :=
  { x with
    state := .done, backoff := none
    outcome := some { status := st, effect := e, lateCancel := late, data := data, epoch := epoch } }

/-- The slot ends as `y`, first of the slots this step completes (R91). -/
def Completes (tag : Tag) (y : Slot) (s t : State) : Prop :=
  t.slot tag = y ∧ ∃ rest, t.completionQueue = s.completionQueue ++ tag :: rest

/-- Nothing but its own exchange decides this slot: no census and no check runs, its module is ACTIVE or
SUSPECT, and the lock lets its kind pass (R65, R106, R107). -/
def FreeToWait (tag : Tag) (a : Nat) (s : State) : Prop :=
  s.census.state = .idle ∧ (∀ q, (s.checks.get q).state = .idle) ∧ (s.entry a).live = true
    ∧ (s.lockHeld = false ∨ (s.slot tag).kindCode = 1 ∨ (s.slot tag).kindCode = 4)

/-- A request to one module waits with nothing before it: no older unfinished slot has its target or is a
BCAST_WRITE (R105). -/
def Waits (u : Tag) (b : Nat) (s : State) : Prop :=
  ((s.slot u).state = .queued ∨ (s.slot u).state = .waitingRetry) ∧ (s.slot u).target = some b
    ∧ ((s.slot u).kindCode = 1 ∨ (s.slot u).kindCode = 2 ∨ (s.slot u).kindCode = 4
      ∨ (s.slot u).kindCode = 5)
    ∧ ∀ v, (s.slot v).unfinished = true → s.older v u = true →
        (s.slot v).target ≠ some b ∧ (s.slot v).kindCode ≠ 3

/-- A count of failures or misses after one more (R46, R133). -/
def oneMore (n : Nat) : Nat := if n < 15 then n + 1 else 15

/-- No slot but this one is unfinished for the module. -/
def OnlyRequest (tag : Tag) (a : Nat) (s : State) : Prop :=
  ∀ u, u ≠ tag → (s.slot u).target = some a → (s.slot u).unfinished = false

/-! ## What a failed exchange does (TIMEOUT, CRC_ERROR, SYMBOL_ERROR) -/

/-- A failure reported for a module ACTIVE or SUSPECT (R46): its fail_count goes up; at FAULT_LIMIT an ACTIVE
module becomes SUSPECT and, with no census running, the check of its route port starts, triggered by it
(R156). The last two are said with both checks IDLE before. -/
def FailureCounted (a : Nat) (s t : State) : Prop :=
  (s.entry a).live = true →
    let n := oneMore (s.entry a).failCount
    (t.entry a).failCount = n
    ∧ ((∀ q, (s.checks.get q).state = .idle) →
      ((s.entry a).state = .active → s.params.faultLimit ≤ n →
        (t.entry a).state = .suspect
        ∧ ∀ q, (s.entry a).route = some q → t.checks =
            if s.census.state = .idle then
              s.checks.set q { Check.reset with state := .probing, trigger := a }
            else s.checks)
      ∧ ((s.entry a).state = .suspect ∨ n < s.params.faultLimit →
        (t.entry a).state = (s.entry a).state ∧ t.checks = s.checks))

/-- A miss of a module ACTIVE or SUSPECT (R133): its miss count goes up; at STALE_LIMIT an entry not yet STALE
becomes STALE, an EMPTY one with age 0 (R126), and MODULE_STALE is pending (R125). -/
def Missed (a : Nat) (s t : State) : Prop :=
  let m := oneMore (s.status a).missCount
  ((s.status a).state ≠ .stale → s.params.staleLimit ≤ m →
    t.status a = { s.status a with
      state := .stale, missCount := m
      age := if (s.status a).state = .empty then 0 else (s.status a).age }
    ∧ t.sticky = { s.sticky with moduleStale := true })
  ∧ ((s.status a).state = .stale ∨ m < s.params.staleLimit →
    t.status a = { s.status a with missCount := m } ∧ t.sticky = s.sticky)

/-- A POLL that fails counts a failure and a miss of its module (R46, R133). -/
def PollFails (a : Nat) (s t : State) : Prop :=
  FailureCounted a s t
  ∧ ((s.entry a).live = true →
    (t.status a).missCount = oneMore (s.status a).missCount
    ∧ ((∀ q, (s.checks.get q).state = .idle) → Missed a s t))

/-- A FETCH that fails counts a failure of its module, and its port's reservation is released (R46, R145);
with both checks IDLE the mirror, fetch_wanted in it, stands (R135). -/
def FetchFails (p : Port) (a : Nat) (s t : State) : Prop :=
  FailureCounted a s t
  ∧ t.reservations = s.reservations.set p none
  ∧ t.notices = s.notices
  ∧ ((∀ q, (s.checks.get q).state = .idle) → t.mirror = s.mirror)

/-- A failed attempt (R112): the history SENT_NO_REPLY; CANCELLED after a CANCEL (R99), TIMEOUT with its
attempts used up, ROSTER_CHANGED in a census (R65), WAITING_RETRY otherwise. A WRITE that ends so makes its
module's toggle UNSURE (R91), and the failure is counted (R46). -/
def AttemptFails (tag : Tag) (s t : State) : Prop :=
  let y := s.slot tag
  let z : Slot := { y with history := .sentNoReply }
  let ends (st : Status) : Prop :=
    Completes tag (doneWith z st (effectByHistory y.kindCode .sentNoReply) false [] s.epoch) s t
  ∀ a, y.target = some a → y.state = .active →
    (y.kindCode = 1 ∨ y.kindCode = 2 ∨ y.kindCode = 4 ∨ y.kindCode = 5) →
    (y.cancelRequested = true → ends .cancelled)
    ∧ (y.cancelRequested = false → 1 + s.params.retryLimit ≤ y.attempts → ends .timeout)
    ∧ (y.cancelRequested = false → y.attempts < 1 + s.params.retryLimit →
        (s.census.state ≠ .idle → ends .rosterChanged)
        ∧ (FreeToWait tag a s → t.slot tag = { z with state := .waitingRetry, backoff := none }))
    ∧ ((t.slot tag).state = .done → y.kindCode = 2 → (s.entry a).state ≠ .vacant →
        (t.entry a).toggle = .unsure)
    ∧ FailureCounted a s t

/-- A resynchronising PROBE that fails (R118): no attempt, so attempts used and history stay; the follow-up
WRITE is dropped and the slot waits again. -/
def ResyncFails (p : Port) (tag : Tag) (s t : State) : Prop :=
  let y := s.slot tag
  let ends (st : Status) : Prop :=
    Completes tag (doneWith y st (effectByHistory y.kindCode y.history) false [] s.epoch) s t
  ∀ a, y.target = some a → y.state = .active → y.kindCode = 2 →
    t.followUps = s.followUps.set p none
    ∧ (y.cancelRequested = true → ends .cancelled)
    ∧ (y.cancelRequested = false →
        (s.census.state ≠ .idle → ends .rosterChanged)
        ∧ (FreeToWait tag a s → t.slot tag = { y with state := .waitingRetry, backoff := none }))
    ∧ FailureCounted a s t

/-- The census finishes with a result (R77): roster VALID, the fingerprint over the entries present, the lock
decided by it, CENSUS_DONE raised, LOCK_HELD on a mismatch. -/
def Finishes (r : CensusResult) (s t : State) : Prop :=
  t.census = { s.census with state := .idle, result := r, reason := .none, settleTimer := false }
    ∧ t.rosterState = .valid ∧ t.fingerprint = t.computeFingerprint
    ∧ t.lockHeld = (s.params.expectEnable && decide (t.fingerprint ≠ s.params.expectedFp))
    ∧ t.sticky = { s.sticky with
        censusDone := true, lockHeld := s.sticky.lockHeld || t.lockHeld }

/-- A failed CLAIM (R72, R74, R75): after the first try the census stands; after the second walk A goes on to
walk B, or finishes where port B takes no part, and walk B finishes with the ring OPEN. With a stop pending
neither goes on nor finishes (R78). -/
def ClaimFails (s t : State) : Prop :=
  (∀ q, (s.checks.get q).state = .idle) →
  (s.census.state = .walkA ∨ s.census.state = .walkB) →
  (s.census.tries ≠ 2 → t.census = s.census ∧ t.ringState = s.ringState)
  ∧ (s.census.tries = 2 → s.census.state = .walkA → t.ringState = s.ringState
      ∧ (s.census.stopPending ≠ none → t.census = s.census)
      ∧ (s.census.stopPending = none → s.census.ports.b = true →
          t.census = { s.census with state := .walkB, position := 0, tries := 0 })
      ∧ (s.census.stopPending = none → s.census.ports.b = false → s.exceeded = false →
          Finishes .ok s t))
  ∧ (s.census.tries = 2 → s.census.state = .walkB → t.ringState = .opened
      ∧ (s.census.stopPending ≠ none → t.census = s.census)
      ∧ (s.census.stopPending = none → s.exceeded = false → Finishes .ok s t))

/-! ## Reach checks -/

/-- A cut-off list with the decision for one module. -/
def decided (a : Nat) (m : Mark) (l : List CutOff) : List CutOff :=
  l.map fun c => if c.addr = a then { c with mark := m } else c

/-- A check that has ended: its lists and its cursor cleared, its trigger, result, break location and counts
kept (R166). -/
def endedCheck (c : Check) : Check :=
  { c with
    state := .idle, probeList := [], cursor := 0, tries := 0, cutOff := [], begun := false
    deciding := none }

/-- A waiting slot that the lock lets pass, whose target is not VACANT: checks 1 and 3 of R107 leave it to the
check that decides its target. -/
def LeftToCheck (u : Tag) (b : Nat) (s : State) : Prop :=
  ((s.slot u).state = .queued ∨ (s.slot u).state = .waitingRetry) ∧ (s.slot u).target = some b
    ∧ (s.slot u).kindCode ≠ 3 ∧ (s.entry b).state ≠ .vacant
    ∧ (s.lockHeld = false ∨ (s.slot u).kindCode = 1 ∨ (s.slot u).kindCode = 4)

/-- The check of a port ends with this state before its end (R166): the waiting requests of each module it
made LOST are UNREACHABLE, but for those that checks 1 and 3 of R107 complete at once where they come to the
front; a CLOSED ring with a module cut off is BROKEN, REACH_DONE is pending. -/
def EndsAs (p : Port) (c : Check) (s t : State) : Prop :=
  t.checks = s.checks.set p (endedCheck c)
    ∧ t.sticky.reachDone = true
    ∧ t.ringState = (if s.ringState = .closed ∧ c.cutOff ≠ [] then .broken else s.ringState)
    ∧ ∀ u b, LeftToCheck u b s → { addr := b, mark := .lost } ∈ c.cutOff →
        t.slot u = doneWith (s.slot u) .unreachable
          (effectByHistory (s.slot u).kindCode (s.slot u).history) false [] s.epoch

/-- REROUTING goes on from this state of the check: with every module decided it ends; otherwise the PENDING
module of the lowest address is taken, try 0, where it can be probed on the other port (R162). -/
def GoesOn (p : Port) (c : Check) (s t : State) : Prop :=
  ((∀ m ∈ c.cutOff, m.mark ≠ .pending) → EndsAs p c s t)
    ∧ ∀ b, { addr := b, mark := .pending } ∈ c.cutOff →
        (∀ m ∈ c.cutOff, m.mark = .pending → b ≤ m.addr) →
        (s.port p.other).link = .up → ((s.entry b).hops.get p.other).isSome = true →
        t.checks = s.checks.set p { c with deciding := some b, tries := 0 }

/-- The modules at hop `k` and beyond on a port (R161). -/
def beyond (p : Port) (k b : Nat) (s : State) : Prop :=
  (s.entry b).live = true ∧ (s.entry b).route = some p ∧ k ≤ ((s.entry b).hops.get p).getD 0

/-- A module made LOST (R50, R138, R163): its entry, its mirror entry, the causes. -/
def MadeLost (b : Nat) (s t : State) : Prop :=
  t.entry b = { s.entry b with
      state := .lost, route := none, lostMark := true
      failCount := (t.entry b).failCount, toggle := (t.entry b).toggle }
    ∧ t.status b = { s.status b with
        state := .stale, lostMark := true, fetchWanted := false
        age := if (s.status b).state = .empty then 0 else (s.status b).age }
    ∧ t.sticky.moduleLost = true
    ∧ ((s.status b).state ≠ .stale → t.sticky.moduleStale = true)

/-- The second failed probe of PROBING at a module (R161): the break is found before it. With the other port
UP and every module beyond the break reachable there, the lowest of them is taken for a re-route probe
(R162). With the other port not UP all of them are LOST and the check ends (R163, R166), in this one step (the
model's reading, log 30). -/
def BreakIsFound (p : Port) (a : Nat) (s t : State) : Prop :=
  let c := s.checks.get p
  let k := ((s.entry a).hops.get p).getD 0
  ∃ l : List Nat, l.Nodup ∧ (∀ b, b ∈ l ↔ beyond p k b s)
    ∧ ((s.port p.other).link = .up →
        (∀ b, beyond p k b s → ((s.entry b).hops.get p.other).isSome = true) →
        ∃ m ∈ l, (∀ b ∈ l, m ≤ b)
          ∧ t.checks = s.checks.set p { c with
              state := .rerouting, breakLocation := k - 1, result := .brk, tries := 0
              cutOff := l.map fun b => { addr := b, mark := .pending }
              deciding := some m })
    ∧ ((s.port p.other).link ≠ .up →
        (∀ b ∈ l, MadeLost b s t)
        ∧ EndsAs p { c with
            breakLocation := k - 1, result := .brk, lost := c.lost + l.length
            cutOff := l.map fun b => { addr := b, mark := .lost } } s t)

/-- A PROBE of the check of port `p`, sent to a module on port `q`, fails: the first try leaves the check to
a second one, the second finds the break (R160) or makes the module LOST (R162). A signal of the failure finds
the check running and is absorbed (R157). -/
def ProbeFails (q p : Port) (a : Nat) (s t : State) : Prop :=
  let c := s.checks.get p
  (s.checks.get p.other).state = .idle → (s.entry a).live = true → (s.entry a).route = some p →
  (q = p → c.state = .probing → c.begun = true → c.probeList[c.cursor]? = some a →
    (c.tries < 2 → t.checks = s.checks) ∧ (2 ≤ c.tries → BreakIsFound p a s t))
  ∧ (q = p.other → c.state = .rerouting → c.deciding = some a →
    (c.tries < 2 → t.checks = s.checks)
    ∧ (2 ≤ c.tries → MadeLost a s t
        ∧ GoesOn p { c with
            cutOff := decided a .lost c.cutOff, lost := c.lost + 1, deciding := none } s t))

/-- What the owner of an exchange makes of its failure, the next exchange of its port being free (R38): an
attempt, a resynchronising PROBE, a CLAIM, a check's PROBE, a POLL (R133), a FETCH (R145). -/
def FailureTold (p : Port) (x : Xfer) (s t : State) : Prop :=
  (∀ tag, x.owner = .attempt tag → AttemptFails tag s t)
    ∧ (∀ tag, x.owner = .resync tag → ResyncFails p tag s t)
    ∧ (x.owner = .census → ClaimFails s t)
    ∧ (∀ q, x.owner = .check q → ProbeFails p q x.frame.dest s t)
    ∧ (∀ a, x.owner = .poll a → PollFails a s t)
    ∧ (∀ a, x.owner = .fetch a → FetchFails p a s t)

/-! ## What LINK_LOST does (R39) -/

/-- A slot whose exchange ended LINK_LOST on port `p` is to wait again as `z` (R113, R118): ROSTER_CHANGED in a
census (R65); with nothing else deciding it WAITING_RETRY, unless its module loses its last port with `p`, when
the check that starts makes it LOST and the slot UNREACHABLE, in the same step (log 30). -/
def WaitsAgain (p : Port) (tag : Tag) (a : Nat) (z : Slot) (s t : State) : Prop :=
  let effect := effectByHistory z.kindCode z.history
  let w : Slot := { z with state := .waitingRetry, backoff := none }
  let e := s.entry a
  (s.census.state ≠ .idle → Completes tag (doneWith z .rosterChanged effect false [] s.epoch) s t)
  ∧ (FreeToWait tag a s →
    (e.route ≠ some p ∨ ((s.port p.other).link = .up ∧ (e.hops.get p.other).isSome = true) →
      t.slot tag = w)
    ∧ (e.route = some p → (s.port p.other).link ≠ .up →
      t.slot tag = doneWith w .unreachable effect false [] s.epoch))

/-- An attempt that ends LINK_LOST (R113): sent in part it counts as sent without a reply, not sent it is
uncounted; CANCELLED after a CANCEL (R99; that the attempt is uncounted there too is log 19), TIMEOUT with its
attempts used up, waiting again otherwise. The roster is told nothing but the toggle of a WRITE that is DONE
with its last frame unanswered (R91). -/
def AttemptLost (p : Port) (tag : Tag) (sent : Bool) (s t : State) : Prop :=
  let y := s.slot tag
  let z : Slot :=
    if sent = true then { y with history := .sentNoReply } else { y with attempts := y.attempts - 1 }
  let ends (st : Status) : Prop :=
    Completes tag (doneWith z st (effectByHistory z.kindCode z.history) false [] s.epoch) s t
  ∀ a, y.target = some a → y.state = .active →
    (y.kindCode = 1 ∨ y.kindCode = 2 ∨ y.kindCode = 4 ∨ y.kindCode = 5) →
    (y.cancelRequested = true → ends .cancelled)
    ∧ (y.cancelRequested = false → sent = true → 1 + s.params.retryLimit ≤ y.attempts →
        ends .timeout)
    ∧ (y.cancelRequested = false → sent = false ∨ y.attempts < 1 + s.params.retryLimit →
        WaitsAgain p tag a z s t)
    ∧ ((t.slot tag).state = .done → y.kindCode = 2 → z.history = .sentNoReply →
        (s.entry a).state ≠ .vacant → (t.entry a).toggle = .unsure)
    ∧ (t.entry a).failCount = (s.entry a).failCount

/-- A resynchronising PROBE that ends LINK_LOST (R118): attempts used and history stay, the follow-up WRITE is
dropped, the slot waits again, or is CANCELLED after a CANCEL (R99). -/
def ResyncLost (p : Port) (tag : Tag) (s t : State) : Prop :=
  let y := s.slot tag
  ∀ a, y.target = some a → y.state = .active → y.kindCode = 2 →
    t.followUps = s.followUps.set p none
    ∧ (y.cancelRequested = true → Completes tag
        (doneWith y .cancelled (effectByHistory y.kindCode y.history) false [] s.epoch) s t)
    ∧ (y.cancelRequested = false → WaitsAgain p tag a y s t)
    ∧ (t.entry a).failCount = (s.entry a).failCount

/-- A BCAST_WRITE that port `p` has left, as `z` (R121): with the other port to carry it stays ACTIVE, also
after a CANCEL or a census start (log 20); with none left it is DONE, its effect by its history, also after a
CANCEL where no part of it went out (R94; log 38). -/
def BroadcastLeft (p : Port) (tag : Tag) (z : Slot) (s t : State) : Prop :=
  (z.bcastPorts.get p.other = true → t.slot tag = z)
  ∧ (z.bcastPorts.get p.other = false →
    t.slot tag = doneWith z
      (if z.cancelRequested = true then .cancelled
        else if s.census.state = .idle then .ok else .rosterChanged)
      (effectByHistory 3 z.history) false [] s.epoch
    ∧ tag ∈ t.completionQueue)

/-- The sweep is told LINK_LOST of a module (R134, R135): nothing is counted, and unless the module is LOST its
mirror entry stands. -/
def SweepLost (a : Nat) (s t : State) : Prop :=
  (t.entry a).failCount = (s.entry a).failCount
  ∧ (t.status a).missCount = (s.status a).missCount
  ∧ ((t.entry a).state ≠ .lost → t.status a = s.status a)

/-- What the owner of an exchange makes of LINK_LOST, sent in part or not sent (R39): an attempt (R113), a
resynchronising PROBE (R118), a broadcast (R121), a POLL (R134), a FETCH (R145), a check's PROBE, which reports
nothing (R160). The census is told by its port (R70, R80). -/
def LinkLostTold (p : Port) (x : Xfer) (sent : Bool) (s t : State) : Prop :=
  (∀ tag, x.owner = .attempt tag → AttemptLost p tag sent s t)
    ∧ (∀ tag, x.owner = .resync tag → ResyncLost p tag s t)
    ∧ (∀ tag, x.owner = .bcast tag → (s.slot tag).state = .active → (s.slot tag).kindCode = 3 →
        let y := s.slot tag
        let z : Slot := { y with bcastPorts := y.bcastPorts.set p false }
        BroadcastLeft p tag
          (if sent = true then { z with bcastSent := true, history := .sentNoReply }
            else { z with attempts := z.attempts - 1 }) s t)
    ∧ (∀ a, x.owner = .poll a → SweepLost a s t)
    ∧ (∀ a, x.owner = .fetch a → SweepLost a s t ∧ t.reservations = s.reservations.set p none)
    ∧ (∀ q, x.owner = .check q →
        (t.entry x.frame.dest).failCount = (s.entry x.frame.dest).failCount)

/-- What the census makes of a port that leaves UP: a census port stops it with PORT_LOST, where no stop is
pending, and its settle (R70, R80); any other port, and a census in DRAINING or IDLE, changes nothing of it.
While a census runs no check starts (R29, R80). -/
def CensusTold (p : Port) (s t : State) : Prop :=
  (pastClear s → s.census.ports.get p = true →
    t.census = { s.census with
      settleTimer := false
      stopPending := match s.census.stopPending with
        | none => some (.failed .portLost)
        | some c => some c })
  ∧ (¬pastClear s ∨ (s.census.ports.get p = false ∧ s.carries p .census = false) →
    t.census = s.census)
  ∧ (s.census.state ≠ .idle → (∀ q, (s.checks.get q).state = .idle) → t.checks = s.checks)

/-! ## What an accepted reply does -/

/-- The reply to an attempt (R110): its DATA, ACK or matching IDENT ends it OK, with late_cancel after a
CANCEL (R99), another module's IDENT ends it IDENTITY_MISMATCH, a NAK ends it REJECTED, or CANCELLED after a
CANCEL. A NAK BUSY uses up no attempt: BUSY_EXHAUSTED at BUSY_LIMIT, ROSTER_CHANGED in a census, otherwise a
backoff of BUSY_BACKOFF × 100 microseconds (R111). -/
def AttemptAnswered (tag : Tag) (f : Frame) (s t : State) : Prop :=
  let y := s.slot tag
  let late := y.cancelRequested
  let acked (st : Status) (data : List Byte) : Prop :=
    Completes tag (doneWith { y with history := .acked } st
      (if y.kindCode = 2 ∨ y.kindCode = 5 then .applied else .notApplied) late data s.epoch) s t
  let z : Slot := { y with history := .naked }
  let b : Slot := { z with attempts := y.attempts - 1 }
  (y.kindCode = 1 → f.kind = .data → acked .ok f.payload)
  ∧ (y.kindCode = 2 ∨ y.kindCode = 5 → f.kind = .ack → acked .ok [])
  ∧ (y.kindCode = 4 → f.kind = .ident → ∀ a i, y.target = some a → (s.entry a).identity = some i →
      let j := Identity.ofBytes f.payload
      acked
        (if i.maker = j.maker ∧ i.typeCode = j.typeCode ∧ i.serial = j.serial then .ok
          else .identityMismatch) f.payload)
  ∧ (f.kind = .nak → f.payload ≠ [1] →
      Completes tag
        (doneWith z (if late then .cancelled else .rejected) .notApplied false [] s.epoch) s t)
  ∧ (f.kind = .nak → f.payload = [1] →
      (late = true → Completes tag (doneWith b .cancelled .notApplied false [] s.epoch) s t)
      ∧ (late = false → s.params.busyLimit ≤ y.busyCount →
          Completes tag (doneWith b .busyExhausted .notApplied false [] s.epoch) s t)
      ∧ (late = false → y.busyCount < s.params.busyLimit →
          (s.census.state ≠ .idle →
            Completes tag (doneWith { b with busyCount := (t.slot tag).busyCount } .rosterChanged
              .notApplied false [] s.epoch) s t)
          ∧ ∀ a, y.target = some a → FreeToWait tag a s → t.slot tag = { b with
              state := .waitingRetry, busyCount := y.busyCount + 1
              backoff := some (s.params.busyBackoff * 100) }))

/-- The records a reply to an attempt changes (R46, R47, R119): fail_count 0; the toggle after the ACK of a
WRITE the opposite of the one its frame carried, 0 after an IDENT; after the ACK of a RESTART the toggle 0,
last_seq NONE and the mirror entry EMPTY with its flags. -/
def AnswerRecorded (tag : Tag) (a : Nat) (sent f : Frame) (s t : State) : Prop :=
  let y := s.slot tag
  y.target = some a → 1 ≤ a → a ≤ 62 → OnlyRequest tag a s → (s.entry a).live = true →
  (∀ q, (s.checks.get q).state = .idle) →
  (t.entry a).failCount = 0
  ∧ (f.kind = .nak ∨ f.kind = .data → (t.entry a).toggle = (s.entry a).toggle)
  ∧ (y.kindCode = 2 → f.kind = .ack →
      (t.entry a).toggle = if sent.control.getLsbD 0 = true then .zero else .one)
  ∧ (y.kindCode = 4 → f.kind = .ident → (t.entry a).toggle = .zero)
  ∧ (y.kindCode = 5 → f.kind = .ack →
      (t.entry a).toggle = .zero ∧ (t.entry a).lastSeq = none
        ∧ t.status a = { MirrorEntry.empty with
            changed := (s.status a).changed, watch := (s.status a).watch
            lostMark := (s.status a).lostMark })

/-- The reply to a resynchronising PROBE (R118): after the IDENT of the module the WRITE goes out in the same
step with toggle 0, as the slot's attempt; another module's IDENT ends the slot IDENTITY_MISMATCH, a NAK ends
it REJECTED or backs it off, a CANCEL ends it CANCELLED (R99), a census ROSTER_CHANGED (R65). -/
def ResyncAnswered (p : Port) (tag : Tag) (f : Frame) (s t : State) : Prop :=
  let y := s.slot tag
  let ends (z : Slot) (st : Status) : Prop :=
    Completes tag (doneWith z st (effectByHistory 2 y.history) false [] s.epoch) s t
  t.followUps = s.followUps.set p none
  ∧ (y.cancelRequested = true → ends y .cancelled)
  ∧ ∀ a i, y.cancelRequested = false → y.target = some a → (s.entry a).identity = some i →
    let j := Identity.ofBytes f.payload
    let same := i.maker = j.maker ∧ i.typeCode = j.typeCode ∧ i.serial = j.serial
    (f.kind = .ident → ¬same → ends y .identityMismatch)
    ∧ (f.kind = .ident → same → s.census.state ≠ .idle → ends y .rosterChanged)
    ∧ (f.kind = .ident → same → s.census.state = .idle →
        t.slot tag = { y with
          state := .active, attempts := y.attempts + 1, toggleUsed := some false }
        ∧ (t.port p).exch = .sending
            { frame :=
                { kind := .write, control := 0, dest := a, source := 0, register := y.register
                  payload := y.writeData }
              hops := ((s.entry a).hops.get p).getD 0, owner := .attempt tag })
    ∧ (f.kind = .nak → f.payload ≠ [1] → ends y .rejected)
    ∧ (f.kind = .nak → f.payload = [1] → s.params.busyLimit ≤ y.busyCount →
        ends y .busyExhausted)
    ∧ (f.kind = .nak → f.payload = [1] → y.busyCount < s.params.busyLimit →
        (s.census.state ≠ .idle → ends { y with busyCount := (t.slot tag).busyCount } .rosterChanged)
        ∧ (FreeToWait tag a s → t.slot tag = { y with
            state := .waitingRetry, busyCount := y.busyCount + 1
            backoff := some (s.params.busyBackoff * 100) }))

/-! ## Values the rules give -/

/-- REPLY_BASE as R175 stores a 16-bit value. -/
def storedReplyBase (v : Nat) : Nat :=
  if v < 20 then 20 else if 2550 < v then 2550 else v - v % 10

/-- The reason of a refused command in CMD_RESULT, with CMD_ERROR raised and nothing else changed but CMD
and the address counter (R172). -/
def refusedState (s : State) (code : Byte) (r : RefuseReason) : State :=
  { s with
    addrCounter := 0x0009, cmd := code, cmdResult := .refused r
    sticky := { s.sticky with cmdError := true } }

/-- The places of sticky causes in CAUSE0 and CAUSE1 (section 11.3, R177). -/
def stickyMask : CauseByte → Byte
  | .zero => 0xF4
  | .one => 0x07

/-- The places of causes in ENABLE0 and ENABLE1 (section 11.3, R179). -/
def causeMask : CauseByte → Byte
  | .zero => 0xFF
  | .one => 0x07

/-- The other of the two cause bytes. -/
def otherByte : CauseByte → CauseByte
  | .zero => .one
  | .one => .zero

/-! ## Registers as bytes (sections 11.3 and 11.4) -/

/-- The registers whose read has a side effect: MSEC_TIMER low, the port counters and TIMEOUTS low,
DUP_NOTICES (R42, R149, R171). -/
def effectReads : List RegAddr :=
  [0x0030, 0x0041, 0x0042, 0x0043, 0x0045, 0x0046, 0x0049, 0x004A, 0x004B, 0x004D, 0x004E, 0x006F]

/-- Section 11.3 lists no register at the address. -/
def noRegister (a : RegAddr) : Prop :=
  let n := a.toNat
  (0x0003 ≤ n ∧ n ≤ 0x0007) ∨ (0x000C ≤ n ∧ n ≤ 0x000F) ∨ (0x0015 ≤ n ∧ n ≤ 0x001F)
    ∨ n = 0x002A ∨ n = 0x002B ∨ (0x0032 ≤ n ∧ n ≤ 0x003F) ∨ n = 0x0047 ∨ n = 0x004F
    ∨ n = 0x005E ∨ n = 0x005F ∨ (0x0065 ≤ n ∧ n ≤ 0x0067) ∨ n = 0x006D ∨ n = 0x006E
    ∨ (0x0070 ≤ n ∧ n ≤ 0x007F) ∨ (0x0084 ≤ n ∧ n ≤ 0x009F) ∨ (0x00C0 ≤ n ∧ n ≤ 0x00FF)
    ∨ (0x0114 ≤ n ∧ n ≤ 0x013F) ∨ (0x0158 ≤ n ∧ n ≤ 0x017F) ∨ 0x01D0 ≤ n

/-- The window of `n` bytes from this address reads these bytes, zeros beyond their end. -/
def ShowsBytes (s : State) (base : RegAddr) (n : Nat) (l : List Byte) : Prop :=
  ∀ i, i < n → s.regRead (base + BitVec.ofNat 15 i) = l.getD i 0

/-- A flag as the number of its place. -/
def flag (b : Bool) (place : Nat) : Nat := if b then place else 0

/-- GROUP_SUMMARY from the active causes of CAUSE0 and CAUSE1 (R177, R179). -/
def groupByte (c0 c1 : Byte) : Byte :=
  BitVec.ofNat 8
    (flag (c0 &&& 0x01 != 0) 1 + flag (c0 &&& 0x06 != 0) 2 + flag (c0 &&& 0x18 != 0) 4
      + flag (c0 &&& 0xE0 != 0 || c1 &&& 0x01 != 0) 8 + flag (c1 &&& 0x06 != 0) 16)

/-- CMD_RESULT. -/
def cmdResultByte : CmdResult → Byte
  | .none => 0
  | .done => 1
  | .refused .busy => 0x12
  | .refused .idle => 0x22
  | .refused .empty => 0x32
  | .refused .state => 0x42
  | .refused .noSuchTag => 0x52
  | .refused .unknown => 0x62

/-- SUBMIT_RESULT. -/
def submitResultByte : SubmitResult → Byte
  | .none => 0
  | .accepted tag => BitVec.ofNat 8 (1 + 16 * tag.val)
  | .full => 2

/-- PORT_X_STATE. -/
def portStateByte (x : ChainPort) : Byte :=
  (match x.link with | .disabled => 0 | .down => 1 | .aligning => 2 | .up => 3)
    ||| (match x.exch with | .held => 0 | .idle => 0x10 | .sending _ => 0x20 | .awaiting _ _ _ => 0x30)

/-- ROSTER_STATUS. -/
def rosterStatus (s : State) : Byte :=
  (match s.rosterState with | .empty => 0 | .building => 1 | .valid => 2 | .partly => 3)
    ||| (match s.ringState with | .unknown => 0 | .opened => 4 | .closed => 8 | .broken => 12)
    ||| BitVec.ofNat 8 (flag s.exceeded 16) ||| BitVec.ofNat 8 (flag s.lockHeld 32)

/-- A census result and reason. -/
def resultCode (r : CensusResult) (w : CensusReason) : Byte :=
  (match r with | .none => 0 | .ok => 1 | .exceeded => 2 | .failed => 3 | .aborted => 4)
    ||| (match w with
      | .none => 0 | .noPort => 0x10 | .portLost => 0x20 | .staleAddress => 0x30
      | .ringConflict => 0x40)

/-- CENSUS_STATE. -/
def censusStateByte (c : Census) : Byte :=
  (match c.state with | .idle => 0 | .draining => 1 | .releasing => 2 | .walkA => 3 | .walkB => 4)
    ||| BitVec.ofNat 8 (flag c.ports.a 16) ||| BitVec.ofNat 8 (flag c.ports.b 32)

/-- STOP_PENDING. -/
def stopPendingByte : Option StopCause → Byte
  | none => 0
  | some .aborted => resultCode .aborted .none
  | some (.failed w) => resultCode .failed w

/-- CHECK_X_STATE. -/
def checkStateByte (c : Check) : Byte :=
  (match c.state with | .idle => 0 | .probing => 1 | .rerouting => 2)
    ||| (match c.result with | .none => 0 | .noBreak => 0x10 | .brk => 0x20)

/-- The roster window. -/
def rosterBytes (e : RosterEntry) : List Byte :=
  let hops (h : Option Nat) : Byte :=
    match h with | none => 0 | some n => 0x80 ||| BitVec.ofNat 8 (n % 64)
  [(match e.state with | .vacant => 0 | .active => 1 | .suspect => 2 | .lost => 3)
      ||| (match e.route with | none => 0 | some .a => 4 | some .b => 8)
      ||| BitVec.ofNat 8 (flag e.lostMark 16) ||| BitVec.ofNat 8 (flag e.identity.isSome 32),
    hops e.hops.a, hops e.hops.b,
    BitVec.ofNat 8 (e.failCount % 16)
      ||| (match e.toggle with | .zero => 0 | .one => 0x10 | .unsure => 0x20),
    (match e.lastSeq with | none => 0 | some q => 0x80 ||| BitVec.ofNat 8 q.toNat), 0, 0]
    ++ (match e.identity with | none => List.replicate 12 0 | some i => i.bytes)

/-- The mirror window. -/
def mirrorBytes (m : MirrorEntry) : List Byte :=
  [(match m.state with | .empty => 0 | .fresh => 1 | .stale => 2)
      ||| (match m.health with | .ok => 0 | .warn => 4 | .fault => 8)
      ||| BitVec.ofNat 8 (flag m.watch 16) ||| BitVec.ofNat 8 (flag m.changed 32)
      ||| BitVec.ofNat 8 (flag m.lostMark 64) ||| BitVec.ofNat 8 (flag m.fetchWanted 128),
    BitVec.ofNat 8 (m.pendingCount % 8) ||| BitVec.ofNat 8 (16 * (m.missCount % 16)),
    BitVec.ofNat 8 m.age, BitVec.ofNat 8 (m.age / 256)]
    ++ match m.record with
      | none => List.replicate 18 0
      | some r => [0x80 ||| BitVec.ofNat 8 r.kind.toNat, BitVec.ofNat 8 r.data.length]
          ++ (r.data ++ List.replicate 16 0).take 16

/-- The status codes of section 11.3. -/
def statusCode : Status → Byte
  | .ok => 1
  | .rejected => 2
  | .timeout => 3
  | .busyExhausted => 4
  | .unreachable => 5
  | .rosterChanged => 6
  | .refusedLock => 7
  | .cancelled => 8
  | .noModule => 9
  | .badRequest => 10
  | .identityMismatch => 11

/-- The completion head window, from the count, the tag at the head, its slot and its outcome. -/
def completionBytes (n : Nat) (tag : Tag) (x : Slot) (c : Completion) : List Byte :=
  [BitVec.ofNat 8 n, BitVec.ofNat 8 tag.val, x.kindCode, BitVec.ofNat 8 (x.target.getD 0),
    statusCode c.status, BitVec.ofNat 8 x.attempts,
    (match c.effect with | .notApplied => 0 | .applied => 1 | .unknown => 2)
      ||| BitVec.ofNat 8 (flag c.lateCancel 4),
    c.epoch, BitVec.ofNat 8 c.data.length]
    ++ List.replicate 23 0 ++ (c.data ++ List.replicate 32 0).take 32

/-- The notice head window, from the count and the record at the head. -/
def noticeHeadBytes (n : Nat) (r : NoticeRecord) : List Byte :=
  [BitVec.ofNat 8 n, BitVec.ofNat 8 r.source, r.epoch,
    BitVec.ofNat 8 r.seq.toNat ||| BitVec.ofNat 8 (flag r.gap 128), r.code,
    BitVec.ofNat 8 r.payload.length, BitVec.ofNat 8 r.arrival.toNat,
    BitVec.ofNat 8 (r.arrival.toNat / 256)]
    ++ (r.payload ++ List.replicate 8 0).take 8

end Sys2Proof.Safety
end

