-- ==== Sys2Proof/WellFormed.lean ====
section
/-! DEFINITION. When a command's operands are those of its row: each byte-carrying row of the table
stands for some bytes and not for others (section 11.3). -/

namespace Sys2Proof

open Sys2Proof.Machine

/-- The registers whose writes have a row of their own. CONTROL is not among them: a CONTROL byte that
changes only EXPECT_ENABLE is a REGISTER_WRITE. -/
def registerHasOwnRow (addr : RegAddr) : Bool :=
  addr == Reg.cmd || addr == Reg.cause0 || addr == Reg.cause1 || addr == Reg.enable0
    || addr == Reg.enable1 || addr == Reg.replyBaseLow || addr == Reg.replyBaseHigh
    || addr == Reg.rosterSel || addr == Reg.mirrorSel || addr == Reg.mirrorCtrl

/-- The operands are those of the command's row. -/
def Instr.wellFormed : Instr → Bool
  | .unknownCommand code => (Command.ofCode code).isNone
  | .mirrorCtrlUndefinedAction code => code != 1 && code != 2 && code != 3
  | .registerWrite addr _ => !registerHasOwnRow addr
  | .portEnableSet p control => controlPort control p
  | .portEnableClear p control => !controlPort control p
  | .sweepEnableOn control => controlSweep control
  | .sweepEnableOff control => !controlSweep control
  | .submit | .cancel | .popCompletion | .popNotice | .startCensus | .abortCensus => true
  | .acceptRoster | .clearAllChanged | .softReset | .setWatch | .clearWatch | .clearChanged => true
  | .rosterSelWrite _ | .mirrorSelWrite _ | .causeClear _ _ | .enableWrite _ _ => true
  | .replyBaseLowWrite _ | .replyBaseHighWrite _ | .counterRead _ _ | .timeoutsLowRead _ => true
  | .msecTimerLowRead | .dupNoticesRead | .csnFall | .headerComplete _ | .csnRise => true
  | .resetnLow | .resetnHigh | .signalDetected _ | .idleRunComplete _ => true
  | .aligningSignalLoss _ | .signalAbsent _ | .signalReturn _ => true
  | .signalLossTimerExpiry _ | .arbiterHand _ | .frameSent _ | .replyWindowExpiry _ => true
  | .frameReceived _ _ | .lateFrame _ _ | .censusClear | .releaseSettleExpiry => true
  | .censusStop | .backoffExpiry _ | .msecTick | .probingBegin _ => true
  | .startDelimiterReceived _ | .idleRunReset _ => true

end Sys2Proof
end

