-- ==== Sys2Proof/Certificates/Slice0/Obligations.lean ====
section
/-! DEFINITION. The statements for the provers. Each docstring names the rule of spec/ it formalises; a
statement on the model's own choice names its log entry. -/

open Sys2Proof Sys2Proof.Machine Sys2Proof.Safety

/-! ## The queue of commands -/

/-- A step runs the command at the front of the queue on the state with the queue's rest. With no command
waiting, one idle symbol comes in on each line outside reset, which a port in ALIGNING counts (R27; log 24,
the model's choice), which leaves a frame being received as it is (log 39, the model's choice) and which a
port in DOWN, or in UP with its signal-loss timer running, does not take for signal (log 40, the model's
choice); in reset, and otherwise, the block idles (log 1), unless a read transaction stands at a register
without side effect, whose next byte is then taken (log 5, `ReadsWithEffect`). -/
def Obligations.StepRunsFrontCommand : Prop :=
  ∀ (c : Instr) (rest : List Instr) (s : State),
    step { s with pending := c :: rest } = exec c { s with pending := rest }
      ∧ (s.inReset = true → step { s with pending := [] } = .next { s with pending := [] })
      ∧ (s.inReset = false → s.spi ≠ .data true ∨ s.addrCounter ∈ effectReads →
          step { s with pending := [] } = .next (linesIdle { s with pending := [] }))

/-- Every command has an effect and none stops the block: each answers a next state that waits on the same
queue (logs 1, 3). -/
def Obligations.EveryCommandCompletes : Prop :=
  ∀ (c : Instr) (s : State), ∃ t, exec c s = .next t ∧ t.pending = s.pending

/-! ## Commands of CMD (chapters 3, 4, 5, 7, 8, 10) -/

/-- SUBMIT with a FREE slot: the lowest-numbered FREE slot is taken and the mailbox copied into it, MBX_TARGET
with every kind that has a target, and nothing changes beside what the front checks and the reach checks go on
to write (R86, R89). Both checks IDLE, a request that no check stops is QUEUED: its module ACTIVE or SUSPECT
and the lock OPEN or the kind READ or PROBE; any good request while a census runs with the roster BUILDING
(R90, R92). A BCAST_WRITE alone, with no census, goes to the ports UP that route a module, is done OK with
none, and REFUSED_LOCK under a HELD lock (R107, R120). With no FREE slot: FULL in SUBMIT_RESULT, CMD_RESULT
reads DONE, and nothing else changes (R89). -/
def Obligations.SubmitTakesLowestFreeSlotOrFull : Prop :=
  ∀ s : State, WritingAt s 0x0008 →
    ((∀ u : Tag, (s.slot u).state ≠ .free) →
      exec .submit s = .next
        { s with addrCounter := 0x0009, cmd := 0x01, cmdResult := .done, submitResult := .full })
    ∧ ∀ tag : Tag, (s.slot tag).state = .free →
    (∀ u : Tag, u < tag → (s.slot u).state ≠ .free) →
    let k := s.mailbox.kind
    let a := s.mailbox.target.toNat
    let good := ¬BadRequest s.mailbox
    let checksIdle := ∀ p, (s.checks.get p).state = .idle
    let routed (p : Port) : Prop := (s.port p).link = .up ∧ ∃ b, (s.entry b).route = some p
    ∃ t, exec .submit s = .next t
      ∧ TouchesSettling
          { s with
            addrCounter := 0x0009, cmd := 0x01, cmdResult := .done
            submitResult := .accepted tag, submissionCounter := s.submissionCounter + 1 } t
      ∧ (t.slot tag).state ≠ .free
      ∧ (t.slot tag).kindCode = k
      ∧ (t.slot tag).seq = s.submissionCounter
      ∧ (t.slot tag).length = s.mailbox.length.toNat
      ∧ (k = 1 ∨ k = 2 ∨ k = 3 → (t.slot tag).register = s.mailbox.register)
      ∧ (k = 4 ∨ k = 5 → (t.slot tag).register = 0)
      ∧ (k = 2 ∨ k = 3 →
          (t.slot tag).writeData = s.mailbox.data.toList.take s.mailbox.length.toNat)
      ∧ (good → k ≠ 3 → (t.slot tag).target = some a)
      ∧ (k = 3 → (t.slot tag).target = none)
      ∧ (t.slot tag).history = .notSent ∧ (t.slot tag).attempts = 0
      ∧ (t.slot tag).busyCount = 0 ∧ (t.slot tag).toggleUsed = none
      ∧ (t.slot tag).cancelRequested = false
      ∧ (good → checksIdle → k ≠ 3 → (s.entry a).live = true →
          s.lockHeld = false ∨ k = 1 ∨ k = 4 → (t.slot tag).state = .queued)
      ∧ (good → checksIdle → s.census.state ≠ .idle → s.rosterState = .building →
          (t.slot tag).state = .queued)
      ∧ (good → k = 3 → checksIdle → s.census.state = .idle →
          (∀ u : Tag, (s.slot u).unfinished = false) →
          (s.lockHeld = false → (∃ p, routed p) → (t.slot tag).state = .active
            ∧ ∀ p, (t.slot tag).bcastPorts.get p = true ↔ routed p)
          ∧ (s.lockHeld = false → (∀ p, ¬routed p) → (t.slot tag).state = .done
            ∧ (t.slot tag).outcome = some
              { status := .ok, effect := .notApplied, lateCancel := false, data := []
                epoch := s.epoch })
          ∧ (s.lockHeld = true → (t.slot tag).state = .done
            ∧ (t.slot tag).outcome = some
              { status := .refusedLock, effect := .notApplied, lateCancel := false, data := []
                epoch := s.epoch }))

/-- Checks 1 and 2 of R90: a mailbox that names no kind, gives a length outside the kind's range or a target
outside 1..62 makes the slot DONE BAD_REQUEST in the same step, at the tail of the queue, its target absent
(R91). Its effect is NOT_APPLIED: R94's for a code that names a kind; for one that names none R94 has no row,
and it is the model's reading (log 18). -/
def Obligations.SubmitRejectsBadRequest : Prop :=
  ∀ (s : State) (tag : Tag), WritingAt s 0x0008 → (s.slot tag).state = .free →
    (∀ u : Tag, u < tag → (s.slot u).state ≠ .free) →
    (let k := s.mailbox.kind.toNat
     let n := s.mailbox.length.toNat
     let a := s.mailbox.target.toNat
     (k = 0 ∨ 5 < k) ∨ (1 ≤ k ∧ k ≤ 3 ∧ (n = 0 ∨ 32 < n)) ∨ ((k = 4 ∨ k = 5) ∧ n ≠ 0)
       ∨ ((k = 1 ∨ k = 2 ∨ k = 4 ∨ k = 5) ∧ (a = 0 ∨ 62 < a))) →
    ∃ t rest, exec .submit s = .next t
      ∧ (t.slot tag).state = .done ∧ (t.slot tag).target = none
      ∧ (t.slot tag).kindCode = s.mailbox.kind ∧ (t.slot tag).attempts = 0
      ∧ (t.slot tag).outcome = some
          { status := .badRequest, effect := .notApplied, lateCancel := false, data := []
            epoch := s.epoch }
      ∧ t.completionQueue = s.completionQueue ++ tag :: rest

/-- Checks 3 and 4 of R90 under R92: with the roster not BUILDING and no unfinished slot of the same
target, a valid request to a VACANT address completes NO_MODULE at submission and one to a LOST module
UNREACHABLE. -/
def Obligations.SubmitRefusesAbsentModule : Prop :=
  ∀ (s : State) (tag : Tag), WritingAt s 0x0008 → (s.slot tag).state = .free →
    (∀ u : Tag, u < tag → (s.slot u).state ≠ .free) →
    mailboxValid s.mailbox = true → s.mailbox.kind ≠ 3 → s.rosterState ≠ .building →
    (∀ u : Tag, (s.slot u).unfinished = true → (s.slot u).target ≠ some s.mailbox.target.toNat) →
    ∀ st : Status,
      ((s.entry s.mailbox.target.toNat).state = .vacant ∧ st = .noModule
        ∨ (s.entry s.mailbox.target.toNat).state = .lost ∧ st = .unreachable) →
      ∃ t rest, exec .submit s = .next t
        ∧ (t.slot tag).state = .done
        ∧ (t.slot tag).target = some s.mailbox.target.toNat
        ∧ (t.slot tag).outcome = some
            { status := st, effect := .notApplied, lateCancel := false, data := []
              epoch := s.epoch }
        ∧ t.completionQueue = s.completionQueue ++ tag :: rest

/-- CANCEL of a QUEUED or WAITING_RETRY slot: DONE CANCELLED, its effect from its kind and history, a
backoff ended, at the tail of the completion queue (R91, R94, R98; log 18 for a code that names no kind). A
WRITE of effect UNKNOWN makes its target's toggle UNSURE in the same step (R91, R47); with both checks IDLE and
no other unfinished WRITE of that effect the roster does not change otherwise. -/
def Obligations.CancelEndsWaitingSlot : Prop :=
  ∀ (s : State) (tag : Tag), WritingAt s 0x0008 → s.cancelTag.toNat = tag.val →
    ((s.slot tag).state = .queued ∨ (s.slot tag).state = .waitingRetry) →
    let x := s.slot tag
    let unsure (a : Nat) : Prop := x.kindCode = 2 ∧ x.history = .sentNoReply ∧ x.target = some a
      ∧ (s.entry a).state ≠ .vacant
    ∃ t rest, exec .cancel s = .next t
      ∧ TouchesSettling { s with addrCounter := 0x0009, cmd := 0x02, cmdResult := .done } t
      ∧ t.slot tag = doneWith x .cancelled (effectByHistory x.kindCode x.history) false [] s.epoch
      ∧ t.completionQueue = s.completionQueue ++ tag :: rest
      ∧ (∀ a, unsure a → (t.entry a).toggle = .unsure)
      ∧ ((∀ p, (s.checks.get p).state = .idle) →
          (∀ u : Tag, u ≠ tag → (s.slot u).unfinished = true → (s.slot u).kindCode = 2 →
            (s.slot u).history ≠ .sentNoReply) →
          ∀ a, (unsure a → t.entry a = { s.entry a with toggle := .unsure })
            ∧ (¬unsure a → t.entry a = s.entry a))

/-- CANCEL of an ACTIVE slot. Other than a BCAST_WRITE: cancel_requested becomes yes, or stays so, and nothing
else changes (R98). A BCAST_WRITE with no frame of it being sent is DONE CANCELLED at once; with one being
sent cancel_requested becomes yes and only the ports it is being sent on stay to be carried (R100). -/
def Obligations.CancelOfActiveSlot : Prop :=
  ∀ (s : State) (tag : Tag), WritingAt s 0x0008 → s.cancelTag.toNat = tag.val →
    (s.slot tag).state = .active →
    ((s.slot tag).kindCode ≠ 3 →
      exec .cancel s = .next
        { s with
          addrCounter := 0x0009, cmd := 0x02, cmdResult := .done
          slots := s.slots.set tag.val { s.slot tag with cancelRequested := true } })
    ∧ ((s.slot tag).kindCode = 3 → (∀ p, s.carries p (.bcast tag) = false) →
      ∃ t rest, exec .cancel s = .next t
        ∧ TouchesSettling { s with addrCounter := 0x0009, cmd := 0x02, cmdResult := .done } t
        ∧ (t.slot tag).state = .done ∧ (t.slot tag).bcastPorts = { a := false, b := false }
        ∧ (t.slot tag).outcome = some
            { status := .cancelled
              effect := if (s.slot tag).history = .sentNoReply then .unknown else .notApplied
              lateCancel := false, data := [], epoch := s.epoch }
        ∧ t.completionQueue = s.completionQueue ++ tag :: rest)
    ∧ ((s.slot tag).kindCode = 3 → (∃ p, s.carries p (.bcast tag) = true) →
      exec .cancel s = .next
        { s with
          addrCounter := 0x0009, cmd := 0x02, cmdResult := .done
          slots := s.slots.set tag.val { s.slot tag with
            cancelRequested := true
            bcastPorts :=
              { a := (s.slot tag).bcastPorts.a && s.carries .a (.bcast tag)
                b := (s.slot tag).bcastPorts.b && s.carries .b (.bcast tag) } } })

/-- Refused commands change nothing but CMD, CMD_RESULT, CMD_ERROR and the address counter (R172): CANCEL of a
FREE or DONE slot or of no slot NO_SUCH_TAG (R98), START_CENSUS while a census runs BUSY (R63), ABORT_CENSUS
with none running IDLE (R78), a code that names no command, 0 included, UNKNOWN. -/
def Obligations.RefusedCommandsChangeNothing : Prop :=
  ∀ s : State, WritingAt s 0x0008 →
    ((∀ tag : Tag, s.cancelTag.toNat = tag.val →
        (s.slot tag).state = .free ∨ (s.slot tag).state = .done) →
      exec .cancel s = .next (refusedState s 0x02 .noSuchTag))
    ∧ (s.census.state ≠ .idle → exec .startCensus s = .next (refusedState s 0x10 .busy))
    ∧ (s.census.state = .idle → exec .abortCensus s = .next (refusedState s 0x11 .idle))
    ∧ (∀ code : Byte, code ∉ [0x01, 0x02, 0x03, 0x04, 0x10, 0x11, 0x12, 0x20, 0x5A] →
        exec (.unknownCommand code) s = .next (refusedState s code .unknown))

/-- POP_COMPLETION with a record in the queue frees the head slot with all its fields cleared; POP_NOTICE with
a record in the queue removes the head record; nothing else changes. With an empty queue each is refused
EMPTY (R97, R143). -/
def Obligations.PopsRemoveHead : Prop :=
  ∀ s : State, WritingAt s 0x0008 →
    (∀ tag rest, s.completionQueue = tag :: rest →
      exec .popCompletion s = .next
        { s with
          addrCounter := 0x0009, cmd := 0x03, cmdResult := .done
          completionQueue := rest, slots := s.slots.set tag.val Slot.free })
    ∧ (s.completionQueue = [] → exec .popCompletion s = .next (refusedState s 0x03 .empty))
    ∧ (∀ r rest, s.notices = r :: rest →
      exec .popNotice s = .next
        { s with addrCounter := 0x0009, cmd := 0x04, cmdResult := .done, notices := rest })
    ∧ (s.notices = [] → exec .popNotice s = .next (refusedState s 0x04 .empty))

/-- START_CENSUS with the census IDLE: DRAINING with result, reason and stop pending NONE, both checks IDLE
with result, trigger and counts kept, every WAITING_RETRY slot and every QUEUED slot with no older ACTIVE
slot of its target DONE ROSTER_CHANGED, every targeted ACTIVE slot left to its exchange (R63, R65, R66,
R168; log 18 for a code that names no kind). -/
def Obligations.StartCensusDrains : Prop :=
  ∀ s : State, WritingAt s 0x0008 → s.census.state = .idle →
    ∃ t, exec .startCensus s = .next t
      ∧ TouchesSettling
          { s with
            addrCounter := 0x0009, cmd := 0x10, cmdResult := .done
            census := { s.census with
              state := .draining, result := .none, reason := .none, stopPending := none } } t
      ∧ t.mirror = s.mirror ∧ t.ringState = s.ringState ∧ t.sticky = s.sticky
      ∧ (∀ p, (s.checks.get p).state ≠ .idle → t.checks.get p =
          { Check.reset with
            trigger := (s.checks.get p).trigger, result := (s.checks.get p).result
            rerouted := (s.checks.get p).rerouted, lost := (s.checks.get p).lost })
      ∧ (∀ p, (s.checks.get p).state = .idle → t.checks.get p = s.checks.get p)
      ∧ (∀ u : Tag,
          ((s.slot u).state = .waitingRetry
            ∨ ((s.slot u).state = .queued ∧ ∀ v : Tag, (s.slot v).state = .active →
                (s.slot u).target.isSome = true → (s.slot v).target = (s.slot u).target →
                s.older v u = false)) →
          (t.slot u).state = .done ∧ (t.slot u).backoff = none ∧ (t.slot u).outcome = some
            { status := .rosterChanged
              effect := effectByHistory (s.slot u).kindCode (s.slot u).history
              lateCancel := false, data := [], epoch := s.epoch })
      ∧ (∀ u : Tag, (s.slot u).state = .active → (s.slot u).kindCode ≠ 3 → t.slot u = s.slot u)

/-- ABORT_CENSUS of a running census: stop pending becomes ABORTED where it was none and is unchanged
otherwise, and a running settle is stopped (R78). -/
def Obligations.AbortCensusSetsStop : Prop :=
  ∀ s : State, WritingAt s 0x0008 → s.census.state ≠ .idle →
    ∃ c, exec .abortCensus s = .next
        { s with
          addrCounter := 0x0009, cmd := 0x11, cmdResult := .done
          census := { s.census with stopPending := some c, settleTimer := false } }
      ∧ (s.census.stopPending = none → c = .aborted)
      ∧ (∀ d, s.census.stopPending = some d → c = d)

/-- ACCEPT_ROSTER opens the lock on a VALID or PARTIAL roster and is refused STATE on an EMPTY or BUILDING
one (R55). -/
def Obligations.AcceptRosterOpensLock : Prop :=
  ∀ s : State, WritingAt s 0x0008 →
    (s.rosterState = .valid ∨ s.rosterState = .partly →
      exec .acceptRoster s = .next
        { s with addrCounter := 0x0009, cmd := 0x12, cmdResult := .done, lockHeld := false })
      ∧ (s.rosterState = .empty ∨ s.rosterState = .building →
          exec .acceptRoster s = .next (refusedState s 0x12 .state))

/-- CLEAR_ALL_CHANGED clears every changed flag and nothing else of the mirror; the change set is empty and
MIRROR_CHANGE not pending (R136). -/
def Obligations.ClearAllChangedEmptiesSet : Prop :=
  ∀ s : State, WritingAt s 0x0008 →
    ∃ t, exec .clearAllChanged s = .next t
      ∧ t = { s with
          addrCounter := 0x0009, cmd := 0x20, cmdResult := .done, mirror := t.mirror }
      ∧ (∀ a, t.status a = { s.status a with changed := false })
      ∧ (t.causeByte .zero).getLsbD 3 = false

/-- SOFT_RESET: every block at its starting values; the SPI transaction, the links, the enables, the
parameters and the epoch's successor stay (R40, R42, R61, R82, R102, R123, R139, R154, R168, R171, R173). The
loss timer, the idle run and a frame being received stay too (log 23). -/
def Obligations.SoftResetValues : Prop :=
  ∀ s : State, WritingAt s 0x0008 →
    ∃ t, exec .softReset s = .next t
      ∧ t = { State.reset with
          csnHigh := s.csnHigh, spi := s.spi, addrCounter := 0x0009, sdoByte := s.sdoByte
          cmd := 0x5A, cmdResult := .done, params := s.params
          replyBaseHold := BitVec.ofNat 8 s.params.replyBase, enables := s.enables
          epoch := s.epoch + 1, ports := t.ports, freeCount := s.freeCount, pending := s.pending }
      ∧ ∀ p, t.port p =
          { ChainPort.reset with
            link := (s.port p).link, idleRun := (s.port p).idleRun
            lossTimer := (s.port p).lossTimer
            exch := if (s.port p).link = .up then .idle else .held
            rx := if (s.port p).rx = .nothing then .nothing else .outside }

/-! ## Other register writes (R59, R137, R170, R171, R174, R175, R178, R179) -/

/-- A write of MIRROR_CTRL acts on the live entry that MIRROR_SEL names and takes a new snapshot of it:
SET_WATCH, CLEAR_WATCH, CLEAR_CHANGED, and an undefined action, which leaves the entry as it stands. While
MIRROR_SEL holds 0 or 63..255 no entry changes and the window shows EMPTY (R137). -/
def Obligations.MirrorCtrlActsOnEntry : Prop :=
  ∀ (s : State) (code : Byte), WritingAt s 0x0141 →
    let m := s.status s.mirrorSel.toNat
    let after (c : Instr) (m' : MirrorEntry) : Prop :=
      ∃ t, exec c s = .next t
        ∧ t = { s with addrCounter := 0x0142, mirror := t.mirror, mirrorWindow := m' }
        ∧ t.status s.mirrorSel.toNat = m'
        ∧ ∀ a, a ≠ s.mirrorSel.toNat → t.status a = s.status a
    (1 ≤ s.mirrorSel.toNat → s.mirrorSel.toNat ≤ 62 →
      after .setWatch { m with watch := true }
        ∧ after .clearWatch { m with watch := false }
        ∧ after .clearChanged { m with changed := false }
        ∧ (code.toNat = 0 ∨ 3 < code.toNat → after (.mirrorCtrlUndefinedAction code) m))
    ∧ (s.mirrorSel.toNat = 0 ∨ 62 < s.mirrorSel.toNat →
      ∀ c, c = .setWatch ∨ c = .clearWatch ∨ c = .clearChanged
          ∨ (c = .mirrorCtrlUndefinedAction code ∧ (code.toNat = 0 ∨ 3 < code.toNat)) →
        exec c s = .next { s with addrCounter := 0x0142, mirrorWindow := MirrorEntry.empty })

/-- A write of ROSTER_SEL or MIRROR_SEL takes a whole copy of the entry of that address, or VACANT and EMPTY
for 0 and 63..255, and changes nothing else (R59, R137). -/
def Obligations.SelectsTakeSnapshots : Prop :=
  ∀ (s : State) (v : Byte),
    (WritingAt s 0x0100 →
      exec (.rosterSelWrite v) s = .next
        { s with addrCounter := 0x0101, rosterSel := v, rosterWindow := s.entry v.toNat }
      ∧ (v.toNat = 0 ∨ 62 < v.toNat → s.entry v.toNat = RosterEntry.vacant))
    ∧ (WritingAt s 0x0140 →
      exec (.mirrorSelWrite v) s = .next
        { s with addrCounter := 0x0141, mirrorSel := v, mirrorWindow := s.status v.toNat }
      ∧ (v.toNat = 0 ∨ 62 < v.toNat → s.status v.toNat = MirrorEntry.empty))

/-- A write of a cause register clears each sticky cause written 1; a 0, a 1 at a level cause's place and a 1
for a cause not pending have no effect, and the other cause register keeps its causes (R178). A write of an
enable register sets the enables of its causes and leaves those of the other register and every pending
indication (R179). -/
def Obligations.CauseAndEnableWrites : Prop :=
  ∀ (s : State) (which : CauseByte) (v : Byte),
    (WritingAt s (Reg.cause which) →
      ∃ t, exec (.causeClear which v) s = .next t
        ∧ t = { s with addrCounter := Reg.cause which + 1, sticky := t.sticky }
        ∧ t.causeByte which = s.causeByte which &&& ~~~(v &&& stickyMask which)
        ∧ t.causeByte (otherByte which) = s.causeByte (otherByte which))
    ∧ (WritingAt s (Reg.enable which) →
      ∃ t, exec (.enableWrite which v) s = .next t
        ∧ t = { s with addrCounter := Reg.enable which + 1, enables := t.enables }
        ∧ t.enables.byte which = v &&& causeMask which
        ∧ t.enables.byte (otherByte which) = s.enables.byte (otherByte which)
        ∧ ∀ c, t.causeByte c = s.causeByte c)

/-- Outside reset IRQn is low exactly while some cause is pending with its enable on, which is while
GROUP_SUMMARY shows a flag; in reset it is released (R179, R180). -/
def Obligations.IrqFollowsActiveCauses : Prop :=
  ∀ s : State,
    (s.inReset = false →
      (s.irqLow = true ↔
        s.causeByte .zero &&& s.enables.byte .zero ≠ 0
          ∨ s.causeByte .one &&& s.enables.byte .one ≠ 0)
      ∧ (s.irqLow = true ↔ s.groupSummary ≠ 0))
    ∧ (s.inReset = true → s.irqLow = false)

/-- A CONTROL byte that clears the enable of no port in UP: it stores SWEEP_ENABLE and EXPECT_ENABLE, moves
each DISABLED port whose enable it sets to DOWN and each enabled port whose enable it clears to DISABLED;
nothing else changes and no event is raised (R25, R174, R182). -/
def Obligations.ControlByteTakesEffect : Prop :=
  ∀ (s : State) (p : Port) (v : Byte) (c : Instr), WritingAt s 0x0020 →
    (∀ q, (s.port q).link = .up → controlPort v q = true) →
    (c = .portEnableSet p v ∧ controlPort v p = true
      ∨ c = .portEnableClear p v ∧ controlPort v p = false
      ∨ c = .sweepEnableOn v ∧ v.getLsbD 0 = true
      ∨ c = .sweepEnableOff v ∧ v.getLsbD 0 = false) →
    let moved (q : Port) : ChainPort :=
      if controlPort v q = true ∧ (s.port q).link = .disabled then
        { s.port q with link := .down }
      else if controlPort v q = false ∧ (s.port q).link ≠ .disabled then
        { s.port q with link := .disabled, idleRun := 0 }
      else s.port q
    exec c s = .next
      { s with
        addrCounter := 0x0021
        ports := { a := moved .a, b := moved .b }
        params := { s.params with sweepEnable := v.getLsbD 0, expectEnable := v.getLsbD 3 } }

/-- A port leaves UP, by its enable (R25) or by the signal-loss timer (R28): PORT_CHANGE is pending, its
exchange is HELD and nothing is received on it, its counters and the other port stand as they were, and no
register of the host alone changes (R29, R39). Whoever made the exchange in flight is told LINK_LOST
(`LinkLostTold`): a frame awaiting its reply had gone out whole, of one being sent some part had or none (R39;
which, is the free value of log 11). A broadcast still to be carried loses the port (R121, log 20). A census
past its clear stops with PORT_LOST where the port is one of its own (R70, R80). With the census IDLE, the
port's reach check: IDLE, with a module routed on the port, it starts with the break at hop 0 (R29, R156);
PROBING, it has found a BREAK at hop 0; REROUTING, its break is at hop 0, the trigger kept (R164); where the
other port is not UP and the check was IDLE or PROBING (its cut-off list empty), every module routed on the
port is LOST and the check IDLE (R162, R163, R166). The other port's check REROUTING: every module still
PENDING is LOST and that check IDLE (R165). R162 decides modules one at a time: that several are LOST without
a probe, their requests UNREACHABLE and the check ended, in this one step, is the model's reading (log 30,
DEDUCED; that a cancelled attempt not sent is uncounted, log 19; that a cancelled broadcast of which nothing
went out has effect NOT_APPLIED, log 38). -/
def Obligations.LeavingUpTellsTheBlocks : Prop :=
  ∀ (s : State) (p : Port) (c : Instr) (l : LinkState) (s0 : State), (s.port p).link = .up →
    ((∃ v, c = .portEnableClear p v ∧ l = .disabled ∧ WritingAt s 0x0020
        ∧ controlPort v p = false ∧ controlPort v p.other = s.portEnabled p.other
        ∧ s0 = { s with
            addrCounter := 0x0021
            params := { s.params with
              sweepEnable := v.getLsbD 0, expectEnable := v.getLsbD 3 } })
      ∨ (c = .signalLossTimerExpiry p ∧ l = .down ∧ s.inReset = false
          ∧ (s.port p).lossTimer = true ∧ s0 = s)) →
    let own := s.checks.get p
    let other := s.checks.get p.other
    ∃ t, exec c s = .next t
      ∧ TouchesBlocks s0 t
      ∧ t.sticky.portChange = true
      ∧ t.port p = { s.port p with
          link := l, idleRun := 0, lossTimer := false, exch := .held, rx := .nothing }
      ∧ t.port p.other = s.port p.other
      ∧ (∃ sent : Bool, (∀ x w r, (s.port p).exch = .awaiting x w r → sent = true)
          ∧ ∀ x, s.inFlight p = some x → LinkLostTold p x sent s t)
      ∧ (∀ tag, (s.slot tag).state = .active → (s.slot tag).kindCode = 3 →
          (s.slot tag).bcastPorts.get p = true →
          (∀ x, s.inFlight p = some x →
            x.owner ≠ .bcast tag ∧ x.owner ≠ .attempt tag ∧ x.owner ≠ .resync tag) →
          BroadcastLeft p tag
            { s.slot tag with bcastPorts := (s.slot tag).bcastPorts.set p false } s t)
      ∧ CensusTold p s t
      ∧ (s.census.state = .idle →
          (own.state = .idle → other.state = .idle → (∃ a, (s.entry a).route = some p) →
            (t.checks.get p).result = .brk ∧ (t.checks.get p).breakLocation = 0
              ∧ (t.checks.get p).trigger = 0)
          ∧ (own.state ≠ .idle →
              (t.checks.get p).breakLocation = 0 ∧ (t.checks.get p).trigger = own.trigger)
          ∧ (own.state = .probing → (t.checks.get p).result = .brk)
          ∧ (own.state = .idle ∨ (own.state = .probing ∧ own.cutOff = []) →
              (s.port p.other).link ≠ .up →
              (t.checks.get p).state = .idle
                ∧ ∀ a, (s.entry a).live = true → (s.entry a).route = some p →
                  (t.entry a).state = .lost ∧ (t.entry a).route = none
                    ∧ (t.entry a).lostMark = true)
          ∧ (other.state = .rerouting →
              (t.checks.get p.other).state = .idle
                ∧ ∀ a, { addr := a, mark := .pending } ∈ other.cutOff →
                  (s.entry a).live = true →
                  (t.entry a).state = .lost ∧ (t.entry a).lostMark = true))

/-- Writes of parameters (R171, R174, R175). REPLY_BASE: the low byte goes to the hold and changes no
parameter; the high byte stores the value of the hold and that byte, below 20 as 20, above 2550 as 2550,
rounded down to a multiple of 10 between. Each one-byte parameter is stored inside its range. A read returns
what is stored, and the bits 4 to 7 of CONTROL, of no parameter, read 0. -/
def Obligations.ParameterWritesClamped : Prop :=
  ∀ (s : State) (v : Byte),
    (s.regRead 0x0021 = BitVec.ofNat 8 s.params.replyBase
      ∧ s.regRead 0x0022 = BitVec.ofNat 8 (s.params.replyBase / 256)
      ∧ s.regRead 0x0023 = BitVec.ofNat 8 s.params.hopAllow
      ∧ s.regRead 0x0024 = BitVec.ofNat 8 s.params.retryLimit
      ∧ s.regRead 0x0025 = BitVec.ofNat 8 s.params.busyLimit
      ∧ s.regRead 0x0026 = BitVec.ofNat 8 s.params.busyBackoff
      ∧ s.regRead 0x0027 = BitVec.ofNat 8 s.params.faultLimit
      ∧ s.regRead 0x0028 = BitVec.ofNat 8 s.params.sweepPeriod
      ∧ s.regRead 0x0029 = BitVec.ofNat 8 s.params.staleLimit
      ∧ ∀ i, 4 ≤ i → (s.regRead 0x0020).getLsbD i = false)
    ∧ (WritingAt s 0x0021 →
      exec (.replyBaseLowWrite v) s = .next { s with addrCounter := 0x0022, replyBaseHold := v })
    ∧ (WritingAt s 0x0022 →
      exec (.replyBaseHighWrite v) s = .next
        { s with
          addrCounter := 0x0023
          params := { s.params with
            replyBase := storedReplyBase (v.toNat * 256 + s.replyBaseHold.toNat) } })
    ∧ (WritingAt s 0x0023 → exec (.registerWrite 0x0023 v) s = .next
      { s with addrCounter := 0x0024, params := { s.params with hopAllow := min v.toNat 63 } })
    ∧ (WritingAt s 0x0024 → exec (.registerWrite 0x0024 v) s = .next
      { s with addrCounter := 0x0025, params := { s.params with retryLimit := min v.toNat 7 } })
    ∧ (WritingAt s 0x0025 → exec (.registerWrite 0x0025 v) s = .next
      { s with addrCounter := 0x0026, params := { s.params with busyLimit := min v.toNat 15 } })
    ∧ (WritingAt s 0x0026 → exec (.registerWrite 0x0026 v) s = .next
      { s with addrCounter := 0x0027, params := { s.params with busyBackoff := max v.toNat 1 } })
    ∧ (WritingAt s 0x0027 → exec (.registerWrite 0x0027 v) s = .next
      { s with
        addrCounter := 0x0028
        params := { s.params with faultLimit := max 1 (min v.toNat 15) } })
    ∧ (WritingAt s 0x0028 → exec (.registerWrite 0x0028 v) s = .next
      { s with addrCounter := 0x0029, params := { s.params with sweepPeriod := max v.toNat 1 } })
    ∧ (WritingAt s 0x0029 → exec (.registerWrite 0x0029 v) s = .next
      { s with
        addrCounter := 0x002A
        params := { s.params with staleLimit := max 1 (min v.toNat 15) } })

/-- A byte written to a mailbox register, to CANCEL_TAG or to a byte of EXPECTED_FP is kept: that register
reads it back and every other register reads as before (R58, R88, R98, R170). -/
def Obligations.StoredRegistersReadBack : Prop :=
  ∀ (s : State) (a : RegAddr) (v : Byte), WritingAt s a →
    (a = 0x000B ∨ (0x0080 ≤ a.toNat ∧ a.toNat ≤ 0x0083) ∨ (0x00A0 ≤ a.toNat ∧ a.toNat ≤ 0x00BF)
      ∨ (0x002C ≤ a.toNat ∧ a.toNat ≤ 0x002F)) →
    ∃ t, exec (.registerWrite a v) s = .next t
      ∧ t = { s with
          addrCounter := a + 1, mailbox := t.mailbox, cancelTag := t.cancelTag
          params := { s.params with expectedFp := t.params.expectedFp } }
      ∧ t.regRead a = v ∧ ∀ b, b ≠ a → t.regRead b = s.regRead b

/-- A byte written to a read-only register, to a window or to an address with no register is ignored (R170,
R182). -/
def Obligations.ReadOnlyWritesIgnored : Prop :=
  ∀ (s : State) (a : RegAddr) (v : Byte), WritingAt s a →
    (a.toNat ≤ 0x0007 ∨ a.toNat = 0x0009 ∨ a.toNat = 0x000A
      ∨ (0x000C ≤ a.toNat ∧ a.toNat ≤ 0x000F) ∨ (0x0014 ≤ a.toNat ∧ a.toNat ≤ 0x001F)
      ∨ a.toNat = 0x002A ∨ a.toNat = 0x002B ∨ (0x0030 ≤ a.toNat ∧ a.toNat ≤ 0x007F)
      ∨ (0x0084 ≤ a.toNat ∧ a.toNat ≤ 0x009F) ∨ (0x00C0 ≤ a.toNat ∧ a.toNat ≤ 0x00FF)
      ∨ (0x0101 ≤ a.toNat ∧ a.toNat ≤ 0x013F) ∨ 0x0142 ≤ a.toNat) →
    exec (.registerWrite a v) s = .next { s with addrCounter := a + 1 }

/-! ## Reads with an effect (R42, R149, R171) -/

/-- Read bytes (R169, R170). At the registers with a side effect, in their rows (R42, R149, R171): a one-byte
port counter goes to SDO and is cleared; TIMEOUTS low clears the counter and holds its high byte; MSEC_TIMER
low holds the high byte of the same count; DUP_NOTICES clears; a row does nothing where the address counter is
elsewhere (log 4). At every other address, which has no row, the next byte of the transaction: the register's
value goes to SDO, as a step with no command waiting (log 5), in which each line carries an idle symbol too
(R27, log 24; a frame being received stands, log 39, as do DOWN and a running signal-loss timer, log 40, the
model's choices). Nothing else changes but the address
counter, which goes past the register. -/
def Obligations.ReadsWithEffect : Prop :=
  ∀ (s : State) (p : Port),
    let base : RegAddr := match p with | .a => 0x0040 | .b => 0x0048
    (ReadingAt s (base + 1) → exec (.counterRead p .crcErrors) s = .next
      { s with
        addrCounter := base + 2, sdoByte := BitVec.ofNat 8 (s.port p).crcErrors
        ports := s.ports.set p { s.port p with crcErrors := 0 } })
    ∧ (ReadingAt s (base + 2) → exec (.counterRead p .symbolErrors) s = .next
      { s with
        addrCounter := base + 3, sdoByte := BitVec.ofNat 8 (s.port p).symbolErrors
        ports := s.ports.set p { s.port p with symbolErrors := 0 } })
    ∧ (ReadingAt s (base + 5) → exec (.counterRead p .lateReplies) s = .next
      { s with
        addrCounter := base + 6, sdoByte := BitVec.ofNat 8 (s.port p).lateReplies
        ports := s.ports.set p { s.port p with lateReplies := 0 } })
    ∧ (ReadingAt s (base + 6) → exec (.counterRead p .strayReplies) s = .next
      { s with
        addrCounter := base + 7, sdoByte := BitVec.ofNat 8 (s.port p).strayReplies
        ports := s.ports.set p { s.port p with strayReplies := 0 } })
    ∧ (ReadingAt s (base + 3) → exec (.timeoutsLowRead p) s = .next
      { s with
        addrCounter := base + 4, sdoByte := BitVec.ofNat 8 (s.port p).timeouts
        ports := s.ports.set p { s.port p with
          timeouts := 0, timeoutsHold := BitVec.ofNat 8 ((s.port p).timeouts / 256) } })
    ∧ (ReadingAt s 0x0030 → exec .msecTimerLowRead s = .next
      { s with
        addrCounter := 0x0031, sdoByte := BitVec.ofNat 8 s.msecTimer.toNat
        msecHold := BitVec.ofNat 8 (s.msecTimer.toNat / 256) })
    ∧ (ReadingAt s 0x006F → exec .dupNoticesRead s = .next
      { s with addrCounter := 0x0070, sdoByte := BitVec.ofNat 8 s.dupNotices, dupNotices := 0 })
    ∧ (∀ a, ReadingAt s a →
        (a ≠ base + 1 → exec (.counterRead p .crcErrors) s = .next s)
        ∧ (a ≠ base + 2 → exec (.counterRead p .symbolErrors) s = .next s)
        ∧ (a ≠ base + 5 → exec (.counterRead p .lateReplies) s = .next s)
        ∧ (a ≠ base + 6 → exec (.counterRead p .strayReplies) s = .next s)
        ∧ (a ≠ base + 3 → exec (.timeoutsLowRead p) s = .next s)
        ∧ (a ≠ 0x0030 → exec .msecTimerLowRead s = .next s)
        ∧ (a ≠ 0x006F → exec .dupNoticesRead s = .next s)
        ∧ (a ∉ effectReads → s.pending = [] →
            step s = .next (linesIdle { s with addrCounter := a + 1, sdoByte := s.regRead a })))

/-- The registers as a read finds them (R170, R182, sections 11.3 and 11.4). CHIP_ID reads 0x62 and 0x24 and
CHIP_REV 0x01 in every state, and a byte written to them is ignored (R176). The command and cause registers,
CANCEL_TAG, the parameters, MSEC_TIMER, the port, roster, census and check registers, DUP_NOTICES, EXPECTED_FP
and the mailbox read their fields at their places, values of several bytes low byte first. The roster window
and the mirror window show the entry their select took (R59, R137), the head windows the record at the head of
their queue with the count, all zero while it is empty (R93, R96, R141, R142). MIRROR_CTRL and the addresses
between and beyond read 0. -/
def Obligations.RegistersReadTheState : Prop :=
  ∀ s : State, s.regRead 0x0000 = 0x62 ∧ s.regRead 0x0001 = 0x24 ∧ s.regRead 0x0002 = 0x01
    ∧ (∀ (a : RegAddr) (v : Byte), a.toNat ≤ 2 → WritingAt s a →
        exec (.registerWrite a v) s = .next { s with addrCounter := a + 1 })
    ∧ (s.regRead 0x0008 = s.cmd ∧ s.regRead 0x0009 = cmdResultByte s.cmdResult
      ∧ s.regRead 0x000A = submitResultByte s.submitResult ∧ s.regRead 0x000B = s.cancelTag
      ∧ s.regRead 0x0010 = BitVec.ofNat 8
          (flag (!s.completionQueue.isEmpty) 1 + flag (!s.notices.isEmpty) 2
            + flag s.sticky.noticeBacklog 4 + flag (s.mirror.toList.any (·.changed)) 8
            + flag s.sticky.moduleStale 16 + flag s.sticky.portChange 32
            + flag s.sticky.reachDone 64 + flag s.sticky.moduleLost 128)
      ∧ s.regRead 0x0011 = BitVec.ofNat 8
          (flag s.sticky.cmdError 1 + flag s.sticky.censusDone 2 + flag s.sticky.lockHeld 4)
      ∧ s.regRead 0x0012 = s.enables.byte .zero ∧ s.regRead 0x0013 = s.enables.byte .one
      ∧ s.regRead 0x0014 = groupByte (s.regRead 0x0010 &&& s.regRead 0x0012)
          (s.regRead 0x0011 &&& s.regRead 0x0013))
    ∧ (s.regRead 0x0020 = BitVec.ofNat 8
          (flag s.params.sweepEnable 1 + flag (s.portEnabled .a) 2 + flag (s.portEnabled .b) 4
            + flag s.params.expectEnable 8)
      ∧ s.regRead 0x0021 = BitVec.ofNat 8 s.params.replyBase
      ∧ s.regRead 0x0022 = BitVec.ofNat 8 (s.params.replyBase / 256)
      ∧ s.regRead 0x0023 = BitVec.ofNat 8 s.params.hopAllow
      ∧ s.regRead 0x0024 = BitVec.ofNat 8 s.params.retryLimit
      ∧ s.regRead 0x0025 = BitVec.ofNat 8 s.params.busyLimit
      ∧ s.regRead 0x0026 = BitVec.ofNat 8 s.params.busyBackoff
      ∧ s.regRead 0x0027 = BitVec.ofNat 8 s.params.faultLimit
      ∧ s.regRead 0x0028 = BitVec.ofNat 8 s.params.sweepPeriod
      ∧ s.regRead 0x0029 = BitVec.ofNat 8 s.params.staleLimit
      ∧ s.regRead 0x002F ++ s.regRead 0x002E ++ s.regRead 0x002D ++ s.regRead 0x002C
          = s.params.expectedFp
      ∧ s.regRead 0x0030 = BitVec.ofNat 8 s.msecTimer.toNat ∧ s.regRead 0x0031 = s.msecHold)
    ∧ (s.regRead 0x0080 = s.mailbox.kind ∧ s.regRead 0x0081 = s.mailbox.target
      ∧ s.regRead 0x0082 = s.mailbox.register ∧ s.regRead 0x0083 = s.mailbox.length
      ∧ ShowsBytes s 0x00A0 32 s.mailbox.data.toList)
    ∧ (∀ p : Port,
        let base : RegAddr := match p with | .a => 0x0040 | .b => 0x0048
        let check : RegAddr := match p with | .a => 0x0060 | .b => 0x0068
        s.regRead base = portStateByte (s.port p)
          ∧ s.regRead (base + 1) = BitVec.ofNat 8 (s.port p).crcErrors
          ∧ s.regRead (base + 2) = BitVec.ofNat 8 (s.port p).symbolErrors
          ∧ s.regRead (base + 3) = BitVec.ofNat 8 (s.port p).timeouts
          ∧ s.regRead (base + 4) = (s.port p).timeoutsHold
          ∧ s.regRead (base + 5) = BitVec.ofNat 8 (s.port p).lateReplies
          ∧ s.regRead (base + 6) = BitVec.ofNat 8 (s.port p).strayReplies
          ∧ s.regRead check = checkStateByte (s.checks.get p)
          ∧ s.regRead (check + 1) = BitVec.ofNat 8 (s.checks.get p).trigger
          ∧ s.regRead (check + 2) = BitVec.ofNat 8 (s.checks.get p).breakLocation
          ∧ s.regRead (check + 3) = BitVec.ofNat 8 (s.checks.get p).rerouted
          ∧ s.regRead (check + 4) = BitVec.ofNat 8 (s.checks.get p).lost)
    ∧ (s.regRead 0x0050 = rosterStatus s
      ∧ s.regRead 0x0051 = BitVec.ofNat 8 s.tails.a ∧ s.regRead 0x0052 = BitVec.ofNat 8 s.tails.b
      ∧ s.regRead 0x0053 = s.epoch
      ∧ s.regRead 0x0057 ++ s.regRead 0x0056 ++ s.regRead 0x0055 ++ s.regRead 0x0054 = s.fingerprint
      ∧ s.regRead 0x0058 = censusStateByte s.census
      ∧ s.regRead 0x0059 = resultCode s.census.result s.census.reason
      ∧ s.regRead 0x005A = BitVec.ofNat 8 s.census.nextAddr
      ∧ s.regRead 0x005B = BitVec.ofNat 8 s.census.position
      ∧ s.regRead 0x005C = BitVec.ofNat 8 s.census.tries
      ∧ s.regRead 0x005D = stopPendingByte s.census.stopPending
      ∧ s.regRead 0x006F = BitVec.ofNat 8 s.dupNotices)
    ∧ (s.regRead 0x0100 = s.rosterSel
      ∧ ShowsBytes s 0x0101 19 (rosterBytes s.rosterWindow)
      ∧ s.regRead 0x0140 = s.mirrorSel ∧ s.regRead 0x0141 = 0
      ∧ ShowsBytes s 0x0142 22 (mirrorBytes s.mirrorWindow)
      ∧ (s.completionQueue = [] → ShowsBytes s 0x0180 64 [])
      ∧ (∀ tag rest c, s.completionQueue = tag :: rest → (s.slot tag).outcome = some c →
          ShowsBytes s 0x0180 64
            (completionBytes s.completionQueue.length tag (s.slot tag) c))
      ∧ (s.notices = [] → ShowsBytes s 0x01C0 16 [])
      ∧ ∀ r rest, s.notices = r :: rest →
          ShowsBytes s 0x01C0 16 (noticeHeadBytes s.notices.length r))
    ∧ ∀ a : RegAddr, noRegister a → s.regRead a = 0

/-! ## Pins (R169, R180) -/

/-- An SPI transaction: CSn falling in IDLE starts it, the second header byte loads the address counter and
the direction, CSn rising ends it; nothing else changes (R169, section 11.2). SDO is high impedance in reset
and while CSn is high; with CSn low it carries zeros in the header and in a write, and in a read the byte last
taken (R169, R180), which stands at 0 until the first is (log 8). -/
def Obligations.SpiTransactionRuns : Prop :=
  ∀ (s : State) (h : BitVec 16),
    (s.inReset = false →
      (s.csnHigh = true → s.spi = .idle →
        exec .csnFall s = .next { s with csnHigh := false, spi := .header })
      ∧ (s.spi = .header →
        exec (.headerComplete h) s = .next
          { s with
            spi := .data (h.getLsbD 15), addrCounter := h.setWidth 15, sdoByte := 0 })
      ∧ (s.csnHigh = false →
        exec .csnRise s = .next { s with csnHigh := true, spi := .idle })
      ∧ (s.csnHigh = false → s.spi = .header ∨ s.spi = .data false → s.sdo = .byte 0)
      ∧ (s.csnHigh = false → s.spi = .data true → s.sdo = .byte s.sdoByte))
    ∧ (s.inReset = true ∨ s.csnHigh = true → s.sdo = .highZ)

/-- RESETn low puts the part in reset and RESETn high leaves it in its hardware-reset values with the SPI port
in WAIT_HIGH; the level of CSn is the host's (log 7) and the queue the model's (log 1). In reset nothing but
the pins RESETn and CSn acts: every other command leaves the state as it is (R180, log 9). -/
def Obligations.ResetPinRestoresReset : Prop :=
  ∀ s : State,
    exec .resetnLow s = .next
      { State.reset with
        inReset := true, csnHigh := s.csnHigh, freeCount := s.freeCount, pending := s.pending }
    ∧ (s.inReset = true →
      exec .resetnHigh s = .next
        { State.reset with
          csnHigh := s.csnHigh, freeCount := s.freeCount, pending := s.pending }
      ∧ ∀ c : Instr, c ≠ .resetnLow → c ≠ .resetnHigh → c ≠ .csnFall → c ≠ .csnRise →
          exec c s = .next s)

/-! ## Links (R26, R27, R28, R29) -/

/-- The link of a port (R26, R27, R28, R29): signal in DOWN, the idle run reset or complete in ALIGNING,
signal lost in ALIGNING; a port that enters UP raises PORT_CHANGE and its exchange goes to IDLE. In ALIGNING
an idle symbol makes the run one longer, and the 64th takes the port to UP; that one comes in at each step
with no command waiting, and that IDLE_RUN_COMPLETE stands for all that the run still lacks, is the model's
choice (log 24), and so is that a frame being received stands then (log 39) and that in DOWN, and in UP with
the timer running, no symbol but the rows SIGNAL_DETECTED and SIGNAL_RETURN tell of signal (log 40). In UP the
signal-loss timer starts when signal becomes absent and stops without effect when it returns; a frame of no
exchange that was being received has ended (R31, log 14). -/
def Obligations.LinkFollowsSignal : Prop :=
  ∀ (s : State) (p : Port), s.inReset = false →
    ((s.port p).link = .down →
      exec (.signalDetected p) s = .next
        { s with ports := s.ports.set p { s.port p with link := .aligning, idleRun := 0 } })
    ∧ ((s.port p).link = .aligning →
      exec (.idleRunReset p) s = .next
        { s with ports := s.ports.set p { s.port p with idleRun := 0 } }
      ∧ exec (.aligningSignalLoss p) s = .next
        { s with ports := s.ports.set p { s.port p with link := .down, idleRun := 0 } }
      ∧ exec (.idleRunComplete p) s = .next
        { s with
          sticky := { s.sticky with portChange := true }
          ports := s.ports.set p { s.port p with
            link := .up, idleRun := 64, lossTimer := false, exch := .idle, rx := .nothing } }
      ∧ (s.pending = [] → ∃ t, step s = .next t
        ∧ ((s.port p).idleRun < 63 →
            t.port p = { s.port p with idleRun := (s.port p).idleRun + 1 })
        ∧ (63 ≤ (s.port p).idleRun → t.sticky.portChange = true
            ∧ t.port p = { s.port p with
                link := .up, idleRun := 64, lossTimer := false, exch := .idle, rx := .nothing })))
    ∧ ((s.port p).link = .up → (s.port p).lossTimer = false → (s.port p).rx ≠ .ofExchange →
      exec (.signalAbsent p) s = .next
        { s with ports := s.ports.set p { s.port p with lossTimer := true, rx := .nothing } })
    ∧ ((s.port p).link = .up → (s.port p).lossTimer = true →
      exec (.signalReturn p) s = .next
        { s with ports := s.ports.set p { s.port p with lossTimer := false } })

/-! ## Exchanges (R31 to R38, R103, R104) -/

/-- The arbiter in a walk hands the next CLAIM: destination the next address, payload and hop count the
walk's tail + 1, try counted (R71, R75, R103). In RELEASING it hands the RELEASE of each census port, to
broadcast 63 with hop count 0, port A first and port B once A's has ended, each once (R69). -/
def Obligations.ArbiterHandsClaim : Prop :=
  ∀ (s : State) (p : Port), s.inReset = false → s.canHand p = true →
    s.census.stopPending = none → (∀ q, s.carries q .census = false) →
    ((p = .a ∧ s.census.state = .walkA ∨ p = .b ∧ s.census.state = .walkB) →
      s.census.nextAddr < 63 →
      exec (.arbiterHand p) s = .next
        { s with
          census := { s.census with
            position := s.tails.get p + 1
            tries := if s.census.position = s.tails.get p + 1 then s.census.tries + 1 else 1 }
          ports := s.ports.set p { s.port p with
            exch := .sending
              { frame :=
                  { kind := .claim, control := 0, dest := s.census.nextAddr, source := 0
                    register := 0, payload := [BitVec.ofNat 8 (s.tails.get p + 1)] }
                hops := s.tails.get p + 1, owner := .census } } })
    ∧ (s.census.state = .releasing →
      let due := s.census.ports.get p = true ∧ s.census.released.get p = false
        ∧ (p = .b → s.census.ports.a = true → s.census.released.a = true)
      (due → exec (.arbiterHand p) s = .next
        { s with
          ports := s.ports.set p { s.port p with
            exch := .sending
              { frame :=
                  { kind := .release, control := 0, dest := 63, source := 0, register := 0
                    payload := [] }
                hops := 0, owner := .census } } })
      ∧ (¬due → exec (.arbiterHand p) s = .next s))

/-- While a census runs the arbiter hands nothing but a RELEASE or a CLAIM of the census (R64, R103). -/
def Obligations.ArbiterKeepsCensusExclusive : Prop :=
  ∀ (s t : State) (p : Port), s.census.state ≠ .idle → exec (.arbiterHand p) s = .next t →
    t.port p = s.port p
      ∨ ∃ x, (t.port p).exch = .sending x ∧ x.owner = .census
          ∧ (x.frame.kind = .release ∨ x.frame.kind = .claim)

/-- The arbiter of a port whose own check is probing hands its PROBE, and where the other port's check decides
a module on this port, the re-route PROBE: destination the module, hop count the module's on this port, try
counted (R103, R159, R162). -/
def Obligations.ArbiterHandsProbe : Prop :=
  ∀ (s : State) (p : Port) (a : Nat), s.inReset = false → s.canHand p = true →
    s.census.state = .idle →
    let hand (x : Port) : Prop :=
      exec (.arbiterHand p) s = .next
        { s with
          checks := s.checks.set x
            { s.checks.get x with tries := (s.checks.get x).tries + 1 }
          ports := s.ports.set p { s.port p with
            exch := .sending
              { frame :=
                  { kind := .probe, control := 0, dest := a, source := 0, register := 0
                    payload := [] }
                hops := ((s.entry a).hops.get p).getD 0, owner := .check x } } }
    ((s.checks.get p).state = .probing → (s.checks.get p).begun = true →
      (s.checks.get p).probeList[(s.checks.get p).cursor]? = some a → hand p)
    ∧ ((s.checks.get p).state = .idle → (s.checks.get p.other).state = .rerouting →
      (s.checks.get p.other).deciding = some a → hand p.other)

/-- The arbiter hands the attempt of the eligible slot with the lowest submission sequence where the sweep has
nothing: READ, PROBE, RESTART, or a WRITE with a known toggle; the slot becomes ACTIVE, attempts used goes up,
the marker becomes HOST (R104, R106, R109, R116). A WRITE whose target's toggle is UNSURE has a PROBE sent in
its place, which is no attempt, and becomes the port's follow-up WRITE (R117). -/
def Obligations.ArbiterHandsAttempt : Prop :=
  ∀ (s : State) (p : Port) (tag : Tag) (a : Nat), s.inReset = false → s.canHand p = true →
    s.census.state = .idle → (∀ q, (s.checks.get q).state = .idle) →
    s.params.sweepEnable = false → s.nextBcast p = none → s.nextEligible p = some tag →
    (s.slot tag).target = some a →
    let x := s.slot tag
    let e := s.entry a
    let hand (f : Frame) (x' : Slot) : Prop :=
      exec (.arbiterHand p) s = .next
        { s with
          markers := s.markers.set p .host
          slots := s.slots.set tag.val x'
          ports := s.ports.set p { s.port p with
            exch := .sending
              { frame := f, hops := (e.hops.get p).getD 0, owner := .attempt tag } } }
    let x1 : Slot := { x with state := .active, attempts := x.attempts + 1 }
    (x.kindCode = 1 → hand
        { kind := .read, control := 0, dest := a, source := 0, register := x.register
          payload := [BitVec.ofNat 8 x.length] } x1)
    ∧ (x.kindCode = 4 → hand
        { kind := .probe, control := 0, dest := a, source := 0, register := 0, payload := [] } x1)
    ∧ (x.kindCode = 5 → hand
        { kind := .restart, control := 0, dest := a, source := 0, register := 0, payload := [] } x1)
    ∧ (∀ b, x.kindCode = 2 →
        (x.toggleUsed = some b
          ∨ (x.toggleUsed = none ∧ (e.toggle = .one ∧ b = true ∨ e.toggle = .zero ∧ b = false))) →
        hand
          { kind := .write, control := if b then 1 else 0, dest := a, source := 0
            register := x.register, payload := x.writeData }
          { x1 with toggleUsed := some b })
    ∧ (x.kindCode = 2 → x.toggleUsed = none → e.toggle = .unsure →
        exec (.arbiterHand p) s = .next
          { s with
            markers := s.markers.set p .host
            slots := s.slots.set tag.val { x with state := .active }
            followUps := s.followUps.set p (some tag)
            ports := s.ports.set p { s.port p with
              exch := .sending
                { frame :=
                    { kind := .probe, control := 0, dest := a, source := 0, register := 0
                      payload := [] }
                  hops := (e.hops.get p).getD 0, owner := .resync tag } } })

/-- The arbiter hands a frame of an ACTIVE BCAST_WRITE that the port is still to carry, ahead of any slot:
destination 63, hop count 0, the slot's register and data; attempts used goes up by one, the slot stays
ACTIVE and the marker becomes HOST (R104, R121). -/
def Obligations.ArbiterHandsBroadcast : Prop :=
  ∀ (s : State) (p : Port) (tag : Tag), s.inReset = false → s.canHand p = true →
    s.census.state = .idle → (∀ q, (s.checks.get q).state = .idle) →
    s.params.sweepEnable = false → s.nextBcast p = some tag →
    (s.slot tag).state = .active ∧ (s.slot tag).kindCode = 3
      ∧ (s.slot tag).bcastPorts.get p = true
      ∧ exec (.arbiterHand p) s = .next
        { s with
          markers := s.markers.set p .host
          slots := s.slots.set tag.val
            { s.slot tag with attempts := (s.slot tag).attempts + 1 }
          ports := s.ports.set p { s.port p with
            exch := .sending
              { frame :=
                  { kind := .bcastWrite, control := 0, dest := 63, source := 0
                    register := (s.slot tag).register, payload := (s.slot tag).writeData }
                hops := 0, owner := .bcast tag } } }

/-- The arbiter of a port with no check running shares it between the host and sweep classes. They alternate:
with a host frame and a sweep frame both ready, the port's marker decides, and it names the class handed. With
the marker HOST a POLL or FETCH is sent; with the marker SWEEP the host frame is: one of the ready broadcast,
or an attempt or resynchronising PROBE of the ready slot, to its module (R104). Of the sticky causes it can
raise NOTICE_BACKLOG alone, and does exactly where the sweep is on, some ACTIVE module routed on the port has
fetch_wanted and no POLL or FETCH in flight, and the notices and reservations fill the 32 places (R135, R146;
that the test is made at each hand-over is the model's reading, log 22, DEDUCED). -/
def Obligations.HostAndSweepShareThePort : Prop :=
  ∀ (s : State) (p : Port), s.inReset = false → s.canHand p = true →
    s.census.state = .idle → (∀ q, (s.checks.get q).state = .idle) →
    let withheld := s.params.sweepEnable = true ∧ 32 ≤ s.notices.length + s.outstanding
      ∧ ∃ a, (s.status a).fetchWanted = true ∧ (s.entry a).state = .active
        ∧ (s.entry a).route = some p
        ∧ ∀ q x, s.inFlight q = some x → x.owner ≠ .poll a ∧ x.owner ≠ .fetch a
    ∃ t, exec (.arbiterHand p) s = .next t
      ∧ t.sticky = { s.sticky with noticeBacklog := t.sticky.noticeBacklog }
      ∧ (t.sticky.noticeBacklog = true ↔ s.sticky.noticeBacklog = true ∨ withheld)
      ∧ ∀ h, s.hostFrame p = some h → s.sweepChoice p ≠ .nothing →
        ∃ x, (t.port p).exch = .sending x
          ∧ (s.markers.get p = .host →
              t.markers = s.markers.set p .sweep ∧ t.slots = s.slots
                ∧ (x.frame.kind = .poll ∨ x.frame.kind = .fetch))
          ∧ (s.markers.get p = .sweep →
              t.markers = s.markers.set p .host ∧ t.cursors = s.cursors
                ∧ t.reservations = s.reservations
                ∧ (∀ tag, h = .bcast tag → x.owner = .bcast tag ∧ x.frame.kind = .bcastWrite)
                ∧ (∀ tag, h = .slot tag →
                    (x.owner = .attempt tag ∨ x.owner = .resync tag)
                      ∧ some x.frame.dest = (s.slot tag).target))

/-- A POLL or FETCH of the sweep goes to an ACTIVE module routed on the port, carries the acknowledgement of
its last_seq, sets the cursor to its address, and a FETCH holds the port's reservation (R127, R129, R130,
R135, R144, R150). -/
def Obligations.SweepFrameCarriesAcknowledge : Prop :=
  ∀ (s t : State) (p : Port) (x : Xfer), s.inReset = false → s.canHand p = true →
    exec (.arbiterHand p) s = .next t → (t.port p).exch = .sending x →
    (x.frame.kind = .poll ∨ x.frame.kind = .fetch) →
    s.params.sweepEnable = true ∧ s.census.state = .idle
      ∧ (s.entry x.frame.dest).state = .active ∧ (s.entry x.frame.dest).route = some p
      ∧ t.cursors = s.cursors.set p x.frame.dest
      ∧ x.hops = ((s.entry x.frame.dest).hops.get p).getD 0
      ∧ ((s.entry x.frame.dest).lastSeq = none → x.frame.control = 0 ∧ x.frame.payload = [])
      ∧ (∀ q, (s.entry x.frame.dest).lastSeq = some q →
          x.frame.control = q ∧ x.frame.payload = [0])
      ∧ (x.frame.kind = .fetch →
          t.reservations = s.reservations.set p (some x.frame.dest)
            ∧ s.notices.length + s.outstanding < 32)
      ∧ (x.frame.kind = .poll → t.reservations = s.reservations)

/-- The end delimiter of a frame with a reply opens its window of REPLY_BASE + HOP_ALLOW × h microseconds and
changes nothing else; that of a RELEASE or BCAST_WRITE ends the exchange at once: the port goes to IDLE, no
window is opened, and the port is otherwise unchanged (R32, R33, R38). With both checks IDLE, the RELEASE of a
port is recorded and after the last one the settle starts, unless a stop is pending (R69, R78). The broadcast
frame leaves its port carried and its history SENT_NO_REPLY; with no port left the slot is DONE OK, CANCELLED
after a CANCEL (R100), ROSTER_CHANGED in a census (R65), its effect UNKNOWN (R121, R94). While its other port
is still being sent it stays ACTIVE, also with a CANCEL noted or a census begun: there the model's reading
(log 20, DEDUCED). -/
def Obligations.FrameSentOpensWindowOrEnds : Prop :=
  ∀ (s : State) (p : Port) (x : Xfer), s.inReset = false → (s.port p).exch = .sending x →
    (x.frame.kind ≠ .release → x.frame.kind ≠ .bcastWrite →
      exec (.frameSent p) s = .next
        { s with
          ports := s.ports.set p { s.port p with
            exch := .awaiting x (s.params.replyBase + s.params.hopAllow * x.hops) false } })
    ∧ (x.frame.kind = .release ∨ x.frame.kind = .bcastWrite →
      ∃ t, exec (.frameSent p) s = .next t ∧ TouchesOutcome s t
        ∧ t.port p = { s.port p with exch := .idle } ∧ t.port p.other = s.port p.other
        ∧ (x.owner = .census → s.census.state = .releasing →
            (∀ q, (s.checks.get q).state = .idle) →
            let r := s.census.released.set p true
            t = { s with
              census := { s.census with
                released := r
                settleTimer := decide (s.census.stopPending = none)
                  && (!s.census.ports.a || r.a) && (!s.census.ports.b || r.b) }
              ports := s.ports.set p { s.port p with exch := .idle } })
        ∧ (∀ tag, x.owner = .bcast tag → (s.slot tag).state = .active →
            (s.slot tag).kindCode = 3 →
            let y := s.slot tag
            let z : Slot := { y with
              bcastPorts := y.bcastPorts.set p false, bcastSent := true, history := .sentNoReply }
            (y.bcastPorts.get p.other = true → t.slot tag = z)
            ∧ (y.bcastPorts.get p.other = false →
                Completes tag
                  (doneWith z
                    (if y.cancelRequested = true then .cancelled
                      else if s.census.state = .idle then .ok else .rosterChanged)
                    .unknown false [] s.epoch) s t)))

/-- The reply window runs out (R36): while a frame of the exchange is received the port waits for its end;
otherwise the exchange ends, TIMEOUTS goes up by one, stopping at 65535, and the port is IDLE. Whoever sent
the sent the frame is told the failure (R38, `FailureTold`): an attempt fails (R46, R91, R94, R99, R112), a
resynchronising PROBE (R118), a CLAIM (R72, R74, R75), a probe of a reach check (R159 to R166), a POLL (R46,
R133), a FETCH (R46, R145). R162 decides cut-off modules one at a time: that with the other port not UP all
modules beyond the break are LOST and the check ended in this one step is the model's reading (log 30,
DEDUCED). -/
def Obligations.ReplyWindowRunsOut : Prop :=
  ∀ (s : State) (p : Port) (x : Xfer) (w : Nat), s.inReset = false →
    (s.port p).exch = .awaiting x w false →
    ((s.port p).rx = .ofExchange →
      exec (.replyWindowExpiry p) s = .next
        { s with ports := s.ports.set p { s.port p with exch := .awaiting x w true } })
    ∧ ((s.port p).rx ≠ .ofExchange →
      ∃ t, exec (.replyWindowExpiry p) s = .next t ∧ TouchesOutcome s t
        ∧ t.port p = { s.port p with
            exch := .idle
            timeouts := if (s.port p).timeouts < 65535 then (s.port p).timeouts + 1 else 65535 }
        ∧ t.port p.other = s.port p.other
        ∧ FailureTold p x s t)

/-- A start delimiter on a port in UP with signal begins a reception: of the exchange in AWAITING, of none in
IDLE, and none in SENDING (R32, R34, R37). Inside a frame it is a symbol error of that frame, and a new frame
begins with it (R1; that it begins one is the model's reading, log 15): outside any window the symbol error is
counted (R37), in a window the exchange ends with it and its owner, each of those in `ReplyWindowRunsOut`, is
told (R34, R38, `FailureTold`). R162 decides cut-off modules one at a time: that with the other port not UP
all modules beyond the break are LOST and the check ended in this one step is the model's reading (log 30,
DEDUCED). -/
def Obligations.StartDelimiterBeginsReception : Prop :=
  ∀ (s : State) (p : Port), s.inReset = false → (s.port p).link = .up →
    (s.port p).lossTimer = false →
    let errors := if (s.port p).symbolErrors < 255 then (s.port p).symbolErrors + 1 else 255
    ((s.port p).rx = .nothing →
      exec (.startDelimiterReceived p) s = .next
        { s with
          ports := s.ports.set p { s.port p with
            rx := match (s.port p).exch with
              | .awaiting _ _ _ => .ofExchange
              | .idle => .outside
              | _ => .nothing } })
    ∧ ((s.port p).rx = .outside → (s.port p).exch = .idle →
      exec (.startDelimiterReceived p) s = .next
        { s with ports := s.ports.set p { s.port p with symbolErrors := errors } })
    ∧ (∀ x w r, (s.port p).rx = .ofExchange → (s.port p).exch = .awaiting x w r →
      ∃ t, exec (.startDelimiterReceived p) s = .next t ∧ TouchesOutcome s t
        ∧ t.port p = { s.port p with exch := .idle, rx := .outside, symbolErrors := errors }
        ∧ t.port p.other = s.port p.other
        ∧ FailureTold p x s t)

/-- Frames that decide no exchange are counted and discarded. Of the exchange: a head-to-module frame
uncounted, a reply that R35 does not accept as a stray, and the window keeps running (R34, R35); where the
window ran out meanwhile, the exchange ends with TIMEOUT at that end (R36) and its owner, each of those in
`ReplyWindowRunsOut`, is told (R38, `FailureTold`). Outside any window: a good reply as late, a damaged one as
CRC error, a symbol error as such, a head-to-module frame not at all (R37). R162 decides cut-off modules one
at a time: that with the other port not UP all modules beyond the break are LOST and the check ended in this
one step is the model's reading (log 30, DEDUCED). -/
def Obligations.UndecidingFramesCounted : Prop :=
  ∀ (s : State) (p : Port), s.inReset = false →
    let q := s.port p
    let count (n : Nat) : Nat := if n < 255 then n + 1 else 255
    (∀ x w, q.rx = .ofExchange → q.exch = .awaiting x w false →
      (∀ bytes, judge bytes = .headKind →
        exec (.frameReceived p (.content bytes)) s = .next
          { s with ports := s.ports.set p { q with rx := .nothing } })
      ∧ (∀ bytes f, judge bytes = .good f → acceptsReply x.frame f = false →
        exec (.frameReceived p (.content bytes)) s = .next
          { s with
            ports := s.ports.set p
              { q with rx := .nothing, strayReplies := count q.strayReplies } }))
    ∧ (∀ x w bytes strays, q.rx = .ofExchange → q.exch = .awaiting x w true →
      (judge bytes = .headKind ∧ strays = q.strayReplies
        ∨ ∃ f, judge bytes = .good f ∧ acceptsReply x.frame f = false
            ∧ strays = count q.strayReplies) →
      ∃ t, exec (.frameReceived p (.content bytes)) s = .next t ∧ TouchesOutcome s t
        ∧ t.port p = { q with
            exch := .idle, rx := .nothing, strayReplies := strays
            timeouts := if q.timeouts < 65535 then q.timeouts + 1 else 65535 }
        ∧ t.port p.other = s.port p.other
        ∧ FailureTold p x s t)
    ∧ (q.rx = .outside →
      exec (.lateFrame p .symbolError) s = .next
        { s with
          ports := s.ports.set p { q with rx := .nothing, symbolErrors := count q.symbolErrors } }
      ∧ (∀ bytes, judge bytes = .damaged → exec (.lateFrame p (.content bytes)) s = .next
        { s with ports := s.ports.set p { q with rx := .nothing, crcErrors := count q.crcErrors } })
      ∧ (∀ bytes, judge bytes = .headKind → exec (.lateFrame p (.content bytes)) s = .next
        { s with ports := s.ports.set p { q with rx := .nothing } })
      ∧ (∀ bytes f, judge bytes = .good f → exec (.lateFrame p (.content bytes)) s = .next
        { s with
          ports := s.ports.set p { q with rx := .nothing, lateReplies := count q.lateReplies } }))

/-- A damaged frame of the exchange ends it: a symbol error counts in SYMBOL_ERRORS, a bad CRC or a malformed
module-to-head frame in CRC_ERRORS, and the port is IDLE (R34, R36, R38). Whoever sent the frame is told the
failure (R38, `FailureTold`): an attempt (R46, R91, R99, R112), a resynchronising PROBE (R118), a CLAIM (R72,
R74, R75), a probe of a reach check (R160 to R166), a POLL (R46, R133), a FETCH (R46, R145). R162 decides
cut-off modules one at a time: that with the other port not UP all modules beyond the break are LOST and the
check ended in this one step is the model's reading (log 30, DEDUCED). -/
def Obligations.DamagedFrameEndsExchange : Prop :=
  ∀ (s : State) (p : Port) (x : Xfer) (w : Nat) (r : Bool), s.inReset = false →
    (s.port p).rx = .ofExchange → (s.port p).exch = .awaiting x w r →
    (∃ t, exec (.frameReceived p .symbolError) s = .next t ∧ TouchesOutcome s t
      ∧ t.port p = { s.port p with
          exch := .idle, rx := .nothing
          symbolErrors :=
            if (s.port p).symbolErrors < 255 then (s.port p).symbolErrors + 1 else 255 }
      ∧ t.port p.other = s.port p.other
      ∧ FailureTold p x s t)
    ∧ (∀ bytes, judge bytes = .damaged →
      ∃ t, exec (.frameReceived p (.content bytes)) s = .next t ∧ TouchesOutcome s t
        ∧ t.port p = { s.port p with
            exch := .idle, rx := .nothing
            crcErrors := if (s.port p).crcErrors < 255 then (s.port p).crcErrors + 1 else 255 }
        ∧ t.port p.other = s.port p.other
        ∧ FailureTold p x s t)

/-- The accepted reply to a targeted attempt decides its slot: DATA, ACK and the matching IDENT end it OK with
their data, effect and late_cancel, another module's IDENT ends it IDENTITY_MISMATCH, a NAK REJECTED, or
CANCELLED after a CANCEL (R91, R93, R94, R99, R110); a NAK BUSY backs it off or ends it BUSY_EXHAUSTED (R111;
log 19: also with a CANCEL noted it uses up no attempt). It changes the module's records: fail_count 0, the
toggle after an ACK or IDENT, the records of an ACKed RESTART (R46, R47, R119). The reply to a
resynchronising PROBE sends the WRITE with toggle 0, or decides the slot (R118). -/
def Obligations.AcceptedReplyDecidesSlot : Prop :=
  ∀ (s : State) (p : Port) (x : Xfer) (w : Nat) (r : Bool) (tag : Tag) (bytes : List Byte) (f : Frame),
    s.inReset = false → (s.port p).rx = .ofExchange → (s.port p).exch = .awaiting x w r →
    (s.slot tag).state = .active → judge bytes = .good f → acceptsReply x.frame f = true →
    let k := (s.slot tag).kindCode
    (x.owner = .attempt tag → k = 1 ∨ k = 2 ∨ k = 4 ∨ k = 5 →
      ∃ t, exec (.frameReceived p (.content bytes)) s = .next t ∧ TouchesOutcome s t
        ∧ t.port p = { s.port p with exch := .idle, rx := .nothing }
        ∧ t.port p.other = s.port p.other
        ∧ AttemptAnswered tag f s t
        ∧ ∀ a, AnswerRecorded tag a x.frame f s t)
    ∧ (x.owner = .resync tag → k = 2 →
      ∃ t, exec (.frameReceived p (.content bytes)) s = .next t ∧ TouchesOutcome s t
        ∧ (t.port p).rx = .nothing ∧ t.port p.other = s.port p.other
        ∧ ResyncAnswered p tag f s t)

/-- The answer to a POLL is a good reply: fail_count 0 (R46). A STATUS is stored whole: FRESH, its health,
record and pending count, age and miss count 0, fetch_wanted where the module is notice-capable and its
pending count is 1 or more, changed where the entry is watched and EMPTY, or health or record differ (R131,
R132, R135). A NAK is a miss: the miss count goes up, and at STALE_LIMIT an entry not yet STALE becomes STALE
and MODULE_STALE is pending (R125, R126, R133). No other entry changes. -/
def Obligations.PollReplyReachesMirror : Prop :=
  ∀ (s : State) (p : Port) (x : Xfer) (w : Nat) (r : Bool) (a : Nat) (bytes : List Byte) (f : Frame),
    s.inReset = false → (s.port p).rx = .ofExchange → (s.port p).exch = .awaiting x w r →
    x.owner = .poll a → judge bytes = .good f → acceptsReply x.frame f = true →
    1 ≤ a → a ≤ 62 → ((s.entry a).state = .active ∨ (s.entry a).state = .suspect) →
    (∀ q, (s.checks.get q).state = .idle) →
    let m := s.status a
    let n := StatusReport.ofBytes f.payload
    ∃ t, exec (.frameReceived p (.content bytes)) s = .next t ∧ TouchesOutcome s t
      ∧ t.ports = s.ports.set p { s.port p with exch := .idle, rx := .nothing }
      ∧ (∀ b, b ≠ a → t.status b = s.status b)
      ∧ (t.entry a).failCount = 0
      ∧ (f.kind = .status → t.sticky = s.sticky ∧ t.status a =
          { state := .fresh, health := n.health, record := n.record, pendingCount := n.pendingCount
            fetchWanted :=
              ((s.entry a).identity.map Identity.noticeCapable).getD false
                && decide (1 ≤ n.pendingCount)
            age := 0, missCount := 0
            changed :=
              m.changed || (m.watch
                && decide (m.state = .empty ∨ m.health ≠ n.health ∨ m.record ≠ n.record))
            watch := m.watch, lostMark := m.lostMark })
      ∧ (f.kind = .nak → Missed a s t)

/-- A POLL that ends with TIMEOUT counts a failure and a miss of its module (R46, R133). At FAULT_LIMIT an
ACTIVE module becomes SUSPECT and the check of its route port starts, triggered by it (R156); at STALE_LIMIT
an entry not yet STALE becomes STALE and MODULE_STALE is pending. -/
def Obligations.PollTimeoutCountsFailureAndMiss : Prop :=
  ∀ (s : State) (p q : Port) (x : Xfer) (w a : Nat), s.inReset = false → (s.port p).rx ≠ .ofExchange →
    (s.port p).exch = .awaiting x w false → x.owner = .poll a → 1 ≤ a → a ≤ 62 →
    ((s.entry a).state = .active ∨ (s.entry a).state = .suspect) → (s.entry a).route = some q →
    s.census.state = .idle → (∀ y, (s.checks.get y).state = .idle) →
    let n := if (s.entry a).failCount < 15 then (s.entry a).failCount + 1 else 15
    let m := if (s.status a).missCount < 15 then (s.status a).missCount + 1 else 15
    ∃ t, exec (.replyWindowExpiry p) s = .next t ∧ TouchesOutcome s t
      ∧ (t.entry a).failCount = n ∧ (t.status a).missCount = m
      ∧ ((s.entry a).state = .active ∧ s.params.faultLimit ≤ n →
          (t.entry a).state = .suspect
            ∧ t.checks = s.checks.set q { Check.reset with state := .probing, trigger := a })
      ∧ ((s.entry a).state = .suspect ∨ n < s.params.faultLimit →
          (t.entry a).state = (s.entry a).state ∧ t.checks = s.checks)
      ∧ ((s.status a).state ≠ .stale ∧ s.params.staleLimit ≤ m →
          (t.status a).state = .stale ∧ t.sticky = { s.sticky with moduleStale := true })
      ∧ ((s.status a).state = .stale ∨ m < s.params.staleLimit →
          t.status a = { s.status a with missCount := m } ∧ t.sticky = s.sticky)

/-- The answer to a FETCH is a good reply: fail_count 0 in an ACTIVE or SUSPECT entry (R46), and the port's
reservation is used or released (R144, R145, R147). A NOTICE whose sequence is last_seq is a duplicate,
counted and discarded. Any other joins the tail of the notice queue with the module, the epoch, its sequence,
code and payload, the gap flag and the millisecond timer (R141), and last_seq takes its sequence. After an ACK
or a NAK nothing joins and fetch_wanted is no (R135, R145). -/
def Obligations.FetchReplyIsJudged : Prop :=
  ∀ (s : State) (p : Port) (x : Xfer) (w : Nat) (r : Bool) (a : Nat) (bytes : List Byte) (f : Frame),
    s.inReset = false → (s.port p).rx = .ofExchange → (s.port p).exch = .awaiting x w r →
    x.owner = .fetch a → judge bytes = .good f → acceptsReply x.frame f = true →
    1 ≤ a → a ≤ 62 → (∀ q, (s.checks.get q).state = .idle) →
    ∃ t, exec (.frameReceived p (.content bytes)) s = .next t ∧ TouchesOutcome s t
      ∧ t.ports = s.ports.set p { s.port p with exch := .idle, rx := .nothing }
      ∧ ((s.entry a).live = true → (t.entry a).failCount = 0)
      ∧ (f.kind = .notice → (s.entry a).state ≠ .vacant → s.reservations.get p = some a →
          t.reservations = s.reservations.set p none ∧ t.mirror = s.mirror
          ∧ (t.entry a).lastSeq = some f.control
          ∧ ((s.entry a).lastSeq = some f.control →
              t.notices = s.notices
                ∧ t.dupNotices = if s.dupNotices < 255 then s.dupNotices + 1 else 255)
          ∧ ((s.entry a).lastSeq ≠ some f.control →
              t.dupNotices = s.dupNotices
                ∧ t.notices = s.notices ++
                  [{ source := a, epoch := s.epoch, seq := f.control, code := f.payload.getD 0 0
                     payload := f.payload.drop 1
                     gap := match (s.entry a).lastSeq with
                       | none => false
                       | some q => decide (f.control ≠ q + 1)
                     arrival := s.msecTimer }]))
      ∧ (f.kind = .ack ∨ f.kind = .nak →
          t.reservations = s.reservations.set p none
          ∧ t.status a = { s.status a with fetchWanted := false }
          ∧ (∀ b, b ≠ a → t.status b = s.status b)
          ∧ (t.entry a).lastSeq = (s.entry a).lastSeq
          ∧ t.notices = s.notices ∧ t.dupNotices = s.dupNotices)

/-! ## Census, timers and reach checks -/

/-- The census clear. With no stop pending and a port UP: roster, mirror, reservations and cursors cleared,
the epoch counted, the lock HELD, the census ports fixed, RELEASING (R60, R67, R138, R153). With none UP the
same is cleared and the census is FAILED with NO_PORT, the roster PARTIAL with no entry, CENSUS_DONE raised
(R68). With a stop pending the same is cleared and the census stops with that cause in this same step (R78,
R79; that the stop is made in the step of the clear is the model's reading, log 32). In each case nothing else
changes but slots and the completion queue: EXPECTED_FP, EXPECT_ENABLE, FAULT_LIMIT, ROSTER_SEL and the
windows stand (R60), and no slot is left QUEUED (R67). -/
def Obligations.CensusClearEmptiesRoster : Prop :=
  ∀ s : State, s.inReset = false → s.census.state = .draining →
    (∀ p, (s.port p).exch = .idle ∨ (s.port p).exch = .held) →
    (∀ p, (s.checks.get p).state = .idle) →
    let walk : Census := { s.census with
      ports := { a := s.isUp .a, b := s.isUp .b }
      nextAddr := 1, position := 0, tries := 0
      released := { a := false, b := false }, settleTimer := false }
    let cleared (r : RosterState) (c : Census) (st : StickyBits) (t : State) : Prop :=
      t = { s with
        roster := Vector.replicate 62 RosterEntry.vacant
        rosterState := r, ringState := .unknown, tails := { a := 0, b := 0 }
        exceeded := false, lockHeld := true, epoch := s.epoch + 1, fingerprint := 0
        mirror := Vector.replicate 62 MirrorEntry.empty, cursors := { a := 0, b := 0 }
        reservations := { a := none, b := none }
        census := c, sticky := st
        slots := t.slots, completionQueue := t.completionQueue }
      ∧ ∀ u : Tag, (t.slot u).state ≠ .queued
    (s.census.stopPending = none → (∃ p, (s.port p).link = .up) →
      ∃ t, exec .censusClear s = .next t
        ∧ cleared .building { walk with state := .releasing } s.sticky t)
    ∧ (s.census.stopPending = none → (∀ p, (s.port p).link ≠ .up) →
      ∃ t, exec .censusClear s = .next t
        ∧ cleared .partly { walk with state := .idle, result := .failed, reason := .noPort }
            { s.sticky with censusDone := true } t)
    ∧ (∀ c, s.census.stopPending = some c →
      ∃ t, exec .censusClear s = .next t
        ∧ cleared .partly
            { walk with
              state := .idle
              result := match c with
                | .aborted => .aborted
                | .failed _ => .failed
              reason := match c with
                | .aborted => .none
                | .failed why => why }
            { s.sticky with censusDone := true } t)

/-- The timers. The release settle timer runs out: WALK_A where port A is a census port, WALK_B otherwise, with
position 0 and try 0 (R69, R74). A busy backoff runs out: the slot stays as it is but for its timer (R114). The
millisecond timer goes up by one, wrapping, and the age of every FRESH or STALE entry with it, stopping at
65535; an EMPTY entry's age stays (R126). -/
def Obligations.TimersRun : Prop :=
  ∀ (s : State) (tag : Tag), s.inReset = false →
    (s.census.state = .releasing → s.census.settleTimer = true →
      exec .releaseSettleExpiry s = .next
        { s with
          census := { s.census with
            state := if s.census.ports.a = true then .walkA else .walkB
            position := 0, tries := 0, settleTimer := false } })
    ∧ ((s.slot tag).backoff ≠ none →
      exec (.backoffExpiry tag) s = .next
        { s with slots := s.slots.set tag.val { s.slot tag with backoff := none } })
    ∧ ∃ t, exec .msecTick s = .next t
      ∧ t = { s with msecTimer := s.msecTimer + 1, mirror := t.mirror }
      ∧ ∀ a, t.status a = { s.status a with
          age :=
            if (s.status a).state = .empty then (s.status a).age
            else if (s.status a).age < 65535 then (s.status a).age + 1 else 65535 }

/-- The answer to a CLAIM. A claim, the IDENT "fresh" or "assigned" from the address offered at try 2, creates
the entry of that address, ACTIVE with the walk's port as route and the position as its hop count (R49, R72,
R75), and the walk's tail and the next address go up by one (R53), at address 62 too with a stop pending (R78).
With none pending no other address is left: EXCEEDED, and the census finishes, the lock decided by the
fingerprint (R54, R73, R77). Any other IDENT: in walk A STALE_ADDRESS (R72), in walk B ring closure (R75, R76)
or RING_CONFLICT (R75), each as stop pending where none is pending (R79). Ring closure gives every entry of
walk A its hop count on port B, the ring is CLOSED, and the census finishes unless a stop is pending (R78). -/
def Obligations.ClaimAnswersBuildTheRoster : Prop :=
  ∀ (s : State) (p : Port) (x : Xfer) (w : Nat) (r : Bool) (bytes : List Byte) (f : Frame),
    s.inReset = false → (s.port p).rx = .ofExchange → (s.port p).exch = .awaiting x w r →
    x.owner = .census → x.frame.kind = .claim →
    (p = .a ∧ s.census.state = .walkA ∨ p = .b ∧ s.census.state = .walkB) →
    judge bytes = .good f → acceptsReply x.frame f = true →
    1 ≤ s.census.nextAddr → (∀ q, (s.checks.get q).state = .idle) →
    let n := s.census.nextAddr
    let claim := f.control = 0 ∨ f.source = n ∧ s.census.tries = 2
    let closure := s.tails.b = 0 ∧ 1 ≤ s.tails.a
      ∧ (s.entry f.source).hops.a = some s.tails.a
    let ports := s.ports.set p { s.port p with exch := .idle, rx := .nothing }
    let stops (why : CensusReason) : State :=
      { s with
        census := { s.census with
          stopPending := match s.census.stopPending with
            | none => some (.failed why)
            | some c => some c }
        ports := ports }
    (claim → n < 62 ∨ n = 62 ∧ s.census.stopPending ≠ none →
      ∃ t, exec (.frameReceived p (.content bytes)) s = .next t
        ∧ t = { s with
            roster := t.roster
            tails := s.tails.set p (s.tails.get p + 1)
            census := { s.census with nextAddr := n + 1 }
            ports := ports }
        ∧ t.entry n =
            { state := .active, identity := some (Identity.ofBytes f.payload)
              hops := ({ a := none, b := none } : Pair (Option Nat)).set p (some s.census.position)
              route := some p, failCount := 0, toggle := .zero, lastSeq := none, lostMark := false }
        ∧ ∀ a, a ≠ n → t.entry a = s.entry a)
    ∧ (claim → n = 62 → s.census.stopPending = none →
      ∃ t, exec (.frameReceived p (.content bytes)) s = .next t ∧ TouchesOutcome s t
        ∧ t.ports = ports ∧ t.exceeded = true ∧ t.ringState = s.ringState
        ∧ t.tails = s.tails.set p (s.tails.get p + 1)
        ∧ Finishes .exceeded { s with census := { s.census with nextAddr := 63 } } t
        ∧ t.entry 62 =
            { state := .active, identity := some (Identity.ofBytes f.payload)
              hops := ({ a := none, b := none } : Pair (Option Nat)).set p (some s.census.position)
              route := some p, failCount := 0, toggle := (t.entry 62).toggle, lastSeq := none
              lostMark := false })
    ∧ (¬claim → p = .a →
      exec (.frameReceived p (.content bytes)) s = .next (stops .staleAddress))
    ∧ (¬claim → p = .b → ¬closure →
      exec (.frameReceived p (.content bytes)) s = .next (stops .ringConflict))
    ∧ (¬claim → p = .b → closure →
      ∃ t, exec (.frameReceived p (.content bytes)) s = .next t ∧ TouchesOutcome s t
        ∧ t.ports = ports ∧ t.ringState = .closed ∧ t.tails = s.tails
        ∧ (∀ a h, (s.entry a).hops.a = some h →
            (t.entry a).hops = { a := some h, b := some (s.tails.a - h + 1) })
        ∧ (∀ a, (s.entry a).hops.a = none → (t.entry a).hops = (s.entry a).hops)
        ∧ (s.census.stopPending ≠ none →
            t = { s with ringState := .closed, roster := t.roster, ports := ports })
        ∧ (s.census.stopPending = none → s.exceeded = false → Finishes .ok s t))

/-- The census stops: roster PARTIAL, the fingerprint over the entries present, result and reason from the
first cause, state IDLE, CENSUS_DONE raised; the lock stands and LOCK_HELD is not raised, and with both ports
UP the ring state stands and no check starts (R79). A port that is not UP with entries routed on it starts its
check, with the break at hop 0 and trigger 0 (R79 step 6, R156); where no module routed on it can be probed on
the other port, all of them are LOST, the check is over and a CLOSED ring is BROKEN (R162, R163, R166). R162
decides modules one at a time: that all are LOST and the check over in this step is the model's reading (log
30, DEDUCED). The slots that come to the front as the census ends meet their checks at once, before a check
starts: a waiting WRITE or RESTART under a HELD lock completes REFUSED_LOCK also where its module is then made
LOST, and one whose target is VACANT or LOST already completes NO_MODULE or UNREACHABLE (R79 step 5, R105,
R107). -/
def Obligations.CensusStopEndsCensus : Prop :=
  ∀ (s : State) (c : StopCause), s.inReset = false → pastClear s → s.census.stopPending = some c →
    (∀ q, s.carries q .census = false) → (∀ p, (s.checks.get p).state = .idle) →
    let ended : State :=
      { s with
        rosterState := .partly, fingerprint := s.computeFingerprint
        sticky := { s.sticky with censusDone := true }
        census := { s.census with
          state := .idle, settleTimer := false
          result := match c with
            | .aborted => .aborted
            | .failed _ => .failed
          reason := match c with
            | .aborted => .none
            | .failed why => why } }
    ∃ t, exec .censusStop s = .next t
      ∧ TouchesSettling ended t
      ∧ t.sticky.censusDone = true ∧ t.sticky.lockHeld = s.sticky.lockHeld
      ∧ (s.ringState ≠ .closed → t.ringState = s.ringState)
      ∧ ((∀ p, (s.port p).link = .up) → TouchesRequests ended t)
      ∧ (∀ u b, Waits u b s →
          let ends (st : Status) : Prop := t.slot u = doneWith (s.slot u) st
            (effectByHistory (s.slot u).kindCode (s.slot u).history) false [] s.epoch
          ((s.entry b).state = .vacant → ends .noModule)
          ∧ ((s.entry b).state = .lost → ends .unreachable)
          ∧ ((s.entry b).live = true → s.lockHeld = true →
              (s.slot u).kindCode = 2 ∨ (s.slot u).kindCode = 5 → ends .refusedLock))
      ∧ ∀ p : Port,
        ((s.port p).link = .up ∨ (∀ a, (s.entry a).route ≠ some p) →
          t.checks.get p = s.checks.get p)
        ∧ ((s.port p).link ≠ .up → (∃ a, (s.entry a).route = some p) →
          (t.checks.get p).result = .brk ∧ (t.checks.get p).breakLocation = 0
            ∧ (t.checks.get p).trigger = 0
            ∧ ((∀ a, (s.entry a).live = true → (s.entry a).route = some p →
                  (s.port p.other).link ≠ .up ∨ (s.entry a).hops.get p.other = none) →
                (t.checks.get p).state = .idle ∧ t.sticky.reachDone = true
                ∧ (∀ a, (s.entry a).live = true → (s.entry a).route = some p →
                    (t.entry a).state = .lost ∧ (t.entry a).route = none
                      ∧ (t.entry a).lostMark = true ∧ t.ringState ≠ .closed
                      ∧ t.sticky.moduleLost = true)))

/-- A reach check that probes. It begins when the port's exchange is IDLE: the probe list is every ACTIVE or
SUSPECT entry routed on the port, in ascending hop count, with the cursor at the first (R159). A module that
answers its probe is ACTIVE with fail_count 0, and the check goes on to the next one of its list, or after the
last ends with NO_BREAK, the ring state as it stood (R46, R160, R161, R166). A cut-off module that answers its
re-route probe is ACTIVE on the other port and counted, and the check takes the next PENDING one or ends (R162,
R166). What a failed probe does stands in `ReplyWindowRunsOut` and `DamagedFrameEndsExchange`. -/
def Obligations.ReachCheckProbes : Prop :=
  ∀ (s : State) (p : Port), s.inReset = false → (s.checks.get p.other).state = .idle →
    let c := s.checks.get p
    (c.state = .probing → c.begun = false → (s.port p).exch = .idle →
      (∃ a, (s.entry a).live = true ∧ (s.entry a).route = some p) →
      ∃ t l, exec (.probingBegin p) s = .next t
        ∧ TouchesRequests
            { s with
              checks := s.checks.set p
                { c with begun := true, probeList := l, cursor := 0, tries := 0 } } t
        ∧ l.Nodup ∧ (∀ a, a ∈ l ↔ (s.entry a).live = true ∧ (s.entry a).route = some p)
        ∧ l.Pairwise fun a b =>
            ((s.entry a).hops.get p).getD 0 ≤ ((s.entry b).hops.get p).getD 0)
    ∧ ∀ (q : Port) (x : Xfer) (w : Nat) (r : Bool) (a : Nat) (bytes : List Byte) (f : Frame),
      (s.port q).rx = .ofExchange → (s.port q).exch = .awaiting x w r → x.owner = .check p →
      x.frame.dest = a → judge bytes = .good f → acceptsReply x.frame f = true →
      (s.entry a).live = true →
      ∃ t, exec (.frameReceived q (.content bytes)) s = .next t ∧ TouchesOutcome s t
        ∧ t.ports = s.ports.set q { s.port q with exch := .idle, rx := .nothing }
        ∧ (q = p → c.state = .probing → c.begun = true → c.probeList[c.cursor]? = some a →
            (t.entry a).state = .active ∧ (t.entry a).failCount = 0
            ∧ (t.entry a).route = (s.entry a).route
            ∧ (∀ b, c.probeList[c.cursor + 1]? = some b → (s.entry b).route = some p →
                t.checks = s.checks.set p { c with cursor := c.cursor + 1, tries := 0 })
            ∧ (c.probeList[c.cursor + 1]? = none → c.cutOff = [] →
                EndsAs p { c with result := .noBreak } s t))
        ∧ (q = p.other → c.state = .rerouting → c.deciding = some a →
            ((s.entry a).hops.get q).isSome = true →
            (t.entry a).state = .active ∧ (t.entry a).failCount = 0
            ∧ (t.entry a).route = some q ∧ (t.entry a).hops = (s.entry a).hops
            ∧ GoesOn p
                { c with
                  cutOff := decided a .rerouted c.cutOff, rerouted := c.rerouted + 1
                  deciding := none } s t)

/-! ## Frames and identities on the wire (chapter 1, section 11.1) -/

/-- Writing a well-coded module-to-head frame and judging its bytes gives the frame back, whatever its fields
(R2, R4, R181, section 11.1); the twelve bytes of an identity descriptor give the descriptor back (R8). -/
def Obligations.FramesAndIdentitiesRoundTrip : Prop :=
  (∀ f : Frame, f.fromModuleOk = true → judge f.wire = .good f)
    ∧ ∀ i : Identity, i.recordMax ≤ 16 → i.bytes.length = 12 ∧ Identity.ofBytes i.bytes = i

/-- Of the module-to-head frames with a good CRC exactly the well-coded ones are good, the others count as
damaged; every head-to-module frame with a good CRC is discarded as such (R7, R181). -/
def Obligations.MalformedFramesDamaged : Prop :=
  ∀ f : Frame, f.dest ≤ 255 → f.source ≤ 255 → f.payload.length ≤ 255 →
    (f.kind.fromModule = true → f.register = 0 →
      (judge f.wire = .good f ↔ f.fromModuleOk = true)
        ∧ (judge f.wire = .damaged ↔ f.fromModuleOk = false))
    ∧ (f.kind.fromModule = false → judge f.wire = .headKind)

/-! ## Laws that every step keeps -/

/-- Law 5: the notice queue and the reservations never exceed 32 places (R144). Every parameter stays in its
range (R174, R175). -/
def Obligations.StepKeepsNoticeAndParamsLaws : Prop :=
  ∀ s t : State, step s = .next t →
    (NoticeLaw s → NoticeLaw t) ∧ (ParamsLaw s.params → ParamsLaw t.params)

/-- Law 6 and the values of each kind of entry (R43, R45, R50). -/
def Obligations.StepKeepsRosterLaw : Prop :=
  ∀ s t : State, RosterLaw s → step s = .next t → RosterLaw t

/-- Law 12: FRESH only where the module is ACTIVE or SUSPECT (R124, R125). -/
def Obligations.StepKeepsMirrorLaw : Prop :=
  ∀ s t : State, MirrorLaw s → step s = .next t → MirrorLaw t

/-- The exchange of a port is HELD exactly while its link is not UP, its counters stay in their ranges (section
2.2, R30, R41), and a port in ALIGNING has counted fewer than 64 idle symbols (R27). -/
def Obligations.StepKeepsPortsLaw : Prop :=
  ∀ s t : State, PortsLaw s → step s = .next t → PortsLaw t

/-- Law 1: the completion queue holds exactly the DONE slots, each once (R84, R91, R96). -/
def Obligations.StepKeepsRequestLaw : Prop :=
  ∀ s t : State, RequestLaw s → step s = .next t → RequestLaw t

/-- Laws 8 and 9: under a HELD lock no WRITE, RESTART or BCAST_WRITE is in flight, and past the clear only
RELEASE and CLAIM (R54, R64). -/
def Obligations.StepKeepsTrafficLaw : Prop :=
  ∀ s t : State, TrafficLaw s → step s = .next t → TrafficLaw t

/-- The state after hardware reset obeys every law, and holds the values the spec gives each block (R180): the
ports (R25, R40, R42), the roster (R61), the census (R62), the requests (R102), the dispatch engine (R123), the
sweep and mirror (R139), the notices (R154), the reach checks (R155), the host port with every parameter at its
default (R171, R172, R174). -/
def Obligations.ResetObeysLaws : Prop :=
  (NoticeLaw State.reset ∧ RosterLaw State.reset ∧ MirrorLaw State.reset
    ∧ ParamsLaw State.reset.params ∧ TrafficLaw State.reset)
    ∧ let s := State.reset
      (∀ p, (s.port p).link = .down ∧ (s.port p).exch = .held
        ∧ (s.port p).crcErrors = 0 ∧ (s.port p).symbolErrors = 0 ∧ (s.port p).timeouts = 0
        ∧ (s.port p).lateReplies = 0 ∧ (s.port p).strayReplies = 0
        ∧ (s.port p).timeoutsHold = 0 ∧ s.portEnabled p = true)
      ∧ ((∀ a, s.entry a = RosterEntry.vacant) ∧ s.rosterState = .empty ∧ s.ringState = .unknown
        ∧ s.tails = { a := 0, b := 0 } ∧ s.exceeded = false ∧ s.lockHeld = false ∧ s.epoch = 0
        ∧ s.fingerprint = 0 ∧ s.rosterSel = 0 ∧ s.rosterWindow = RosterEntry.vacant)
      ∧ (s.census.state = .idle ∧ s.census.result = .none ∧ s.census.reason = .none
        ∧ s.census.ports = { a := false, b := false } ∧ s.census.nextAddr = 0
        ∧ s.census.position = 0 ∧ s.census.tries = 0 ∧ s.census.stopPending = none)
      ∧ ((∀ u : Tag, s.slot u = Slot.free) ∧ s.submissionCounter = 0 ∧ s.completionQueue = []
        ∧ s.submitResult = .none ∧ s.cancelTag = 0 ∧ s.mailbox.kind = 0 ∧ s.mailbox.target = 0
        ∧ s.mailbox.register = 0 ∧ s.mailbox.length = 0
        ∧ s.mailbox.data = Vector.replicate 32 0)
      ∧ (s.markers = { a := .sweep, b := .sweep } ∧ s.followUps = { a := none, b := none })
      ∧ ((∀ a, s.status a = MirrorEntry.empty) ∧ s.cursors = { a := 0, b := 0 }
        ∧ s.msecTimer = 0 ∧ s.mirrorSel = 0 ∧ s.mirrorWindow = MirrorEntry.empty)
      ∧ (s.notices = [] ∧ s.reservations = { a := none, b := none } ∧ s.dupNotices = 0)
      ∧ (∀ p, (s.checks.get p).state = .idle ∧ (s.checks.get p).trigger = 0
        ∧ (s.checks.get p).result = .none ∧ (s.checks.get p).breakLocation = 0
        ∧ (s.checks.get p).rerouted = 0 ∧ (s.checks.get p).lost = 0
        ∧ (s.checks.get p).probeList = [] ∧ (s.checks.get p).cutOff = [])
      ∧ (s.inReset = false ∧ s.spi = .waitHigh ∧ s.cmd = 0 ∧ s.cmdResult = .none
        ∧ s.replyBaseHold = 0x64 ∧ s.msecHold = 0
        ∧ (∀ c, s.causeByte c = 0 ∧ s.enables.byte c = 0))
      ∧ s.params =
        { replyBase := 100, hopAllow := 8, retryLimit := 3, busyLimit := 8, busyBackoff := 10
          faultLimit := 4, sweepPeriod := 20, staleLimit := 3, sweepEnable := false
          expectEnable := false, expectedFp := 0 }

/-- No event at the lines, of the timers, of the census or of a reach check changes a register that the host
alone writes, a parameter, an enable, a snapshot or the SPI transaction (R170, R174). -/
def Obligations.EventsLeaveHostRegisters : Prop :=
  ∀ (c : Instr) (s t : State) (p : Port) (r : Reception) (tag : Tag),
    c ∈ [Instr.signalDetected p, .idleRunComplete p, .aligningSignalLoss p, .signalAbsent p,
      .signalReturn p, .signalLossTimerExpiry p, .arbiterHand p, .frameSent p,
      .replyWindowExpiry p, .frameReceived p r, .lateFrame p r, .censusClear,
      .releaseSettleExpiry, .censusStop, .backoffExpiry tag, .msecTick, .probingBegin p,
      .startDelimiterReceived p, .idleRunReset p] →
    exec c s = .next t → TouchesBlocks s t

/-- The epoch changes at the census clear, at SOFT_RESET and at a hardware reset and at no other step; each of
the first two advances it by one (R56). -/
def Obligations.EpochChangesOnlyAtClears : Prop :=
  ∀ (c : Instr) (s t : State), exec c s = .next t → t.epoch ≠ s.epoch →
    c = .resetnLow ∨ c = .resetnHigh
      ∨ (t.epoch = s.epoch + 1
          ∧ (c = .censusClear ∨ c = .softReset ∨ c = .unknownCommand 0x5A
            ∨ c = .registerWrite 0x0008 0x5A))
end

