-- ==== Sys2Proof/Laws/Bits.lean ====
section
/-! SUPPORT. The bits of a byte made from its bits, so that no proof takes the concatenation apart. -/

namespace Sys2Proof.Machine

variable (b0 b1 b2 b3 b4 b5 b6 b7 : Bool)

@[simp] theorem byteOfBits_bit0 :
    (byteOfBits b0 b1 b2 b3 b4 b5 b6 b7).getLsbD 0 = b0 := by
  revert b0 b1 b2 b3 b4 b5 b6 b7; decide

@[simp] theorem byteOfBits_bit1 :
    (byteOfBits b0 b1 b2 b3 b4 b5 b6 b7).getLsbD 1 = b1 := by
  revert b0 b1 b2 b3 b4 b5 b6 b7; decide

@[simp] theorem byteOfBits_bit2 :
    (byteOfBits b0 b1 b2 b3 b4 b5 b6 b7).getLsbD 2 = b2 := by
  revert b0 b1 b2 b3 b4 b5 b6 b7; decide

@[simp] theorem byteOfBits_bit3 :
    (byteOfBits b0 b1 b2 b3 b4 b5 b6 b7).getLsbD 3 = b3 := by
  revert b0 b1 b2 b3 b4 b5 b6 b7; decide

@[simp] theorem byteOfBits_bit4 :
    (byteOfBits b0 b1 b2 b3 b4 b5 b6 b7).getLsbD 4 = b4 := by
  revert b0 b1 b2 b3 b4 b5 b6 b7; decide

@[simp] theorem byteOfBits_bit5 :
    (byteOfBits b0 b1 b2 b3 b4 b5 b6 b7).getLsbD 5 = b5 := by
  revert b0 b1 b2 b3 b4 b5 b6 b7; decide

@[simp] theorem byteOfBits_bit6 :
    (byteOfBits b0 b1 b2 b3 b4 b5 b6 b7).getLsbD 6 = b6 := by
  revert b0 b1 b2 b3 b4 b5 b6 b7; decide

@[simp] theorem byteOfBits_bit7 :
    (byteOfBits b0 b1 b2 b3 b4 b5 b6 b7).getLsbD 7 = b7 := by
  revert b0 b1 b2 b3 b4 b5 b6 b7; decide

/-- A byte is made of its eight bits. -/
theorem byteOfBits_eta (x : Byte) :
    byteOfBits (x.getLsbD 0) (x.getLsbD 1) (x.getLsbD 2) (x.getLsbD 3) (x.getLsbD 4) (x.getLsbD 5)
      (x.getLsbD 6) (x.getLsbD 7) = x := by
  revert x; decide +kernel

/-- Two bytes that agree in their eight bits are equal. -/
theorem byte_ext {x y : Byte} (h0 : x.getLsbD 0 = y.getLsbD 0) (h1 : x.getLsbD 1 = y.getLsbD 1)
    (h2 : x.getLsbD 2 = y.getLsbD 2) (h3 : x.getLsbD 3 = y.getLsbD 3)
    (h4 : x.getLsbD 4 = y.getLsbD 4) (h5 : x.getLsbD 5 = y.getLsbD 5)
    (h6 : x.getLsbD 6 = y.getLsbD 6) (h7 : x.getLsbD 7 = y.getLsbD 7) : x = y := by
  rw [← byteOfBits_eta x, h0, h1, h2, h3, h4, h5, h6, h7, byteOfBits_eta]

/-- A byte is 0 exactly when its eight bits are. -/
theorem byte_eq_zero {x : Byte} : x = 0 ↔
    x.getLsbD 0 = false ∧ x.getLsbD 1 = false ∧ x.getLsbD 2 = false ∧ x.getLsbD 3 = false
      ∧ x.getLsbD 4 = false ∧ x.getLsbD 5 = false ∧ x.getLsbD 6 = false ∧ x.getLsbD 7 = false := by
  revert x; decide +kernel

end Sys2Proof.Machine
end

