-- ==== Sys2Proof/Laws/State.lean ====
section
/-! SUPPORT. One lemma per field per update of State, true by unfolding one record update, so that no
later proof unfolds it; and what reading gives after an update of the same place or another. -/

namespace Sys2Proof.Machine

/-! ## Pairs -/

@[simp] theorem Port.other_other (p : Port) : p.other.other = p := by cases p <;> rfl

@[simp] theorem Port.other_ne (p : Port) : p.other ≠ p := by cases p <;> decide

@[simp] theorem Port.ne_other (p : Port) : p ≠ p.other := by cases p <;> decide

theorem Port.eq_or_other (p q : Port) : q = p ∨ q = p.other := by cases p <;> cases q <;> decide

@[simp] theorem Pair.get_set_same {α : Type} (x : Pair α) (p : Port) (v : α) :
    (x.set p v).get p = v := by cases p <;> rfl

@[simp] theorem Pair.get_set_other {α : Type} (x : Pair α) (p : Port) (v : α) :
    (x.set p v).get p.other = x.get p.other := by cases p <;> rfl

theorem Pair.get_set_ne {α : Type} (x : Pair α) {p q : Port} (h : q ≠ p) (v : α) :
    (x.set p v).get q = x.get q := by cases p <;> cases q <;> first | rfl | exact absurd rfl h

@[simp] theorem Pair.set_get {α : Type} (x : Pair α) (p : Port) : x.set p (x.get p) = x := by
  cases p <;> rfl

@[simp] theorem Pair.set_set {α : Type} (x : Pair α) (p : Port) (v w : α) :
    (x.set p v).set p w = x.set p w := by cases p <;> rfl

@[simp] theorem Pair.get_mk_a {α : Type} (v w : α) : (Pair.mk v w).get .a = v := rfl

@[simp] theorem Pair.get_mk_b {α : Type} (v w : α) : (Pair.mk v w).get .b = w := rfl

theorem Pair.ext_get {α : Type} {x y : Pair α} (h : ∀ p, x.get p = y.get p) : x = y := by
  have ha := h .a
  have hb := h .b
  cases x
  cases y
  simp only [Pair.get] at ha hb
  simp [ha, hb]


/-! ## setPort: every field but ports -/

@[simp] theorem State.setPort_inReset (s : State) (p : Port) (x : ChainPort) :
    (s.setPort p x).inReset = s.inReset := rfl

@[simp] theorem State.setPort_csnHigh (s : State) (p : Port) (x : ChainPort) :
    (s.setPort p x).csnHigh = s.csnHigh := rfl

@[simp] theorem State.setPort_spi (s : State) (p : Port) (x : ChainPort) :
    (s.setPort p x).spi = s.spi := rfl

@[simp] theorem State.setPort_addrCounter (s : State) (p : Port) (x : ChainPort) :
    (s.setPort p x).addrCounter = s.addrCounter := rfl

@[simp] theorem State.setPort_sdoByte (s : State) (p : Port) (x : ChainPort) :
    (s.setPort p x).sdoByte = s.sdoByte := rfl

@[simp] theorem State.setPort_cmd (s : State) (p : Port) (x : ChainPort) :
    (s.setPort p x).cmd = s.cmd := rfl

@[simp] theorem State.setPort_cmdResult (s : State) (p : Port) (x : ChainPort) :
    (s.setPort p x).cmdResult = s.cmdResult := rfl

@[simp] theorem State.setPort_params (s : State) (p : Port) (x : ChainPort) :
    (s.setPort p x).params = s.params := rfl

@[simp] theorem State.setPort_replyBaseHold (s : State) (p : Port) (x : ChainPort) :
    (s.setPort p x).replyBaseHold = s.replyBaseHold := rfl

@[simp] theorem State.setPort_msecHold (s : State) (p : Port) (x : ChainPort) :
    (s.setPort p x).msecHold = s.msecHold := rfl

@[simp] theorem State.setPort_sticky (s : State) (p : Port) (x : ChainPort) :
    (s.setPort p x).sticky = s.sticky := rfl

@[simp] theorem State.setPort_enables (s : State) (p : Port) (x : ChainPort) :
    (s.setPort p x).enables = s.enables := rfl

@[simp] theorem State.setPort_roster (s : State) (p : Port) (x : ChainPort) :
    (s.setPort p x).roster = s.roster := rfl

@[simp] theorem State.setPort_rosterState (s : State) (p : Port) (x : ChainPort) :
    (s.setPort p x).rosterState = s.rosterState := rfl

@[simp] theorem State.setPort_ringState (s : State) (p : Port) (x : ChainPort) :
    (s.setPort p x).ringState = s.ringState := rfl

@[simp] theorem State.setPort_tails (s : State) (p : Port) (x : ChainPort) :
    (s.setPort p x).tails = s.tails := rfl

@[simp] theorem State.setPort_exceeded (s : State) (p : Port) (x : ChainPort) :
    (s.setPort p x).exceeded = s.exceeded := rfl

@[simp] theorem State.setPort_lockHeld (s : State) (p : Port) (x : ChainPort) :
    (s.setPort p x).lockHeld = s.lockHeld := rfl

@[simp] theorem State.setPort_epoch (s : State) (p : Port) (x : ChainPort) :
    (s.setPort p x).epoch = s.epoch := rfl

@[simp] theorem State.setPort_fingerprint (s : State) (p : Port) (x : ChainPort) :
    (s.setPort p x).fingerprint = s.fingerprint := rfl

@[simp] theorem State.setPort_rosterSel (s : State) (p : Port) (x : ChainPort) :
    (s.setPort p x).rosterSel = s.rosterSel := rfl

@[simp] theorem State.setPort_rosterWindow (s : State) (p : Port) (x : ChainPort) :
    (s.setPort p x).rosterWindow = s.rosterWindow := rfl

@[simp] theorem State.setPort_census (s : State) (p : Port) (x : ChainPort) :
    (s.setPort p x).census = s.census := rfl

@[simp] theorem State.setPort_mailbox (s : State) (p : Port) (x : ChainPort) :
    (s.setPort p x).mailbox = s.mailbox := rfl

@[simp] theorem State.setPort_slots (s : State) (p : Port) (x : ChainPort) :
    (s.setPort p x).slots = s.slots := rfl

@[simp] theorem State.setPort_submissionCounter (s : State) (p : Port) (x : ChainPort) :
    (s.setPort p x).submissionCounter = s.submissionCounter := rfl

@[simp] theorem State.setPort_completionQueue (s : State) (p : Port) (x : ChainPort) :
    (s.setPort p x).completionQueue = s.completionQueue := rfl

@[simp] theorem State.setPort_submitResult (s : State) (p : Port) (x : ChainPort) :
    (s.setPort p x).submitResult = s.submitResult := rfl

@[simp] theorem State.setPort_cancelTag (s : State) (p : Port) (x : ChainPort) :
    (s.setPort p x).cancelTag = s.cancelTag := rfl

@[simp] theorem State.setPort_markers (s : State) (p : Port) (x : ChainPort) :
    (s.setPort p x).markers = s.markers := rfl

@[simp] theorem State.setPort_followUps (s : State) (p : Port) (x : ChainPort) :
    (s.setPort p x).followUps = s.followUps := rfl

@[simp] theorem State.setPort_mirror (s : State) (p : Port) (x : ChainPort) :
    (s.setPort p x).mirror = s.mirror := rfl

@[simp] theorem State.setPort_cursors (s : State) (p : Port) (x : ChainPort) :
    (s.setPort p x).cursors = s.cursors := rfl

@[simp] theorem State.setPort_msecTimer (s : State) (p : Port) (x : ChainPort) :
    (s.setPort p x).msecTimer = s.msecTimer := rfl

@[simp] theorem State.setPort_mirrorSel (s : State) (p : Port) (x : ChainPort) :
    (s.setPort p x).mirrorSel = s.mirrorSel := rfl

@[simp] theorem State.setPort_mirrorWindow (s : State) (p : Port) (x : ChainPort) :
    (s.setPort p x).mirrorWindow = s.mirrorWindow := rfl

@[simp] theorem State.setPort_notices (s : State) (p : Port) (x : ChainPort) :
    (s.setPort p x).notices = s.notices := rfl

@[simp] theorem State.setPort_reservations (s : State) (p : Port) (x : ChainPort) :
    (s.setPort p x).reservations = s.reservations := rfl

@[simp] theorem State.setPort_dupNotices (s : State) (p : Port) (x : ChainPort) :
    (s.setPort p x).dupNotices = s.dupNotices := rfl

@[simp] theorem State.setPort_checks (s : State) (p : Port) (x : ChainPort) :
    (s.setPort p x).checks = s.checks := rfl

@[simp] theorem State.setPort_freeCount (s : State) (p : Port) (x : ChainPort) :
    (s.setPort p x).freeCount = s.freeCount := rfl

@[simp] theorem State.setPort_pending (s : State) (p : Port) (x : ChainPort) :
    (s.setPort p x).pending = s.pending := rfl


/-! ## setSlot: every field but slots -/

@[simp] theorem State.setSlot_inReset (s : State) (t : Tag) (x : Slot) :
    (s.setSlot t x).inReset = s.inReset := rfl

@[simp] theorem State.setSlot_csnHigh (s : State) (t : Tag) (x : Slot) :
    (s.setSlot t x).csnHigh = s.csnHigh := rfl

@[simp] theorem State.setSlot_spi (s : State) (t : Tag) (x : Slot) :
    (s.setSlot t x).spi = s.spi := rfl

@[simp] theorem State.setSlot_addrCounter (s : State) (t : Tag) (x : Slot) :
    (s.setSlot t x).addrCounter = s.addrCounter := rfl

@[simp] theorem State.setSlot_sdoByte (s : State) (t : Tag) (x : Slot) :
    (s.setSlot t x).sdoByte = s.sdoByte := rfl

@[simp] theorem State.setSlot_cmd (s : State) (t : Tag) (x : Slot) :
    (s.setSlot t x).cmd = s.cmd := rfl

@[simp] theorem State.setSlot_cmdResult (s : State) (t : Tag) (x : Slot) :
    (s.setSlot t x).cmdResult = s.cmdResult := rfl

@[simp] theorem State.setSlot_params (s : State) (t : Tag) (x : Slot) :
    (s.setSlot t x).params = s.params := rfl

@[simp] theorem State.setSlot_replyBaseHold (s : State) (t : Tag) (x : Slot) :
    (s.setSlot t x).replyBaseHold = s.replyBaseHold := rfl

@[simp] theorem State.setSlot_msecHold (s : State) (t : Tag) (x : Slot) :
    (s.setSlot t x).msecHold = s.msecHold := rfl

@[simp] theorem State.setSlot_sticky (s : State) (t : Tag) (x : Slot) :
    (s.setSlot t x).sticky = s.sticky := rfl

@[simp] theorem State.setSlot_enables (s : State) (t : Tag) (x : Slot) :
    (s.setSlot t x).enables = s.enables := rfl

@[simp] theorem State.setSlot_ports (s : State) (t : Tag) (x : Slot) :
    (s.setSlot t x).ports = s.ports := rfl

@[simp] theorem State.setSlot_roster (s : State) (t : Tag) (x : Slot) :
    (s.setSlot t x).roster = s.roster := rfl

@[simp] theorem State.setSlot_rosterState (s : State) (t : Tag) (x : Slot) :
    (s.setSlot t x).rosterState = s.rosterState := rfl

@[simp] theorem State.setSlot_ringState (s : State) (t : Tag) (x : Slot) :
    (s.setSlot t x).ringState = s.ringState := rfl

@[simp] theorem State.setSlot_tails (s : State) (t : Tag) (x : Slot) :
    (s.setSlot t x).tails = s.tails := rfl

@[simp] theorem State.setSlot_exceeded (s : State) (t : Tag) (x : Slot) :
    (s.setSlot t x).exceeded = s.exceeded := rfl

@[simp] theorem State.setSlot_lockHeld (s : State) (t : Tag) (x : Slot) :
    (s.setSlot t x).lockHeld = s.lockHeld := rfl

@[simp] theorem State.setSlot_epoch (s : State) (t : Tag) (x : Slot) :
    (s.setSlot t x).epoch = s.epoch := rfl

@[simp] theorem State.setSlot_fingerprint (s : State) (t : Tag) (x : Slot) :
    (s.setSlot t x).fingerprint = s.fingerprint := rfl

@[simp] theorem State.setSlot_rosterSel (s : State) (t : Tag) (x : Slot) :
    (s.setSlot t x).rosterSel = s.rosterSel := rfl

@[simp] theorem State.setSlot_rosterWindow (s : State) (t : Tag) (x : Slot) :
    (s.setSlot t x).rosterWindow = s.rosterWindow := rfl

@[simp] theorem State.setSlot_census (s : State) (t : Tag) (x : Slot) :
    (s.setSlot t x).census = s.census := rfl

@[simp] theorem State.setSlot_mailbox (s : State) (t : Tag) (x : Slot) :
    (s.setSlot t x).mailbox = s.mailbox := rfl

@[simp] theorem State.setSlot_submissionCounter (s : State) (t : Tag) (x : Slot) :
    (s.setSlot t x).submissionCounter = s.submissionCounter := rfl

@[simp] theorem State.setSlot_completionQueue (s : State) (t : Tag) (x : Slot) :
    (s.setSlot t x).completionQueue = s.completionQueue := rfl

@[simp] theorem State.setSlot_submitResult (s : State) (t : Tag) (x : Slot) :
    (s.setSlot t x).submitResult = s.submitResult := rfl

@[simp] theorem State.setSlot_cancelTag (s : State) (t : Tag) (x : Slot) :
    (s.setSlot t x).cancelTag = s.cancelTag := rfl

@[simp] theorem State.setSlot_markers (s : State) (t : Tag) (x : Slot) :
    (s.setSlot t x).markers = s.markers := rfl

@[simp] theorem State.setSlot_followUps (s : State) (t : Tag) (x : Slot) :
    (s.setSlot t x).followUps = s.followUps := rfl

@[simp] theorem State.setSlot_mirror (s : State) (t : Tag) (x : Slot) :
    (s.setSlot t x).mirror = s.mirror := rfl

@[simp] theorem State.setSlot_cursors (s : State) (t : Tag) (x : Slot) :
    (s.setSlot t x).cursors = s.cursors := rfl

@[simp] theorem State.setSlot_msecTimer (s : State) (t : Tag) (x : Slot) :
    (s.setSlot t x).msecTimer = s.msecTimer := rfl

@[simp] theorem State.setSlot_mirrorSel (s : State) (t : Tag) (x : Slot) :
    (s.setSlot t x).mirrorSel = s.mirrorSel := rfl

@[simp] theorem State.setSlot_mirrorWindow (s : State) (t : Tag) (x : Slot) :
    (s.setSlot t x).mirrorWindow = s.mirrorWindow := rfl

@[simp] theorem State.setSlot_notices (s : State) (t : Tag) (x : Slot) :
    (s.setSlot t x).notices = s.notices := rfl

@[simp] theorem State.setSlot_reservations (s : State) (t : Tag) (x : Slot) :
    (s.setSlot t x).reservations = s.reservations := rfl

@[simp] theorem State.setSlot_dupNotices (s : State) (t : Tag) (x : Slot) :
    (s.setSlot t x).dupNotices = s.dupNotices := rfl

@[simp] theorem State.setSlot_checks (s : State) (t : Tag) (x : Slot) :
    (s.setSlot t x).checks = s.checks := rfl

@[simp] theorem State.setSlot_freeCount (s : State) (t : Tag) (x : Slot) :
    (s.setSlot t x).freeCount = s.freeCount := rfl

@[simp] theorem State.setSlot_pending (s : State) (t : Tag) (x : Slot) :
    (s.setSlot t x).pending = s.pending := rfl


/-! ## setCheck: every field but checks -/

@[simp] theorem State.setCheck_inReset (s : State) (p : Port) (c : Check) :
    (s.setCheck p c).inReset = s.inReset := rfl

@[simp] theorem State.setCheck_csnHigh (s : State) (p : Port) (c : Check) :
    (s.setCheck p c).csnHigh = s.csnHigh := rfl

@[simp] theorem State.setCheck_spi (s : State) (p : Port) (c : Check) :
    (s.setCheck p c).spi = s.spi := rfl

@[simp] theorem State.setCheck_addrCounter (s : State) (p : Port) (c : Check) :
    (s.setCheck p c).addrCounter = s.addrCounter := rfl

@[simp] theorem State.setCheck_sdoByte (s : State) (p : Port) (c : Check) :
    (s.setCheck p c).sdoByte = s.sdoByte := rfl

@[simp] theorem State.setCheck_cmd (s : State) (p : Port) (c : Check) :
    (s.setCheck p c).cmd = s.cmd := rfl

@[simp] theorem State.setCheck_cmdResult (s : State) (p : Port) (c : Check) :
    (s.setCheck p c).cmdResult = s.cmdResult := rfl

@[simp] theorem State.setCheck_params (s : State) (p : Port) (c : Check) :
    (s.setCheck p c).params = s.params := rfl

@[simp] theorem State.setCheck_replyBaseHold (s : State) (p : Port) (c : Check) :
    (s.setCheck p c).replyBaseHold = s.replyBaseHold := rfl

@[simp] theorem State.setCheck_msecHold (s : State) (p : Port) (c : Check) :
    (s.setCheck p c).msecHold = s.msecHold := rfl

@[simp] theorem State.setCheck_sticky (s : State) (p : Port) (c : Check) :
    (s.setCheck p c).sticky = s.sticky := rfl

@[simp] theorem State.setCheck_enables (s : State) (p : Port) (c : Check) :
    (s.setCheck p c).enables = s.enables := rfl

@[simp] theorem State.setCheck_ports (s : State) (p : Port) (c : Check) :
    (s.setCheck p c).ports = s.ports := rfl

@[simp] theorem State.setCheck_roster (s : State) (p : Port) (c : Check) :
    (s.setCheck p c).roster = s.roster := rfl

@[simp] theorem State.setCheck_rosterState (s : State) (p : Port) (c : Check) :
    (s.setCheck p c).rosterState = s.rosterState := rfl

@[simp] theorem State.setCheck_ringState (s : State) (p : Port) (c : Check) :
    (s.setCheck p c).ringState = s.ringState := rfl

@[simp] theorem State.setCheck_tails (s : State) (p : Port) (c : Check) :
    (s.setCheck p c).tails = s.tails := rfl

@[simp] theorem State.setCheck_exceeded (s : State) (p : Port) (c : Check) :
    (s.setCheck p c).exceeded = s.exceeded := rfl

@[simp] theorem State.setCheck_lockHeld (s : State) (p : Port) (c : Check) :
    (s.setCheck p c).lockHeld = s.lockHeld := rfl

@[simp] theorem State.setCheck_epoch (s : State) (p : Port) (c : Check) :
    (s.setCheck p c).epoch = s.epoch := rfl

@[simp] theorem State.setCheck_fingerprint (s : State) (p : Port) (c : Check) :
    (s.setCheck p c).fingerprint = s.fingerprint := rfl

@[simp] theorem State.setCheck_rosterSel (s : State) (p : Port) (c : Check) :
    (s.setCheck p c).rosterSel = s.rosterSel := rfl

@[simp] theorem State.setCheck_rosterWindow (s : State) (p : Port) (c : Check) :
    (s.setCheck p c).rosterWindow = s.rosterWindow := rfl

@[simp] theorem State.setCheck_census (s : State) (p : Port) (c : Check) :
    (s.setCheck p c).census = s.census := rfl

@[simp] theorem State.setCheck_mailbox (s : State) (p : Port) (c : Check) :
    (s.setCheck p c).mailbox = s.mailbox := rfl

@[simp] theorem State.setCheck_slots (s : State) (p : Port) (c : Check) :
    (s.setCheck p c).slots = s.slots := rfl

@[simp] theorem State.setCheck_submissionCounter (s : State) (p : Port) (c : Check) :
    (s.setCheck p c).submissionCounter = s.submissionCounter := rfl

@[simp] theorem State.setCheck_completionQueue (s : State) (p : Port) (c : Check) :
    (s.setCheck p c).completionQueue = s.completionQueue := rfl

@[simp] theorem State.setCheck_submitResult (s : State) (p : Port) (c : Check) :
    (s.setCheck p c).submitResult = s.submitResult := rfl

@[simp] theorem State.setCheck_cancelTag (s : State) (p : Port) (c : Check) :
    (s.setCheck p c).cancelTag = s.cancelTag := rfl

@[simp] theorem State.setCheck_markers (s : State) (p : Port) (c : Check) :
    (s.setCheck p c).markers = s.markers := rfl

@[simp] theorem State.setCheck_followUps (s : State) (p : Port) (c : Check) :
    (s.setCheck p c).followUps = s.followUps := rfl

@[simp] theorem State.setCheck_mirror (s : State) (p : Port) (c : Check) :
    (s.setCheck p c).mirror = s.mirror := rfl

@[simp] theorem State.setCheck_cursors (s : State) (p : Port) (c : Check) :
    (s.setCheck p c).cursors = s.cursors := rfl

@[simp] theorem State.setCheck_msecTimer (s : State) (p : Port) (c : Check) :
    (s.setCheck p c).msecTimer = s.msecTimer := rfl

@[simp] theorem State.setCheck_mirrorSel (s : State) (p : Port) (c : Check) :
    (s.setCheck p c).mirrorSel = s.mirrorSel := rfl

@[simp] theorem State.setCheck_mirrorWindow (s : State) (p : Port) (c : Check) :
    (s.setCheck p c).mirrorWindow = s.mirrorWindow := rfl

@[simp] theorem State.setCheck_notices (s : State) (p : Port) (c : Check) :
    (s.setCheck p c).notices = s.notices := rfl

@[simp] theorem State.setCheck_reservations (s : State) (p : Port) (c : Check) :
    (s.setCheck p c).reservations = s.reservations := rfl

@[simp] theorem State.setCheck_dupNotices (s : State) (p : Port) (c : Check) :
    (s.setCheck p c).dupNotices = s.dupNotices := rfl

@[simp] theorem State.setCheck_freeCount (s : State) (p : Port) (c : Check) :
    (s.setCheck p c).freeCount = s.freeCount := rfl

@[simp] theorem State.setCheck_pending (s : State) (p : Port) (c : Check) :
    (s.setCheck p c).pending = s.pending := rfl


/-! ## setEntry: every field but roster -/

@[simp] theorem State.setEntry_inReset (s : State) (a : Nat) (e : RosterEntry) :
    (s.setEntry a e).inReset = s.inReset := by unfold State.setEntry; split <;> rfl

@[simp] theorem State.setEntry_csnHigh (s : State) (a : Nat) (e : RosterEntry) :
    (s.setEntry a e).csnHigh = s.csnHigh := by unfold State.setEntry; split <;> rfl

@[simp] theorem State.setEntry_spi (s : State) (a : Nat) (e : RosterEntry) :
    (s.setEntry a e).spi = s.spi := by unfold State.setEntry; split <;> rfl

@[simp] theorem State.setEntry_addrCounter (s : State) (a : Nat) (e : RosterEntry) :
    (s.setEntry a e).addrCounter = s.addrCounter := by unfold State.setEntry; split <;> rfl

@[simp] theorem State.setEntry_sdoByte (s : State) (a : Nat) (e : RosterEntry) :
    (s.setEntry a e).sdoByte = s.sdoByte := by unfold State.setEntry; split <;> rfl

@[simp] theorem State.setEntry_cmd (s : State) (a : Nat) (e : RosterEntry) :
    (s.setEntry a e).cmd = s.cmd := by unfold State.setEntry; split <;> rfl

@[simp] theorem State.setEntry_cmdResult (s : State) (a : Nat) (e : RosterEntry) :
    (s.setEntry a e).cmdResult = s.cmdResult := by unfold State.setEntry; split <;> rfl

@[simp] theorem State.setEntry_params (s : State) (a : Nat) (e : RosterEntry) :
    (s.setEntry a e).params = s.params := by unfold State.setEntry; split <;> rfl

@[simp] theorem State.setEntry_replyBaseHold (s : State) (a : Nat) (e : RosterEntry) :
    (s.setEntry a e).replyBaseHold = s.replyBaseHold := by unfold State.setEntry; split <;> rfl

@[simp] theorem State.setEntry_msecHold (s : State) (a : Nat) (e : RosterEntry) :
    (s.setEntry a e).msecHold = s.msecHold := by unfold State.setEntry; split <;> rfl

@[simp] theorem State.setEntry_sticky (s : State) (a : Nat) (e : RosterEntry) :
    (s.setEntry a e).sticky = s.sticky := by unfold State.setEntry; split <;> rfl

@[simp] theorem State.setEntry_enables (s : State) (a : Nat) (e : RosterEntry) :
    (s.setEntry a e).enables = s.enables := by unfold State.setEntry; split <;> rfl

@[simp] theorem State.setEntry_ports (s : State) (a : Nat) (e : RosterEntry) :
    (s.setEntry a e).ports = s.ports := by unfold State.setEntry; split <;> rfl

@[simp] theorem State.setEntry_rosterState (s : State) (a : Nat) (e : RosterEntry) :
    (s.setEntry a e).rosterState = s.rosterState := by unfold State.setEntry; split <;> rfl

@[simp] theorem State.setEntry_ringState (s : State) (a : Nat) (e : RosterEntry) :
    (s.setEntry a e).ringState = s.ringState := by unfold State.setEntry; split <;> rfl

@[simp] theorem State.setEntry_tails (s : State) (a : Nat) (e : RosterEntry) :
    (s.setEntry a e).tails = s.tails := by unfold State.setEntry; split <;> rfl

@[simp] theorem State.setEntry_exceeded (s : State) (a : Nat) (e : RosterEntry) :
    (s.setEntry a e).exceeded = s.exceeded := by unfold State.setEntry; split <;> rfl

@[simp] theorem State.setEntry_lockHeld (s : State) (a : Nat) (e : RosterEntry) :
    (s.setEntry a e).lockHeld = s.lockHeld := by unfold State.setEntry; split <;> rfl

@[simp] theorem State.setEntry_epoch (s : State) (a : Nat) (e : RosterEntry) :
    (s.setEntry a e).epoch = s.epoch := by unfold State.setEntry; split <;> rfl

@[simp] theorem State.setEntry_fingerprint (s : State) (a : Nat) (e : RosterEntry) :
    (s.setEntry a e).fingerprint = s.fingerprint := by unfold State.setEntry; split <;> rfl

@[simp] theorem State.setEntry_rosterSel (s : State) (a : Nat) (e : RosterEntry) :
    (s.setEntry a e).rosterSel = s.rosterSel := by unfold State.setEntry; split <;> rfl

@[simp] theorem State.setEntry_rosterWindow (s : State) (a : Nat) (e : RosterEntry) :
    (s.setEntry a e).rosterWindow = s.rosterWindow := by unfold State.setEntry; split <;> rfl

@[simp] theorem State.setEntry_census (s : State) (a : Nat) (e : RosterEntry) :
    (s.setEntry a e).census = s.census := by unfold State.setEntry; split <;> rfl

@[simp] theorem State.setEntry_mailbox (s : State) (a : Nat) (e : RosterEntry) :
    (s.setEntry a e).mailbox = s.mailbox := by unfold State.setEntry; split <;> rfl

@[simp] theorem State.setEntry_slots (s : State) (a : Nat) (e : RosterEntry) :
    (s.setEntry a e).slots = s.slots := by unfold State.setEntry; split <;> rfl

@[simp] theorem State.setEntry_submissionCounter (s : State) (a : Nat) (e : RosterEntry) :
    (s.setEntry a e).submissionCounter = s.submissionCounter := by unfold State.setEntry; split <;> rfl

@[simp] theorem State.setEntry_completionQueue (s : State) (a : Nat) (e : RosterEntry) :
    (s.setEntry a e).completionQueue = s.completionQueue := by unfold State.setEntry; split <;> rfl

@[simp] theorem State.setEntry_submitResult (s : State) (a : Nat) (e : RosterEntry) :
    (s.setEntry a e).submitResult = s.submitResult := by unfold State.setEntry; split <;> rfl

@[simp] theorem State.setEntry_cancelTag (s : State) (a : Nat) (e : RosterEntry) :
    (s.setEntry a e).cancelTag = s.cancelTag := by unfold State.setEntry; split <;> rfl

@[simp] theorem State.setEntry_markers (s : State) (a : Nat) (e : RosterEntry) :
    (s.setEntry a e).markers = s.markers := by unfold State.setEntry; split <;> rfl

@[simp] theorem State.setEntry_followUps (s : State) (a : Nat) (e : RosterEntry) :
    (s.setEntry a e).followUps = s.followUps := by unfold State.setEntry; split <;> rfl

@[simp] theorem State.setEntry_mirror (s : State) (a : Nat) (e : RosterEntry) :
    (s.setEntry a e).mirror = s.mirror := by unfold State.setEntry; split <;> rfl

@[simp] theorem State.setEntry_cursors (s : State) (a : Nat) (e : RosterEntry) :
    (s.setEntry a e).cursors = s.cursors := by unfold State.setEntry; split <;> rfl

@[simp] theorem State.setEntry_msecTimer (s : State) (a : Nat) (e : RosterEntry) :
    (s.setEntry a e).msecTimer = s.msecTimer := by unfold State.setEntry; split <;> rfl

@[simp] theorem State.setEntry_mirrorSel (s : State) (a : Nat) (e : RosterEntry) :
    (s.setEntry a e).mirrorSel = s.mirrorSel := by unfold State.setEntry; split <;> rfl

@[simp] theorem State.setEntry_mirrorWindow (s : State) (a : Nat) (e : RosterEntry) :
    (s.setEntry a e).mirrorWindow = s.mirrorWindow := by unfold State.setEntry; split <;> rfl

@[simp] theorem State.setEntry_notices (s : State) (a : Nat) (e : RosterEntry) :
    (s.setEntry a e).notices = s.notices := by unfold State.setEntry; split <;> rfl

@[simp] theorem State.setEntry_reservations (s : State) (a : Nat) (e : RosterEntry) :
    (s.setEntry a e).reservations = s.reservations := by unfold State.setEntry; split <;> rfl

@[simp] theorem State.setEntry_dupNotices (s : State) (a : Nat) (e : RosterEntry) :
    (s.setEntry a e).dupNotices = s.dupNotices := by unfold State.setEntry; split <;> rfl

@[simp] theorem State.setEntry_checks (s : State) (a : Nat) (e : RosterEntry) :
    (s.setEntry a e).checks = s.checks := by unfold State.setEntry; split <;> rfl

@[simp] theorem State.setEntry_freeCount (s : State) (a : Nat) (e : RosterEntry) :
    (s.setEntry a e).freeCount = s.freeCount := by unfold State.setEntry; split <;> rfl

@[simp] theorem State.setEntry_pending (s : State) (a : Nat) (e : RosterEntry) :
    (s.setEntry a e).pending = s.pending := by unfold State.setEntry; split <;> rfl


/-! ## setStatus: every field but mirror -/

@[simp] theorem State.setStatus_inReset (s : State) (a : Nat) (m : MirrorEntry) :
    (s.setStatus a m).inReset = s.inReset := by unfold State.setStatus; split <;> rfl

@[simp] theorem State.setStatus_csnHigh (s : State) (a : Nat) (m : MirrorEntry) :
    (s.setStatus a m).csnHigh = s.csnHigh := by unfold State.setStatus; split <;> rfl

@[simp] theorem State.setStatus_spi (s : State) (a : Nat) (m : MirrorEntry) :
    (s.setStatus a m).spi = s.spi := by unfold State.setStatus; split <;> rfl

@[simp] theorem State.setStatus_addrCounter (s : State) (a : Nat) (m : MirrorEntry) :
    (s.setStatus a m).addrCounter = s.addrCounter := by unfold State.setStatus; split <;> rfl

@[simp] theorem State.setStatus_sdoByte (s : State) (a : Nat) (m : MirrorEntry) :
    (s.setStatus a m).sdoByte = s.sdoByte := by unfold State.setStatus; split <;> rfl

@[simp] theorem State.setStatus_cmd (s : State) (a : Nat) (m : MirrorEntry) :
    (s.setStatus a m).cmd = s.cmd := by unfold State.setStatus; split <;> rfl

@[simp] theorem State.setStatus_cmdResult (s : State) (a : Nat) (m : MirrorEntry) :
    (s.setStatus a m).cmdResult = s.cmdResult := by unfold State.setStatus; split <;> rfl

@[simp] theorem State.setStatus_params (s : State) (a : Nat) (m : MirrorEntry) :
    (s.setStatus a m).params = s.params := by unfold State.setStatus; split <;> rfl

@[simp] theorem State.setStatus_replyBaseHold (s : State) (a : Nat) (m : MirrorEntry) :
    (s.setStatus a m).replyBaseHold = s.replyBaseHold := by unfold State.setStatus; split <;> rfl

@[simp] theorem State.setStatus_msecHold (s : State) (a : Nat) (m : MirrorEntry) :
    (s.setStatus a m).msecHold = s.msecHold := by unfold State.setStatus; split <;> rfl

@[simp] theorem State.setStatus_sticky (s : State) (a : Nat) (m : MirrorEntry) :
    (s.setStatus a m).sticky = s.sticky := by unfold State.setStatus; split <;> rfl

@[simp] theorem State.setStatus_enables (s : State) (a : Nat) (m : MirrorEntry) :
    (s.setStatus a m).enables = s.enables := by unfold State.setStatus; split <;> rfl

@[simp] theorem State.setStatus_ports (s : State) (a : Nat) (m : MirrorEntry) :
    (s.setStatus a m).ports = s.ports := by unfold State.setStatus; split <;> rfl

@[simp] theorem State.setStatus_roster (s : State) (a : Nat) (m : MirrorEntry) :
    (s.setStatus a m).roster = s.roster := by unfold State.setStatus; split <;> rfl

@[simp] theorem State.setStatus_rosterState (s : State) (a : Nat) (m : MirrorEntry) :
    (s.setStatus a m).rosterState = s.rosterState := by unfold State.setStatus; split <;> rfl

@[simp] theorem State.setStatus_ringState (s : State) (a : Nat) (m : MirrorEntry) :
    (s.setStatus a m).ringState = s.ringState := by unfold State.setStatus; split <;> rfl

@[simp] theorem State.setStatus_tails (s : State) (a : Nat) (m : MirrorEntry) :
    (s.setStatus a m).tails = s.tails := by unfold State.setStatus; split <;> rfl

@[simp] theorem State.setStatus_exceeded (s : State) (a : Nat) (m : MirrorEntry) :
    (s.setStatus a m).exceeded = s.exceeded := by unfold State.setStatus; split <;> rfl

@[simp] theorem State.setStatus_lockHeld (s : State) (a : Nat) (m : MirrorEntry) :
    (s.setStatus a m).lockHeld = s.lockHeld := by unfold State.setStatus; split <;> rfl

@[simp] theorem State.setStatus_epoch (s : State) (a : Nat) (m : MirrorEntry) :
    (s.setStatus a m).epoch = s.epoch := by unfold State.setStatus; split <;> rfl

@[simp] theorem State.setStatus_fingerprint (s : State) (a : Nat) (m : MirrorEntry) :
    (s.setStatus a m).fingerprint = s.fingerprint := by unfold State.setStatus; split <;> rfl

@[simp] theorem State.setStatus_rosterSel (s : State) (a : Nat) (m : MirrorEntry) :
    (s.setStatus a m).rosterSel = s.rosterSel := by unfold State.setStatus; split <;> rfl

@[simp] theorem State.setStatus_rosterWindow (s : State) (a : Nat) (m : MirrorEntry) :
    (s.setStatus a m).rosterWindow = s.rosterWindow := by unfold State.setStatus; split <;> rfl

@[simp] theorem State.setStatus_census (s : State) (a : Nat) (m : MirrorEntry) :
    (s.setStatus a m).census = s.census := by unfold State.setStatus; split <;> rfl

@[simp] theorem State.setStatus_mailbox (s : State) (a : Nat) (m : MirrorEntry) :
    (s.setStatus a m).mailbox = s.mailbox := by unfold State.setStatus; split <;> rfl

@[simp] theorem State.setStatus_slots (s : State) (a : Nat) (m : MirrorEntry) :
    (s.setStatus a m).slots = s.slots := by unfold State.setStatus; split <;> rfl

@[simp] theorem State.setStatus_submissionCounter (s : State) (a : Nat) (m : MirrorEntry) :
    (s.setStatus a m).submissionCounter = s.submissionCounter := by unfold State.setStatus; split <;> rfl

@[simp] theorem State.setStatus_completionQueue (s : State) (a : Nat) (m : MirrorEntry) :
    (s.setStatus a m).completionQueue = s.completionQueue := by unfold State.setStatus; split <;> rfl

@[simp] theorem State.setStatus_submitResult (s : State) (a : Nat) (m : MirrorEntry) :
    (s.setStatus a m).submitResult = s.submitResult := by unfold State.setStatus; split <;> rfl

@[simp] theorem State.setStatus_cancelTag (s : State) (a : Nat) (m : MirrorEntry) :
    (s.setStatus a m).cancelTag = s.cancelTag := by unfold State.setStatus; split <;> rfl

@[simp] theorem State.setStatus_markers (s : State) (a : Nat) (m : MirrorEntry) :
    (s.setStatus a m).markers = s.markers := by unfold State.setStatus; split <;> rfl

@[simp] theorem State.setStatus_followUps (s : State) (a : Nat) (m : MirrorEntry) :
    (s.setStatus a m).followUps = s.followUps := by unfold State.setStatus; split <;> rfl

@[simp] theorem State.setStatus_cursors (s : State) (a : Nat) (m : MirrorEntry) :
    (s.setStatus a m).cursors = s.cursors := by unfold State.setStatus; split <;> rfl

@[simp] theorem State.setStatus_msecTimer (s : State) (a : Nat) (m : MirrorEntry) :
    (s.setStatus a m).msecTimer = s.msecTimer := by unfold State.setStatus; split <;> rfl

@[simp] theorem State.setStatus_mirrorSel (s : State) (a : Nat) (m : MirrorEntry) :
    (s.setStatus a m).mirrorSel = s.mirrorSel := by unfold State.setStatus; split <;> rfl

@[simp] theorem State.setStatus_mirrorWindow (s : State) (a : Nat) (m : MirrorEntry) :
    (s.setStatus a m).mirrorWindow = s.mirrorWindow := by unfold State.setStatus; split <;> rfl

@[simp] theorem State.setStatus_notices (s : State) (a : Nat) (m : MirrorEntry) :
    (s.setStatus a m).notices = s.notices := by unfold State.setStatus; split <;> rfl

@[simp] theorem State.setStatus_reservations (s : State) (a : Nat) (m : MirrorEntry) :
    (s.setStatus a m).reservations = s.reservations := by unfold State.setStatus; split <;> rfl

@[simp] theorem State.setStatus_dupNotices (s : State) (a : Nat) (m : MirrorEntry) :
    (s.setStatus a m).dupNotices = s.dupNotices := by unfold State.setStatus; split <;> rfl

@[simp] theorem State.setStatus_checks (s : State) (a : Nat) (m : MirrorEntry) :
    (s.setStatus a m).checks = s.checks := by unfold State.setStatus; split <;> rfl

@[simp] theorem State.setStatus_freeCount (s : State) (a : Nat) (m : MirrorEntry) :
    (s.setStatus a m).freeCount = s.freeCount := by unfold State.setStatus; split <;> rfl

@[simp] theorem State.setStatus_pending (s : State) (a : Nat) (m : MirrorEntry) :
    (s.setStatus a m).pending = s.pending := by unfold State.setStatus; split <;> rfl


/-! ## raising a sticky cause: every field but sticky -/

@[simp] theorem State.raiseNoticeBacklog_inReset (s : State) : s.raiseNoticeBacklog.inReset = s.inReset := rfl

@[simp] theorem State.raiseNoticeBacklog_csnHigh (s : State) : s.raiseNoticeBacklog.csnHigh = s.csnHigh := rfl

@[simp] theorem State.raiseNoticeBacklog_spi (s : State) : s.raiseNoticeBacklog.spi = s.spi := rfl

@[simp] theorem State.raiseNoticeBacklog_addrCounter (s : State) : s.raiseNoticeBacklog.addrCounter = s.addrCounter := rfl

@[simp] theorem State.raiseNoticeBacklog_sdoByte (s : State) : s.raiseNoticeBacklog.sdoByte = s.sdoByte := rfl

@[simp] theorem State.raiseNoticeBacklog_cmd (s : State) : s.raiseNoticeBacklog.cmd = s.cmd := rfl

@[simp] theorem State.raiseNoticeBacklog_cmdResult (s : State) : s.raiseNoticeBacklog.cmdResult = s.cmdResult := rfl

@[simp] theorem State.raiseNoticeBacklog_params (s : State) : s.raiseNoticeBacklog.params = s.params := rfl

@[simp] theorem State.raiseNoticeBacklog_replyBaseHold (s : State) : s.raiseNoticeBacklog.replyBaseHold = s.replyBaseHold := rfl

@[simp] theorem State.raiseNoticeBacklog_msecHold (s : State) : s.raiseNoticeBacklog.msecHold = s.msecHold := rfl

@[simp] theorem State.raiseNoticeBacklog_enables (s : State) : s.raiseNoticeBacklog.enables = s.enables := rfl

@[simp] theorem State.raiseNoticeBacklog_ports (s : State) : s.raiseNoticeBacklog.ports = s.ports := rfl

@[simp] theorem State.raiseNoticeBacklog_roster (s : State) : s.raiseNoticeBacklog.roster = s.roster := rfl

@[simp] theorem State.raiseNoticeBacklog_rosterState (s : State) : s.raiseNoticeBacklog.rosterState = s.rosterState := rfl

@[simp] theorem State.raiseNoticeBacklog_ringState (s : State) : s.raiseNoticeBacklog.ringState = s.ringState := rfl

@[simp] theorem State.raiseNoticeBacklog_tails (s : State) : s.raiseNoticeBacklog.tails = s.tails := rfl

@[simp] theorem State.raiseNoticeBacklog_exceeded (s : State) : s.raiseNoticeBacklog.exceeded = s.exceeded := rfl

@[simp] theorem State.raiseNoticeBacklog_lockHeld (s : State) : s.raiseNoticeBacklog.lockHeld = s.lockHeld := rfl

@[simp] theorem State.raiseNoticeBacklog_epoch (s : State) : s.raiseNoticeBacklog.epoch = s.epoch := rfl

@[simp] theorem State.raiseNoticeBacklog_fingerprint (s : State) : s.raiseNoticeBacklog.fingerprint = s.fingerprint := rfl

@[simp] theorem State.raiseNoticeBacklog_rosterSel (s : State) : s.raiseNoticeBacklog.rosterSel = s.rosterSel := rfl

@[simp] theorem State.raiseNoticeBacklog_rosterWindow (s : State) : s.raiseNoticeBacklog.rosterWindow = s.rosterWindow := rfl

@[simp] theorem State.raiseNoticeBacklog_census (s : State) : s.raiseNoticeBacklog.census = s.census := rfl

@[simp] theorem State.raiseNoticeBacklog_mailbox (s : State) : s.raiseNoticeBacklog.mailbox = s.mailbox := rfl

@[simp] theorem State.raiseNoticeBacklog_slots (s : State) : s.raiseNoticeBacklog.slots = s.slots := rfl

@[simp] theorem State.raiseNoticeBacklog_submissionCounter (s : State) : s.raiseNoticeBacklog.submissionCounter = s.submissionCounter := rfl

@[simp] theorem State.raiseNoticeBacklog_completionQueue (s : State) : s.raiseNoticeBacklog.completionQueue = s.completionQueue := rfl

@[simp] theorem State.raiseNoticeBacklog_submitResult (s : State) : s.raiseNoticeBacklog.submitResult = s.submitResult := rfl

@[simp] theorem State.raiseNoticeBacklog_cancelTag (s : State) : s.raiseNoticeBacklog.cancelTag = s.cancelTag := rfl

@[simp] theorem State.raiseNoticeBacklog_markers (s : State) : s.raiseNoticeBacklog.markers = s.markers := rfl

@[simp] theorem State.raiseNoticeBacklog_followUps (s : State) : s.raiseNoticeBacklog.followUps = s.followUps := rfl

@[simp] theorem State.raiseNoticeBacklog_mirror (s : State) : s.raiseNoticeBacklog.mirror = s.mirror := rfl

@[simp] theorem State.raiseNoticeBacklog_cursors (s : State) : s.raiseNoticeBacklog.cursors = s.cursors := rfl

@[simp] theorem State.raiseNoticeBacklog_msecTimer (s : State) : s.raiseNoticeBacklog.msecTimer = s.msecTimer := rfl

@[simp] theorem State.raiseNoticeBacklog_mirrorSel (s : State) : s.raiseNoticeBacklog.mirrorSel = s.mirrorSel := rfl

@[simp] theorem State.raiseNoticeBacklog_mirrorWindow (s : State) : s.raiseNoticeBacklog.mirrorWindow = s.mirrorWindow := rfl

@[simp] theorem State.raiseNoticeBacklog_notices (s : State) : s.raiseNoticeBacklog.notices = s.notices := rfl

@[simp] theorem State.raiseNoticeBacklog_reservations (s : State) : s.raiseNoticeBacklog.reservations = s.reservations := rfl

@[simp] theorem State.raiseNoticeBacklog_dupNotices (s : State) : s.raiseNoticeBacklog.dupNotices = s.dupNotices := rfl

@[simp] theorem State.raiseNoticeBacklog_checks (s : State) : s.raiseNoticeBacklog.checks = s.checks := rfl

@[simp] theorem State.raiseNoticeBacklog_freeCount (s : State) : s.raiseNoticeBacklog.freeCount = s.freeCount := rfl

@[simp] theorem State.raiseNoticeBacklog_pending (s : State) : s.raiseNoticeBacklog.pending = s.pending := rfl

@[simp] theorem State.raiseModuleStale_inReset (s : State) : s.raiseModuleStale.inReset = s.inReset := rfl

@[simp] theorem State.raiseModuleStale_csnHigh (s : State) : s.raiseModuleStale.csnHigh = s.csnHigh := rfl

@[simp] theorem State.raiseModuleStale_spi (s : State) : s.raiseModuleStale.spi = s.spi := rfl

@[simp] theorem State.raiseModuleStale_addrCounter (s : State) : s.raiseModuleStale.addrCounter = s.addrCounter := rfl

@[simp] theorem State.raiseModuleStale_sdoByte (s : State) : s.raiseModuleStale.sdoByte = s.sdoByte := rfl

@[simp] theorem State.raiseModuleStale_cmd (s : State) : s.raiseModuleStale.cmd = s.cmd := rfl

@[simp] theorem State.raiseModuleStale_cmdResult (s : State) : s.raiseModuleStale.cmdResult = s.cmdResult := rfl

@[simp] theorem State.raiseModuleStale_params (s : State) : s.raiseModuleStale.params = s.params := rfl

@[simp] theorem State.raiseModuleStale_replyBaseHold (s : State) : s.raiseModuleStale.replyBaseHold = s.replyBaseHold := rfl

@[simp] theorem State.raiseModuleStale_msecHold (s : State) : s.raiseModuleStale.msecHold = s.msecHold := rfl

@[simp] theorem State.raiseModuleStale_enables (s : State) : s.raiseModuleStale.enables = s.enables := rfl

@[simp] theorem State.raiseModuleStale_ports (s : State) : s.raiseModuleStale.ports = s.ports := rfl

@[simp] theorem State.raiseModuleStale_roster (s : State) : s.raiseModuleStale.roster = s.roster := rfl

@[simp] theorem State.raiseModuleStale_rosterState (s : State) : s.raiseModuleStale.rosterState = s.rosterState := rfl

@[simp] theorem State.raiseModuleStale_ringState (s : State) : s.raiseModuleStale.ringState = s.ringState := rfl

@[simp] theorem State.raiseModuleStale_tails (s : State) : s.raiseModuleStale.tails = s.tails := rfl

@[simp] theorem State.raiseModuleStale_exceeded (s : State) : s.raiseModuleStale.exceeded = s.exceeded := rfl

@[simp] theorem State.raiseModuleStale_lockHeld (s : State) : s.raiseModuleStale.lockHeld = s.lockHeld := rfl

@[simp] theorem State.raiseModuleStale_epoch (s : State) : s.raiseModuleStale.epoch = s.epoch := rfl

@[simp] theorem State.raiseModuleStale_fingerprint (s : State) : s.raiseModuleStale.fingerprint = s.fingerprint := rfl

@[simp] theorem State.raiseModuleStale_rosterSel (s : State) : s.raiseModuleStale.rosterSel = s.rosterSel := rfl

@[simp] theorem State.raiseModuleStale_rosterWindow (s : State) : s.raiseModuleStale.rosterWindow = s.rosterWindow := rfl

@[simp] theorem State.raiseModuleStale_census (s : State) : s.raiseModuleStale.census = s.census := rfl

@[simp] theorem State.raiseModuleStale_mailbox (s : State) : s.raiseModuleStale.mailbox = s.mailbox := rfl

@[simp] theorem State.raiseModuleStale_slots (s : State) : s.raiseModuleStale.slots = s.slots := rfl

@[simp] theorem State.raiseModuleStale_submissionCounter (s : State) : s.raiseModuleStale.submissionCounter = s.submissionCounter := rfl

@[simp] theorem State.raiseModuleStale_completionQueue (s : State) : s.raiseModuleStale.completionQueue = s.completionQueue := rfl

@[simp] theorem State.raiseModuleStale_submitResult (s : State) : s.raiseModuleStale.submitResult = s.submitResult := rfl

@[simp] theorem State.raiseModuleStale_cancelTag (s : State) : s.raiseModuleStale.cancelTag = s.cancelTag := rfl

@[simp] theorem State.raiseModuleStale_markers (s : State) : s.raiseModuleStale.markers = s.markers := rfl

@[simp] theorem State.raiseModuleStale_followUps (s : State) : s.raiseModuleStale.followUps = s.followUps := rfl

@[simp] theorem State.raiseModuleStale_mirror (s : State) : s.raiseModuleStale.mirror = s.mirror := rfl

@[simp] theorem State.raiseModuleStale_cursors (s : State) : s.raiseModuleStale.cursors = s.cursors := rfl

@[simp] theorem State.raiseModuleStale_msecTimer (s : State) : s.raiseModuleStale.msecTimer = s.msecTimer := rfl

@[simp] theorem State.raiseModuleStale_mirrorSel (s : State) : s.raiseModuleStale.mirrorSel = s.mirrorSel := rfl

@[simp] theorem State.raiseModuleStale_mirrorWindow (s : State) : s.raiseModuleStale.mirrorWindow = s.mirrorWindow := rfl

@[simp] theorem State.raiseModuleStale_notices (s : State) : s.raiseModuleStale.notices = s.notices := rfl

@[simp] theorem State.raiseModuleStale_reservations (s : State) : s.raiseModuleStale.reservations = s.reservations := rfl

@[simp] theorem State.raiseModuleStale_dupNotices (s : State) : s.raiseModuleStale.dupNotices = s.dupNotices := rfl

@[simp] theorem State.raiseModuleStale_checks (s : State) : s.raiseModuleStale.checks = s.checks := rfl

@[simp] theorem State.raiseModuleStale_freeCount (s : State) : s.raiseModuleStale.freeCount = s.freeCount := rfl

@[simp] theorem State.raiseModuleStale_pending (s : State) : s.raiseModuleStale.pending = s.pending := rfl

@[simp] theorem State.raisePortChange_inReset (s : State) : s.raisePortChange.inReset = s.inReset := rfl

@[simp] theorem State.raisePortChange_csnHigh (s : State) : s.raisePortChange.csnHigh = s.csnHigh := rfl

@[simp] theorem State.raisePortChange_spi (s : State) : s.raisePortChange.spi = s.spi := rfl

@[simp] theorem State.raisePortChange_addrCounter (s : State) : s.raisePortChange.addrCounter = s.addrCounter := rfl

@[simp] theorem State.raisePortChange_sdoByte (s : State) : s.raisePortChange.sdoByte = s.sdoByte := rfl

@[simp] theorem State.raisePortChange_cmd (s : State) : s.raisePortChange.cmd = s.cmd := rfl

@[simp] theorem State.raisePortChange_cmdResult (s : State) : s.raisePortChange.cmdResult = s.cmdResult := rfl

@[simp] theorem State.raisePortChange_params (s : State) : s.raisePortChange.params = s.params := rfl

@[simp] theorem State.raisePortChange_replyBaseHold (s : State) : s.raisePortChange.replyBaseHold = s.replyBaseHold := rfl

@[simp] theorem State.raisePortChange_msecHold (s : State) : s.raisePortChange.msecHold = s.msecHold := rfl

@[simp] theorem State.raisePortChange_enables (s : State) : s.raisePortChange.enables = s.enables := rfl

@[simp] theorem State.raisePortChange_ports (s : State) : s.raisePortChange.ports = s.ports := rfl

@[simp] theorem State.raisePortChange_roster (s : State) : s.raisePortChange.roster = s.roster := rfl

@[simp] theorem State.raisePortChange_rosterState (s : State) : s.raisePortChange.rosterState = s.rosterState := rfl

@[simp] theorem State.raisePortChange_ringState (s : State) : s.raisePortChange.ringState = s.ringState := rfl

@[simp] theorem State.raisePortChange_tails (s : State) : s.raisePortChange.tails = s.tails := rfl

@[simp] theorem State.raisePortChange_exceeded (s : State) : s.raisePortChange.exceeded = s.exceeded := rfl

@[simp] theorem State.raisePortChange_lockHeld (s : State) : s.raisePortChange.lockHeld = s.lockHeld := rfl

@[simp] theorem State.raisePortChange_epoch (s : State) : s.raisePortChange.epoch = s.epoch := rfl

@[simp] theorem State.raisePortChange_fingerprint (s : State) : s.raisePortChange.fingerprint = s.fingerprint := rfl

@[simp] theorem State.raisePortChange_rosterSel (s : State) : s.raisePortChange.rosterSel = s.rosterSel := rfl

@[simp] theorem State.raisePortChange_rosterWindow (s : State) : s.raisePortChange.rosterWindow = s.rosterWindow := rfl

@[simp] theorem State.raisePortChange_census (s : State) : s.raisePortChange.census = s.census := rfl

@[simp] theorem State.raisePortChange_mailbox (s : State) : s.raisePortChange.mailbox = s.mailbox := rfl

@[simp] theorem State.raisePortChange_slots (s : State) : s.raisePortChange.slots = s.slots := rfl

@[simp] theorem State.raisePortChange_submissionCounter (s : State) : s.raisePortChange.submissionCounter = s.submissionCounter := rfl

@[simp] theorem State.raisePortChange_completionQueue (s : State) : s.raisePortChange.completionQueue = s.completionQueue := rfl

@[simp] theorem State.raisePortChange_submitResult (s : State) : s.raisePortChange.submitResult = s.submitResult := rfl

@[simp] theorem State.raisePortChange_cancelTag (s : State) : s.raisePortChange.cancelTag = s.cancelTag := rfl

@[simp] theorem State.raisePortChange_markers (s : State) : s.raisePortChange.markers = s.markers := rfl

@[simp] theorem State.raisePortChange_followUps (s : State) : s.raisePortChange.followUps = s.followUps := rfl

@[simp] theorem State.raisePortChange_mirror (s : State) : s.raisePortChange.mirror = s.mirror := rfl

@[simp] theorem State.raisePortChange_cursors (s : State) : s.raisePortChange.cursors = s.cursors := rfl

@[simp] theorem State.raisePortChange_msecTimer (s : State) : s.raisePortChange.msecTimer = s.msecTimer := rfl

@[simp] theorem State.raisePortChange_mirrorSel (s : State) : s.raisePortChange.mirrorSel = s.mirrorSel := rfl

@[simp] theorem State.raisePortChange_mirrorWindow (s : State) : s.raisePortChange.mirrorWindow = s.mirrorWindow := rfl

@[simp] theorem State.raisePortChange_notices (s : State) : s.raisePortChange.notices = s.notices := rfl

@[simp] theorem State.raisePortChange_reservations (s : State) : s.raisePortChange.reservations = s.reservations := rfl

@[simp] theorem State.raisePortChange_dupNotices (s : State) : s.raisePortChange.dupNotices = s.dupNotices := rfl

@[simp] theorem State.raisePortChange_checks (s : State) : s.raisePortChange.checks = s.checks := rfl

@[simp] theorem State.raisePortChange_freeCount (s : State) : s.raisePortChange.freeCount = s.freeCount := rfl

@[simp] theorem State.raisePortChange_pending (s : State) : s.raisePortChange.pending = s.pending := rfl

@[simp] theorem State.raiseReachDone_inReset (s : State) : s.raiseReachDone.inReset = s.inReset := rfl

@[simp] theorem State.raiseReachDone_csnHigh (s : State) : s.raiseReachDone.csnHigh = s.csnHigh := rfl

@[simp] theorem State.raiseReachDone_spi (s : State) : s.raiseReachDone.spi = s.spi := rfl

@[simp] theorem State.raiseReachDone_addrCounter (s : State) : s.raiseReachDone.addrCounter = s.addrCounter := rfl

@[simp] theorem State.raiseReachDone_sdoByte (s : State) : s.raiseReachDone.sdoByte = s.sdoByte := rfl

@[simp] theorem State.raiseReachDone_cmd (s : State) : s.raiseReachDone.cmd = s.cmd := rfl

@[simp] theorem State.raiseReachDone_cmdResult (s : State) : s.raiseReachDone.cmdResult = s.cmdResult := rfl

@[simp] theorem State.raiseReachDone_params (s : State) : s.raiseReachDone.params = s.params := rfl

@[simp] theorem State.raiseReachDone_replyBaseHold (s : State) : s.raiseReachDone.replyBaseHold = s.replyBaseHold := rfl

@[simp] theorem State.raiseReachDone_msecHold (s : State) : s.raiseReachDone.msecHold = s.msecHold := rfl

@[simp] theorem State.raiseReachDone_enables (s : State) : s.raiseReachDone.enables = s.enables := rfl

@[simp] theorem State.raiseReachDone_ports (s : State) : s.raiseReachDone.ports = s.ports := rfl

@[simp] theorem State.raiseReachDone_roster (s : State) : s.raiseReachDone.roster = s.roster := rfl

@[simp] theorem State.raiseReachDone_rosterState (s : State) : s.raiseReachDone.rosterState = s.rosterState := rfl

@[simp] theorem State.raiseReachDone_ringState (s : State) : s.raiseReachDone.ringState = s.ringState := rfl

@[simp] theorem State.raiseReachDone_tails (s : State) : s.raiseReachDone.tails = s.tails := rfl

@[simp] theorem State.raiseReachDone_exceeded (s : State) : s.raiseReachDone.exceeded = s.exceeded := rfl

@[simp] theorem State.raiseReachDone_lockHeld (s : State) : s.raiseReachDone.lockHeld = s.lockHeld := rfl

@[simp] theorem State.raiseReachDone_epoch (s : State) : s.raiseReachDone.epoch = s.epoch := rfl

@[simp] theorem State.raiseReachDone_fingerprint (s : State) : s.raiseReachDone.fingerprint = s.fingerprint := rfl

@[simp] theorem State.raiseReachDone_rosterSel (s : State) : s.raiseReachDone.rosterSel = s.rosterSel := rfl

@[simp] theorem State.raiseReachDone_rosterWindow (s : State) : s.raiseReachDone.rosterWindow = s.rosterWindow := rfl

@[simp] theorem State.raiseReachDone_census (s : State) : s.raiseReachDone.census = s.census := rfl

@[simp] theorem State.raiseReachDone_mailbox (s : State) : s.raiseReachDone.mailbox = s.mailbox := rfl

@[simp] theorem State.raiseReachDone_slots (s : State) : s.raiseReachDone.slots = s.slots := rfl

@[simp] theorem State.raiseReachDone_submissionCounter (s : State) : s.raiseReachDone.submissionCounter = s.submissionCounter := rfl

@[simp] theorem State.raiseReachDone_completionQueue (s : State) : s.raiseReachDone.completionQueue = s.completionQueue := rfl

@[simp] theorem State.raiseReachDone_submitResult (s : State) : s.raiseReachDone.submitResult = s.submitResult := rfl

@[simp] theorem State.raiseReachDone_cancelTag (s : State) : s.raiseReachDone.cancelTag = s.cancelTag := rfl

@[simp] theorem State.raiseReachDone_markers (s : State) : s.raiseReachDone.markers = s.markers := rfl

@[simp] theorem State.raiseReachDone_followUps (s : State) : s.raiseReachDone.followUps = s.followUps := rfl

@[simp] theorem State.raiseReachDone_mirror (s : State) : s.raiseReachDone.mirror = s.mirror := rfl

@[simp] theorem State.raiseReachDone_cursors (s : State) : s.raiseReachDone.cursors = s.cursors := rfl

@[simp] theorem State.raiseReachDone_msecTimer (s : State) : s.raiseReachDone.msecTimer = s.msecTimer := rfl

@[simp] theorem State.raiseReachDone_mirrorSel (s : State) : s.raiseReachDone.mirrorSel = s.mirrorSel := rfl

@[simp] theorem State.raiseReachDone_mirrorWindow (s : State) : s.raiseReachDone.mirrorWindow = s.mirrorWindow := rfl

@[simp] theorem State.raiseReachDone_notices (s : State) : s.raiseReachDone.notices = s.notices := rfl

@[simp] theorem State.raiseReachDone_reservations (s : State) : s.raiseReachDone.reservations = s.reservations := rfl

@[simp] theorem State.raiseReachDone_dupNotices (s : State) : s.raiseReachDone.dupNotices = s.dupNotices := rfl

@[simp] theorem State.raiseReachDone_checks (s : State) : s.raiseReachDone.checks = s.checks := rfl

@[simp] theorem State.raiseReachDone_freeCount (s : State) : s.raiseReachDone.freeCount = s.freeCount := rfl

@[simp] theorem State.raiseReachDone_pending (s : State) : s.raiseReachDone.pending = s.pending := rfl

@[simp] theorem State.raiseModuleLost_inReset (s : State) : s.raiseModuleLost.inReset = s.inReset := rfl

@[simp] theorem State.raiseModuleLost_csnHigh (s : State) : s.raiseModuleLost.csnHigh = s.csnHigh := rfl

@[simp] theorem State.raiseModuleLost_spi (s : State) : s.raiseModuleLost.spi = s.spi := rfl

@[simp] theorem State.raiseModuleLost_addrCounter (s : State) : s.raiseModuleLost.addrCounter = s.addrCounter := rfl

@[simp] theorem State.raiseModuleLost_sdoByte (s : State) : s.raiseModuleLost.sdoByte = s.sdoByte := rfl

@[simp] theorem State.raiseModuleLost_cmd (s : State) : s.raiseModuleLost.cmd = s.cmd := rfl

@[simp] theorem State.raiseModuleLost_cmdResult (s : State) : s.raiseModuleLost.cmdResult = s.cmdResult := rfl

@[simp] theorem State.raiseModuleLost_params (s : State) : s.raiseModuleLost.params = s.params := rfl

@[simp] theorem State.raiseModuleLost_replyBaseHold (s : State) : s.raiseModuleLost.replyBaseHold = s.replyBaseHold := rfl

@[simp] theorem State.raiseModuleLost_msecHold (s : State) : s.raiseModuleLost.msecHold = s.msecHold := rfl

@[simp] theorem State.raiseModuleLost_enables (s : State) : s.raiseModuleLost.enables = s.enables := rfl

@[simp] theorem State.raiseModuleLost_ports (s : State) : s.raiseModuleLost.ports = s.ports := rfl

@[simp] theorem State.raiseModuleLost_roster (s : State) : s.raiseModuleLost.roster = s.roster := rfl

@[simp] theorem State.raiseModuleLost_rosterState (s : State) : s.raiseModuleLost.rosterState = s.rosterState := rfl

@[simp] theorem State.raiseModuleLost_ringState (s : State) : s.raiseModuleLost.ringState = s.ringState := rfl

@[simp] theorem State.raiseModuleLost_tails (s : State) : s.raiseModuleLost.tails = s.tails := rfl

@[simp] theorem State.raiseModuleLost_exceeded (s : State) : s.raiseModuleLost.exceeded = s.exceeded := rfl

@[simp] theorem State.raiseModuleLost_lockHeld (s : State) : s.raiseModuleLost.lockHeld = s.lockHeld := rfl

@[simp] theorem State.raiseModuleLost_epoch (s : State) : s.raiseModuleLost.epoch = s.epoch := rfl

@[simp] theorem State.raiseModuleLost_fingerprint (s : State) : s.raiseModuleLost.fingerprint = s.fingerprint := rfl

@[simp] theorem State.raiseModuleLost_rosterSel (s : State) : s.raiseModuleLost.rosterSel = s.rosterSel := rfl

@[simp] theorem State.raiseModuleLost_rosterWindow (s : State) : s.raiseModuleLost.rosterWindow = s.rosterWindow := rfl

@[simp] theorem State.raiseModuleLost_census (s : State) : s.raiseModuleLost.census = s.census := rfl

@[simp] theorem State.raiseModuleLost_mailbox (s : State) : s.raiseModuleLost.mailbox = s.mailbox := rfl

@[simp] theorem State.raiseModuleLost_slots (s : State) : s.raiseModuleLost.slots = s.slots := rfl

@[simp] theorem State.raiseModuleLost_submissionCounter (s : State) : s.raiseModuleLost.submissionCounter = s.submissionCounter := rfl

@[simp] theorem State.raiseModuleLost_completionQueue (s : State) : s.raiseModuleLost.completionQueue = s.completionQueue := rfl

@[simp] theorem State.raiseModuleLost_submitResult (s : State) : s.raiseModuleLost.submitResult = s.submitResult := rfl

@[simp] theorem State.raiseModuleLost_cancelTag (s : State) : s.raiseModuleLost.cancelTag = s.cancelTag := rfl

@[simp] theorem State.raiseModuleLost_markers (s : State) : s.raiseModuleLost.markers = s.markers := rfl

@[simp] theorem State.raiseModuleLost_followUps (s : State) : s.raiseModuleLost.followUps = s.followUps := rfl

@[simp] theorem State.raiseModuleLost_mirror (s : State) : s.raiseModuleLost.mirror = s.mirror := rfl

@[simp] theorem State.raiseModuleLost_cursors (s : State) : s.raiseModuleLost.cursors = s.cursors := rfl

@[simp] theorem State.raiseModuleLost_msecTimer (s : State) : s.raiseModuleLost.msecTimer = s.msecTimer := rfl

@[simp] theorem State.raiseModuleLost_mirrorSel (s : State) : s.raiseModuleLost.mirrorSel = s.mirrorSel := rfl

@[simp] theorem State.raiseModuleLost_mirrorWindow (s : State) : s.raiseModuleLost.mirrorWindow = s.mirrorWindow := rfl

@[simp] theorem State.raiseModuleLost_notices (s : State) : s.raiseModuleLost.notices = s.notices := rfl

@[simp] theorem State.raiseModuleLost_reservations (s : State) : s.raiseModuleLost.reservations = s.reservations := rfl

@[simp] theorem State.raiseModuleLost_dupNotices (s : State) : s.raiseModuleLost.dupNotices = s.dupNotices := rfl

@[simp] theorem State.raiseModuleLost_checks (s : State) : s.raiseModuleLost.checks = s.checks := rfl

@[simp] theorem State.raiseModuleLost_freeCount (s : State) : s.raiseModuleLost.freeCount = s.freeCount := rfl

@[simp] theorem State.raiseModuleLost_pending (s : State) : s.raiseModuleLost.pending = s.pending := rfl

@[simp] theorem State.raiseCmdError_inReset (s : State) : s.raiseCmdError.inReset = s.inReset := rfl

@[simp] theorem State.raiseCmdError_csnHigh (s : State) : s.raiseCmdError.csnHigh = s.csnHigh := rfl

@[simp] theorem State.raiseCmdError_spi (s : State) : s.raiseCmdError.spi = s.spi := rfl

@[simp] theorem State.raiseCmdError_addrCounter (s : State) : s.raiseCmdError.addrCounter = s.addrCounter := rfl

@[simp] theorem State.raiseCmdError_sdoByte (s : State) : s.raiseCmdError.sdoByte = s.sdoByte := rfl

@[simp] theorem State.raiseCmdError_cmd (s : State) : s.raiseCmdError.cmd = s.cmd := rfl

@[simp] theorem State.raiseCmdError_cmdResult (s : State) : s.raiseCmdError.cmdResult = s.cmdResult := rfl

@[simp] theorem State.raiseCmdError_params (s : State) : s.raiseCmdError.params = s.params := rfl

@[simp] theorem State.raiseCmdError_replyBaseHold (s : State) : s.raiseCmdError.replyBaseHold = s.replyBaseHold := rfl

@[simp] theorem State.raiseCmdError_msecHold (s : State) : s.raiseCmdError.msecHold = s.msecHold := rfl

@[simp] theorem State.raiseCmdError_enables (s : State) : s.raiseCmdError.enables = s.enables := rfl

@[simp] theorem State.raiseCmdError_ports (s : State) : s.raiseCmdError.ports = s.ports := rfl

@[simp] theorem State.raiseCmdError_roster (s : State) : s.raiseCmdError.roster = s.roster := rfl

@[simp] theorem State.raiseCmdError_rosterState (s : State) : s.raiseCmdError.rosterState = s.rosterState := rfl

@[simp] theorem State.raiseCmdError_ringState (s : State) : s.raiseCmdError.ringState = s.ringState := rfl

@[simp] theorem State.raiseCmdError_tails (s : State) : s.raiseCmdError.tails = s.tails := rfl

@[simp] theorem State.raiseCmdError_exceeded (s : State) : s.raiseCmdError.exceeded = s.exceeded := rfl

@[simp] theorem State.raiseCmdError_lockHeld (s : State) : s.raiseCmdError.lockHeld = s.lockHeld := rfl

@[simp] theorem State.raiseCmdError_epoch (s : State) : s.raiseCmdError.epoch = s.epoch := rfl

@[simp] theorem State.raiseCmdError_fingerprint (s : State) : s.raiseCmdError.fingerprint = s.fingerprint := rfl

@[simp] theorem State.raiseCmdError_rosterSel (s : State) : s.raiseCmdError.rosterSel = s.rosterSel := rfl

@[simp] theorem State.raiseCmdError_rosterWindow (s : State) : s.raiseCmdError.rosterWindow = s.rosterWindow := rfl

@[simp] theorem State.raiseCmdError_census (s : State) : s.raiseCmdError.census = s.census := rfl

@[simp] theorem State.raiseCmdError_mailbox (s : State) : s.raiseCmdError.mailbox = s.mailbox := rfl

@[simp] theorem State.raiseCmdError_slots (s : State) : s.raiseCmdError.slots = s.slots := rfl

@[simp] theorem State.raiseCmdError_submissionCounter (s : State) : s.raiseCmdError.submissionCounter = s.submissionCounter := rfl

@[simp] theorem State.raiseCmdError_completionQueue (s : State) : s.raiseCmdError.completionQueue = s.completionQueue := rfl

@[simp] theorem State.raiseCmdError_submitResult (s : State) : s.raiseCmdError.submitResult = s.submitResult := rfl

@[simp] theorem State.raiseCmdError_cancelTag (s : State) : s.raiseCmdError.cancelTag = s.cancelTag := rfl

@[simp] theorem State.raiseCmdError_markers (s : State) : s.raiseCmdError.markers = s.markers := rfl

@[simp] theorem State.raiseCmdError_followUps (s : State) : s.raiseCmdError.followUps = s.followUps := rfl

@[simp] theorem State.raiseCmdError_mirror (s : State) : s.raiseCmdError.mirror = s.mirror := rfl

@[simp] theorem State.raiseCmdError_cursors (s : State) : s.raiseCmdError.cursors = s.cursors := rfl

@[simp] theorem State.raiseCmdError_msecTimer (s : State) : s.raiseCmdError.msecTimer = s.msecTimer := rfl

@[simp] theorem State.raiseCmdError_mirrorSel (s : State) : s.raiseCmdError.mirrorSel = s.mirrorSel := rfl

@[simp] theorem State.raiseCmdError_mirrorWindow (s : State) : s.raiseCmdError.mirrorWindow = s.mirrorWindow := rfl

@[simp] theorem State.raiseCmdError_notices (s : State) : s.raiseCmdError.notices = s.notices := rfl

@[simp] theorem State.raiseCmdError_reservations (s : State) : s.raiseCmdError.reservations = s.reservations := rfl

@[simp] theorem State.raiseCmdError_dupNotices (s : State) : s.raiseCmdError.dupNotices = s.dupNotices := rfl

@[simp] theorem State.raiseCmdError_checks (s : State) : s.raiseCmdError.checks = s.checks := rfl

@[simp] theorem State.raiseCmdError_freeCount (s : State) : s.raiseCmdError.freeCount = s.freeCount := rfl

@[simp] theorem State.raiseCmdError_pending (s : State) : s.raiseCmdError.pending = s.pending := rfl

@[simp] theorem State.raiseCensusDone_inReset (s : State) : s.raiseCensusDone.inReset = s.inReset := rfl

@[simp] theorem State.raiseCensusDone_csnHigh (s : State) : s.raiseCensusDone.csnHigh = s.csnHigh := rfl

@[simp] theorem State.raiseCensusDone_spi (s : State) : s.raiseCensusDone.spi = s.spi := rfl

@[simp] theorem State.raiseCensusDone_addrCounter (s : State) : s.raiseCensusDone.addrCounter = s.addrCounter := rfl

@[simp] theorem State.raiseCensusDone_sdoByte (s : State) : s.raiseCensusDone.sdoByte = s.sdoByte := rfl

@[simp] theorem State.raiseCensusDone_cmd (s : State) : s.raiseCensusDone.cmd = s.cmd := rfl

@[simp] theorem State.raiseCensusDone_cmdResult (s : State) : s.raiseCensusDone.cmdResult = s.cmdResult := rfl

@[simp] theorem State.raiseCensusDone_params (s : State) : s.raiseCensusDone.params = s.params := rfl

@[simp] theorem State.raiseCensusDone_replyBaseHold (s : State) : s.raiseCensusDone.replyBaseHold = s.replyBaseHold := rfl

@[simp] theorem State.raiseCensusDone_msecHold (s : State) : s.raiseCensusDone.msecHold = s.msecHold := rfl

@[simp] theorem State.raiseCensusDone_enables (s : State) : s.raiseCensusDone.enables = s.enables := rfl

@[simp] theorem State.raiseCensusDone_ports (s : State) : s.raiseCensusDone.ports = s.ports := rfl

@[simp] theorem State.raiseCensusDone_roster (s : State) : s.raiseCensusDone.roster = s.roster := rfl

@[simp] theorem State.raiseCensusDone_rosterState (s : State) : s.raiseCensusDone.rosterState = s.rosterState := rfl

@[simp] theorem State.raiseCensusDone_ringState (s : State) : s.raiseCensusDone.ringState = s.ringState := rfl

@[simp] theorem State.raiseCensusDone_tails (s : State) : s.raiseCensusDone.tails = s.tails := rfl

@[simp] theorem State.raiseCensusDone_exceeded (s : State) : s.raiseCensusDone.exceeded = s.exceeded := rfl

@[simp] theorem State.raiseCensusDone_lockHeld (s : State) : s.raiseCensusDone.lockHeld = s.lockHeld := rfl

@[simp] theorem State.raiseCensusDone_epoch (s : State) : s.raiseCensusDone.epoch = s.epoch := rfl

@[simp] theorem State.raiseCensusDone_fingerprint (s : State) : s.raiseCensusDone.fingerprint = s.fingerprint := rfl

@[simp] theorem State.raiseCensusDone_rosterSel (s : State) : s.raiseCensusDone.rosterSel = s.rosterSel := rfl

@[simp] theorem State.raiseCensusDone_rosterWindow (s : State) : s.raiseCensusDone.rosterWindow = s.rosterWindow := rfl

@[simp] theorem State.raiseCensusDone_census (s : State) : s.raiseCensusDone.census = s.census := rfl

@[simp] theorem State.raiseCensusDone_mailbox (s : State) : s.raiseCensusDone.mailbox = s.mailbox := rfl

@[simp] theorem State.raiseCensusDone_slots (s : State) : s.raiseCensusDone.slots = s.slots := rfl

@[simp] theorem State.raiseCensusDone_submissionCounter (s : State) : s.raiseCensusDone.submissionCounter = s.submissionCounter := rfl

@[simp] theorem State.raiseCensusDone_completionQueue (s : State) : s.raiseCensusDone.completionQueue = s.completionQueue := rfl

@[simp] theorem State.raiseCensusDone_submitResult (s : State) : s.raiseCensusDone.submitResult = s.submitResult := rfl

@[simp] theorem State.raiseCensusDone_cancelTag (s : State) : s.raiseCensusDone.cancelTag = s.cancelTag := rfl

@[simp] theorem State.raiseCensusDone_markers (s : State) : s.raiseCensusDone.markers = s.markers := rfl

@[simp] theorem State.raiseCensusDone_followUps (s : State) : s.raiseCensusDone.followUps = s.followUps := rfl

@[simp] theorem State.raiseCensusDone_mirror (s : State) : s.raiseCensusDone.mirror = s.mirror := rfl

@[simp] theorem State.raiseCensusDone_cursors (s : State) : s.raiseCensusDone.cursors = s.cursors := rfl

@[simp] theorem State.raiseCensusDone_msecTimer (s : State) : s.raiseCensusDone.msecTimer = s.msecTimer := rfl

@[simp] theorem State.raiseCensusDone_mirrorSel (s : State) : s.raiseCensusDone.mirrorSel = s.mirrorSel := rfl

@[simp] theorem State.raiseCensusDone_mirrorWindow (s : State) : s.raiseCensusDone.mirrorWindow = s.mirrorWindow := rfl

@[simp] theorem State.raiseCensusDone_notices (s : State) : s.raiseCensusDone.notices = s.notices := rfl

@[simp] theorem State.raiseCensusDone_reservations (s : State) : s.raiseCensusDone.reservations = s.reservations := rfl

@[simp] theorem State.raiseCensusDone_dupNotices (s : State) : s.raiseCensusDone.dupNotices = s.dupNotices := rfl

@[simp] theorem State.raiseCensusDone_checks (s : State) : s.raiseCensusDone.checks = s.checks := rfl

@[simp] theorem State.raiseCensusDone_freeCount (s : State) : s.raiseCensusDone.freeCount = s.freeCount := rfl

@[simp] theorem State.raiseCensusDone_pending (s : State) : s.raiseCensusDone.pending = s.pending := rfl

@[simp] theorem State.raiseLockHeld_inReset (s : State) : s.raiseLockHeld.inReset = s.inReset := rfl

@[simp] theorem State.raiseLockHeld_csnHigh (s : State) : s.raiseLockHeld.csnHigh = s.csnHigh := rfl

@[simp] theorem State.raiseLockHeld_spi (s : State) : s.raiseLockHeld.spi = s.spi := rfl

@[simp] theorem State.raiseLockHeld_addrCounter (s : State) : s.raiseLockHeld.addrCounter = s.addrCounter := rfl

@[simp] theorem State.raiseLockHeld_sdoByte (s : State) : s.raiseLockHeld.sdoByte = s.sdoByte := rfl

@[simp] theorem State.raiseLockHeld_cmd (s : State) : s.raiseLockHeld.cmd = s.cmd := rfl

@[simp] theorem State.raiseLockHeld_cmdResult (s : State) : s.raiseLockHeld.cmdResult = s.cmdResult := rfl

@[simp] theorem State.raiseLockHeld_params (s : State) : s.raiseLockHeld.params = s.params := rfl

@[simp] theorem State.raiseLockHeld_replyBaseHold (s : State) : s.raiseLockHeld.replyBaseHold = s.replyBaseHold := rfl

@[simp] theorem State.raiseLockHeld_msecHold (s : State) : s.raiseLockHeld.msecHold = s.msecHold := rfl

@[simp] theorem State.raiseLockHeld_enables (s : State) : s.raiseLockHeld.enables = s.enables := rfl

@[simp] theorem State.raiseLockHeld_ports (s : State) : s.raiseLockHeld.ports = s.ports := rfl

@[simp] theorem State.raiseLockHeld_roster (s : State) : s.raiseLockHeld.roster = s.roster := rfl

@[simp] theorem State.raiseLockHeld_rosterState (s : State) : s.raiseLockHeld.rosterState = s.rosterState := rfl

@[simp] theorem State.raiseLockHeld_ringState (s : State) : s.raiseLockHeld.ringState = s.ringState := rfl

@[simp] theorem State.raiseLockHeld_tails (s : State) : s.raiseLockHeld.tails = s.tails := rfl

@[simp] theorem State.raiseLockHeld_exceeded (s : State) : s.raiseLockHeld.exceeded = s.exceeded := rfl

@[simp] theorem State.raiseLockHeld_lockHeld (s : State) : s.raiseLockHeld.lockHeld = s.lockHeld := rfl

@[simp] theorem State.raiseLockHeld_epoch (s : State) : s.raiseLockHeld.epoch = s.epoch := rfl

@[simp] theorem State.raiseLockHeld_fingerprint (s : State) : s.raiseLockHeld.fingerprint = s.fingerprint := rfl

@[simp] theorem State.raiseLockHeld_rosterSel (s : State) : s.raiseLockHeld.rosterSel = s.rosterSel := rfl

@[simp] theorem State.raiseLockHeld_rosterWindow (s : State) : s.raiseLockHeld.rosterWindow = s.rosterWindow := rfl

@[simp] theorem State.raiseLockHeld_census (s : State) : s.raiseLockHeld.census = s.census := rfl

@[simp] theorem State.raiseLockHeld_mailbox (s : State) : s.raiseLockHeld.mailbox = s.mailbox := rfl

@[simp] theorem State.raiseLockHeld_slots (s : State) : s.raiseLockHeld.slots = s.slots := rfl

@[simp] theorem State.raiseLockHeld_submissionCounter (s : State) : s.raiseLockHeld.submissionCounter = s.submissionCounter := rfl

@[simp] theorem State.raiseLockHeld_completionQueue (s : State) : s.raiseLockHeld.completionQueue = s.completionQueue := rfl

@[simp] theorem State.raiseLockHeld_submitResult (s : State) : s.raiseLockHeld.submitResult = s.submitResult := rfl

@[simp] theorem State.raiseLockHeld_cancelTag (s : State) : s.raiseLockHeld.cancelTag = s.cancelTag := rfl

@[simp] theorem State.raiseLockHeld_markers (s : State) : s.raiseLockHeld.markers = s.markers := rfl

@[simp] theorem State.raiseLockHeld_followUps (s : State) : s.raiseLockHeld.followUps = s.followUps := rfl

@[simp] theorem State.raiseLockHeld_mirror (s : State) : s.raiseLockHeld.mirror = s.mirror := rfl

@[simp] theorem State.raiseLockHeld_cursors (s : State) : s.raiseLockHeld.cursors = s.cursors := rfl

@[simp] theorem State.raiseLockHeld_msecTimer (s : State) : s.raiseLockHeld.msecTimer = s.msecTimer := rfl

@[simp] theorem State.raiseLockHeld_mirrorSel (s : State) : s.raiseLockHeld.mirrorSel = s.mirrorSel := rfl

@[simp] theorem State.raiseLockHeld_mirrorWindow (s : State) : s.raiseLockHeld.mirrorWindow = s.mirrorWindow := rfl

@[simp] theorem State.raiseLockHeld_notices (s : State) : s.raiseLockHeld.notices = s.notices := rfl

@[simp] theorem State.raiseLockHeld_reservations (s : State) : s.raiseLockHeld.reservations = s.reservations := rfl

@[simp] theorem State.raiseLockHeld_dupNotices (s : State) : s.raiseLockHeld.dupNotices = s.dupNotices := rfl

@[simp] theorem State.raiseLockHeld_checks (s : State) : s.raiseLockHeld.checks = s.checks := rfl

@[simp] theorem State.raiseLockHeld_freeCount (s : State) : s.raiseLockHeld.freeCount = s.freeCount := rfl

@[simp] theorem State.raiseLockHeld_pending (s : State) : s.raiseLockHeld.pending = s.pending := rfl


/-! ## Reading after an update -/

@[simp] theorem State.port_setPort_same (s : State) (p : Port) (x : ChainPort) :
    (s.setPort p x).port p = x := Pair.get_set_same _ _ _

@[simp] theorem State.port_setPort_other (s : State) (p : Port) (x : ChainPort) :
    (s.setPort p x).port p.other = s.port p.other := Pair.get_set_other _ _ _

theorem State.port_setPort_ne (s : State) {p q : Port} (h : q ≠ p) (x : ChainPort) :
    (s.setPort p x).port q = s.port q := Pair.get_set_ne _ h _

@[simp] theorem State.slot_setSlot_same (s : State) (t : Tag) (x : Slot) :
    (s.setSlot t x).slot t = x := by
  simp [State.slot, State.setSlot]

theorem State.slot_setSlot_ne (s : State) {t u : Tag} (h : u ≠ t) (x : Slot) :
    (s.setSlot t x).slot u = s.slot u := by
  have h' : t.val ≠ u.val := fun e => h (Fin.ext e.symm)
  simp [State.slot, State.setSlot, h']

theorem State.slot_setSlot (s : State) (t u : Tag) (x : Slot) :
    (s.setSlot t x).slot u = if u = t then x else s.slot u := by
  by_cases h : u = t
  · subst h; simp
  · simp [h, State.slot_setSlot_ne s h]

@[simp] theorem State.check_setCheck_same (s : State) (p : Port) (c : Check) :
    (s.setCheck p c).checks.get p = c := Pair.get_set_same _ _ _

@[simp] theorem State.check_setCheck_other (s : State) (p : Port) (c : Check) :
    (s.setCheck p c).checks.get p.other = s.checks.get p.other := Pair.get_set_other _ _ _

theorem State.entry_setEntry_same (s : State) {a : Nat} (h : 1 ≤ a ∧ a ≤ 62) (e : RosterEntry) :
    (s.setEntry a e).entry a = e := by
  simp [State.entry, State.setEntry, h]

theorem State.entry_setEntry_ne (s : State) {a b : Nat} (h : b ≠ a) (e : RosterEntry) :
    (s.setEntry a e).entry b = s.entry b := by
  unfold State.setEntry
  split
  · next ha =>
    unfold State.entry
    split
    · next hb =>
      have : a - 1 ≠ b - 1 := by omega
      simp [this]
    · rfl
  · rfl

/-- What an entry reads as after one entry has been replaced. -/
theorem State.entry_setEntry (s : State) (a b : Nat) (e : RosterEntry) :
    (s.setEntry a e).entry b = if b = a ∧ 1 ≤ a ∧ a ≤ 62 then e else s.entry b := by
  by_cases h : b = a
  · subst h
    by_cases hb : 1 ≤ b ∧ b ≤ 62
    · rw [State.entry_setEntry_same s hb, if_pos ⟨rfl, hb⟩]
    · rw [if_neg (fun c => hb c.2)]
      unfold State.setEntry
      rw [dif_neg hb]
  · rw [State.entry_setEntry_ne s h, if_neg (fun c => h c.1)]

theorem State.status_setStatus_same (s : State) {a : Nat} (h : 1 ≤ a ∧ a ≤ 62) (m : MirrorEntry) :
    (s.setStatus a m).status a = m := by
  simp [State.status, State.setStatus, h]

theorem State.status_setStatus_ne (s : State) {a b : Nat} (h : b ≠ a) (m : MirrorEntry) :
    (s.setStatus a m).status b = s.status b := by
  unfold State.setStatus
  split
  · next ha =>
    unfold State.status
    split
    · next hb =>
      have : a - 1 ≠ b - 1 := by omega
      simp [this]
    · rfl
  · rfl

/-- What a mirror entry reads as after one entry has been replaced. -/
theorem State.status_setStatus (s : State) (a b : Nat) (m : MirrorEntry) :
    (s.setStatus a m).status b = if b = a ∧ 1 ≤ a ∧ a ≤ 62 then m else s.status b := by
  by_cases h : b = a
  · subst h
    by_cases hb : 1 ≤ b ∧ b ≤ 62
    · rw [State.status_setStatus_same s hb, if_pos ⟨rfl, hb⟩]
    · rw [if_neg (fun c => hb c.2)]
      unfold State.setStatus
      rw [dif_neg hb]
  · rw [State.status_setStatus_ne s h, if_neg (fun c => h c.1)]

/-- An address without an entry reads as VACANT (R43). -/
theorem State.entry_outside (s : State) {a : Nat} (h : ¬(1 ≤ a ∧ a ≤ 62)) :
    s.entry a = RosterEntry.vacant := by
  unfold State.entry
  rw [dif_neg h]

/-- An address without an entry reads as EMPTY (R124). -/
theorem State.status_outside (s : State) {a : Nat} (h : ¬(1 ≤ a ∧ a ≤ 62)) :
    s.status a = MirrorEntry.empty := by
  unfold State.status
  rw [dif_neg h]

theorem State.entry_eq_of_roster {s t : State} (h : t.roster = s.roster) (a : Nat) :
    t.entry a = s.entry a := by
  unfold State.entry
  rw [h]

theorem State.status_eq_of_mirror {s t : State} (h : t.mirror = s.mirror) (a : Nat) :
    t.status a = s.status a := by
  unfold State.status
  rw [h]

theorem State.slot_eq_of_slots {s t : State} (h : t.slots = s.slots) (u : Tag) :
    t.slot u = s.slot u := by
  unfold State.slot
  rw [h]

/-! ## Whole tables -/

/-- Every cell of a mapped table is the function of the cell before. -/
@[simp] theorem getElem_mapCells {α : Type} {n : Nat} (f : α → α) (v : Vector α n) (i : Nat)
    (h : i < n) : (mapCells f v)[i] = f v[i] := by
  simp [mapCells]

/-- A mapped roster reads as the mapped entries, where the function keeps VACANT. -/
theorem State.entry_mapCells (s : State) (f : RosterEntry → RosterEntry)
    (hf : f RosterEntry.vacant = RosterEntry.vacant) (a : Nat) :
    ({ s with roster := mapCells f s.roster } : State).entry a = f (s.entry a) := by
  unfold State.entry
  split <;> simp_all

/-- A mapped mirror reads as the mapped entries, where the function keeps EMPTY. -/
theorem State.status_mapCells (s : State) (f : MirrorEntry → MirrorEntry)
    (hf : f MirrorEntry.empty = MirrorEntry.empty) (a : Nat) :
    ({ s with mirror := mapCells f s.mirror } : State).status a = f (s.status a) := by
  unfold State.status
  split <;> simp_all

/-! ## Tags and addresses -/

theorem mem_allTags (t : Tag) : t ∈ allTags := by revert t; decide

theorem mem_addresses {a : Nat} : a ∈ addresses ↔ 1 ≤ a ∧ a ≤ 62 := by
  simp only [addresses, List.mem_range'_1]
  omega

/-- A counter that stops at its top does not pass it. -/
theorem satInc_le (top n : Nat) : satInc top n ≤ top := by
  unfold satInc
  split <;> omega

theorem mem_insertByKey {α : Type} (key : α → Nat) (x y : α) (l : List α) :
    y ∈ insertByKey key x l ↔ y = x ∨ y ∈ l := by
  induction l with
  | nil => simp [insertByKey]
  | cons z zs ih =>
    unfold insertByKey
    split
    · simp_all
    · simp_all
      tauto

theorem mem_sortByKey {α : Type} (key : α → Nat) (y : α) (l : List α) :
    y ∈ sortByKey key l ↔ y ∈ l := by
  induction l with
  | nil => simp [sortByKey]
  | cons z zs ih => simp [sortByKey, mem_insertByKey, ih]

/-- The list of unfinished slots holds exactly the unfinished ones (R105). -/
theorem mem_unfinishedTags (s : State) (t : Tag) :
    t ∈ s.unfinishedTags ↔ (s.slot t).unfinished = true := by
  simp [State.unfinishedTags, mem_sortByKey, mem_allTags]


end Sys2Proof.Machine
end

