-- ==== Sys2Proof/Laws/Frame.lean ====
section
/-! SUPPORT. Which fields each shared operation can touch: for each operation one lemma that says so once,
composed by transitivity, and for each group one lemma per field it leaves alone. -/

namespace Sys2Proof.Safety

open Sys2Proof.Machine

variable {s t u : State}

/-! ## Requests: reflexive, transitive, field by field -/

theorem TouchesRequests.refl (s : State) : TouchesRequests s s := rfl

theorem TouchesRequests.trans (h : TouchesRequests s t) (k : TouchesRequests t u) : TouchesRequests s u :=
  Eq.trans k (congrArg (fun x : State => { x with
      slots := u.slots, completionQueue := u.completionQueue, roster := u.roster }) h)

theorem TouchesRequests.inReset (h : TouchesRequests s t) : t.inReset = s.inReset := by
  have e : t = _ := h
  rw [e]

theorem TouchesRequests.csnHigh (h : TouchesRequests s t) : t.csnHigh = s.csnHigh := by
  have e : t = _ := h
  rw [e]

theorem TouchesRequests.spi (h : TouchesRequests s t) : t.spi = s.spi := by
  have e : t = _ := h
  rw [e]

theorem TouchesRequests.addrCounter (h : TouchesRequests s t) : t.addrCounter = s.addrCounter := by
  have e : t = _ := h
  rw [e]

theorem TouchesRequests.sdoByte (h : TouchesRequests s t) : t.sdoByte = s.sdoByte := by
  have e : t = _ := h
  rw [e]

theorem TouchesRequests.cmd (h : TouchesRequests s t) : t.cmd = s.cmd := by
  have e : t = _ := h
  rw [e]

theorem TouchesRequests.cmdResult (h : TouchesRequests s t) : t.cmdResult = s.cmdResult := by
  have e : t = _ := h
  rw [e]

theorem TouchesRequests.params (h : TouchesRequests s t) : t.params = s.params := by
  have e : t = _ := h
  rw [e]

theorem TouchesRequests.replyBaseHold (h : TouchesRequests s t) : t.replyBaseHold = s.replyBaseHold := by
  have e : t = _ := h
  rw [e]

theorem TouchesRequests.msecHold (h : TouchesRequests s t) : t.msecHold = s.msecHold := by
  have e : t = _ := h
  rw [e]

theorem TouchesRequests.sticky (h : TouchesRequests s t) : t.sticky = s.sticky := by
  have e : t = _ := h
  rw [e]

theorem TouchesRequests.enables (h : TouchesRequests s t) : t.enables = s.enables := by
  have e : t = _ := h
  rw [e]

theorem TouchesRequests.ports (h : TouchesRequests s t) : t.ports = s.ports := by
  have e : t = _ := h
  rw [e]

theorem TouchesRequests.rosterState (h : TouchesRequests s t) : t.rosterState = s.rosterState := by
  have e : t = _ := h
  rw [e]

theorem TouchesRequests.ringState (h : TouchesRequests s t) : t.ringState = s.ringState := by
  have e : t = _ := h
  rw [e]

theorem TouchesRequests.tails (h : TouchesRequests s t) : t.tails = s.tails := by
  have e : t = _ := h
  rw [e]

theorem TouchesRequests.exceeded (h : TouchesRequests s t) : t.exceeded = s.exceeded := by
  have e : t = _ := h
  rw [e]

theorem TouchesRequests.lockHeld (h : TouchesRequests s t) : t.lockHeld = s.lockHeld := by
  have e : t = _ := h
  rw [e]

theorem TouchesRequests.epoch (h : TouchesRequests s t) : t.epoch = s.epoch := by
  have e : t = _ := h
  rw [e]

theorem TouchesRequests.fingerprint (h : TouchesRequests s t) : t.fingerprint = s.fingerprint := by
  have e : t = _ := h
  rw [e]

theorem TouchesRequests.rosterSel (h : TouchesRequests s t) : t.rosterSel = s.rosterSel := by
  have e : t = _ := h
  rw [e]

theorem TouchesRequests.rosterWindow (h : TouchesRequests s t) : t.rosterWindow = s.rosterWindow := by
  have e : t = _ := h
  rw [e]

theorem TouchesRequests.census (h : TouchesRequests s t) : t.census = s.census := by
  have e : t = _ := h
  rw [e]

theorem TouchesRequests.mailbox (h : TouchesRequests s t) : t.mailbox = s.mailbox := by
  have e : t = _ := h
  rw [e]

theorem TouchesRequests.submissionCounter (h : TouchesRequests s t) : t.submissionCounter = s.submissionCounter := by
  have e : t = _ := h
  rw [e]

theorem TouchesRequests.submitResult (h : TouchesRequests s t) : t.submitResult = s.submitResult := by
  have e : t = _ := h
  rw [e]

theorem TouchesRequests.cancelTag (h : TouchesRequests s t) : t.cancelTag = s.cancelTag := by
  have e : t = _ := h
  rw [e]

theorem TouchesRequests.markers (h : TouchesRequests s t) : t.markers = s.markers := by
  have e : t = _ := h
  rw [e]

theorem TouchesRequests.followUps (h : TouchesRequests s t) : t.followUps = s.followUps := by
  have e : t = _ := h
  rw [e]

theorem TouchesRequests.mirror (h : TouchesRequests s t) : t.mirror = s.mirror := by
  have e : t = _ := h
  rw [e]

theorem TouchesRequests.cursors (h : TouchesRequests s t) : t.cursors = s.cursors := by
  have e : t = _ := h
  rw [e]

theorem TouchesRequests.msecTimer (h : TouchesRequests s t) : t.msecTimer = s.msecTimer := by
  have e : t = _ := h
  rw [e]

theorem TouchesRequests.mirrorSel (h : TouchesRequests s t) : t.mirrorSel = s.mirrorSel := by
  have e : t = _ := h
  rw [e]

theorem TouchesRequests.mirrorWindow (h : TouchesRequests s t) : t.mirrorWindow = s.mirrorWindow := by
  have e : t = _ := h
  rw [e]

theorem TouchesRequests.notices (h : TouchesRequests s t) : t.notices = s.notices := by
  have e : t = _ := h
  rw [e]

theorem TouchesRequests.reservations (h : TouchesRequests s t) : t.reservations = s.reservations := by
  have e : t = _ := h
  rw [e]

theorem TouchesRequests.dupNotices (h : TouchesRequests s t) : t.dupNotices = s.dupNotices := by
  have e : t = _ := h
  rw [e]

theorem TouchesRequests.checks (h : TouchesRequests s t) : t.checks = s.checks := by
  have e : t = _ := h
  rw [e]

theorem TouchesRequests.freeCount (h : TouchesRequests s t) : t.freeCount = s.freeCount := by
  have e : t = _ := h
  rw [e]

theorem TouchesRequests.pending (h : TouchesRequests s t) : t.pending = s.pending := by
  have e : t = _ := h
  rw [e]

/-! ## Settling: reflexive, transitive, field by field -/

theorem TouchesSettling.refl (s : State) : TouchesSettling s s := rfl

theorem TouchesSettling.trans (h : TouchesSettling s t) (k : TouchesSettling t u) : TouchesSettling s u :=
  Eq.trans k (congrArg (fun x : State => { x with
      slots := u.slots, completionQueue := u.completionQueue, roster :=
      u.roster, mirror := u.mirror, ringState := u.ringState, checks :=
      u.checks, sticky := u.sticky }) h)

theorem TouchesSettling.inReset (h : TouchesSettling s t) : t.inReset = s.inReset := by
  have e : t = _ := h
  rw [e]

theorem TouchesSettling.csnHigh (h : TouchesSettling s t) : t.csnHigh = s.csnHigh := by
  have e : t = _ := h
  rw [e]

theorem TouchesSettling.spi (h : TouchesSettling s t) : t.spi = s.spi := by
  have e : t = _ := h
  rw [e]

theorem TouchesSettling.addrCounter (h : TouchesSettling s t) : t.addrCounter = s.addrCounter := by
  have e : t = _ := h
  rw [e]

theorem TouchesSettling.sdoByte (h : TouchesSettling s t) : t.sdoByte = s.sdoByte := by
  have e : t = _ := h
  rw [e]

theorem TouchesSettling.cmd (h : TouchesSettling s t) : t.cmd = s.cmd := by
  have e : t = _ := h
  rw [e]

theorem TouchesSettling.cmdResult (h : TouchesSettling s t) : t.cmdResult = s.cmdResult := by
  have e : t = _ := h
  rw [e]

theorem TouchesSettling.params (h : TouchesSettling s t) : t.params = s.params := by
  have e : t = _ := h
  rw [e]

theorem TouchesSettling.replyBaseHold (h : TouchesSettling s t) : t.replyBaseHold = s.replyBaseHold := by
  have e : t = _ := h
  rw [e]

theorem TouchesSettling.msecHold (h : TouchesSettling s t) : t.msecHold = s.msecHold := by
  have e : t = _ := h
  rw [e]

theorem TouchesSettling.enables (h : TouchesSettling s t) : t.enables = s.enables := by
  have e : t = _ := h
  rw [e]

theorem TouchesSettling.ports (h : TouchesSettling s t) : t.ports = s.ports := by
  have e : t = _ := h
  rw [e]

theorem TouchesSettling.rosterState (h : TouchesSettling s t) : t.rosterState = s.rosterState := by
  have e : t = _ := h
  rw [e]

theorem TouchesSettling.tails (h : TouchesSettling s t) : t.tails = s.tails := by
  have e : t = _ := h
  rw [e]

theorem TouchesSettling.exceeded (h : TouchesSettling s t) : t.exceeded = s.exceeded := by
  have e : t = _ := h
  rw [e]

theorem TouchesSettling.lockHeld (h : TouchesSettling s t) : t.lockHeld = s.lockHeld := by
  have e : t = _ := h
  rw [e]

theorem TouchesSettling.epoch (h : TouchesSettling s t) : t.epoch = s.epoch := by
  have e : t = _ := h
  rw [e]

theorem TouchesSettling.fingerprint (h : TouchesSettling s t) : t.fingerprint = s.fingerprint := by
  have e : t = _ := h
  rw [e]

theorem TouchesSettling.rosterSel (h : TouchesSettling s t) : t.rosterSel = s.rosterSel := by
  have e : t = _ := h
  rw [e]

theorem TouchesSettling.rosterWindow (h : TouchesSettling s t) : t.rosterWindow = s.rosterWindow := by
  have e : t = _ := h
  rw [e]

theorem TouchesSettling.census (h : TouchesSettling s t) : t.census = s.census := by
  have e : t = _ := h
  rw [e]

theorem TouchesSettling.mailbox (h : TouchesSettling s t) : t.mailbox = s.mailbox := by
  have e : t = _ := h
  rw [e]

theorem TouchesSettling.submissionCounter (h : TouchesSettling s t) : t.submissionCounter = s.submissionCounter := by
  have e : t = _ := h
  rw [e]

theorem TouchesSettling.submitResult (h : TouchesSettling s t) : t.submitResult = s.submitResult := by
  have e : t = _ := h
  rw [e]

theorem TouchesSettling.cancelTag (h : TouchesSettling s t) : t.cancelTag = s.cancelTag := by
  have e : t = _ := h
  rw [e]

theorem TouchesSettling.markers (h : TouchesSettling s t) : t.markers = s.markers := by
  have e : t = _ := h
  rw [e]

theorem TouchesSettling.followUps (h : TouchesSettling s t) : t.followUps = s.followUps := by
  have e : t = _ := h
  rw [e]

theorem TouchesSettling.cursors (h : TouchesSettling s t) : t.cursors = s.cursors := by
  have e : t = _ := h
  rw [e]

theorem TouchesSettling.msecTimer (h : TouchesSettling s t) : t.msecTimer = s.msecTimer := by
  have e : t = _ := h
  rw [e]

theorem TouchesSettling.mirrorSel (h : TouchesSettling s t) : t.mirrorSel = s.mirrorSel := by
  have e : t = _ := h
  rw [e]

theorem TouchesSettling.mirrorWindow (h : TouchesSettling s t) : t.mirrorWindow = s.mirrorWindow := by
  have e : t = _ := h
  rw [e]

theorem TouchesSettling.notices (h : TouchesSettling s t) : t.notices = s.notices := by
  have e : t = _ := h
  rw [e]

theorem TouchesSettling.reservations (h : TouchesSettling s t) : t.reservations = s.reservations := by
  have e : t = _ := h
  rw [e]

theorem TouchesSettling.dupNotices (h : TouchesSettling s t) : t.dupNotices = s.dupNotices := by
  have e : t = _ := h
  rw [e]

theorem TouchesSettling.freeCount (h : TouchesSettling s t) : t.freeCount = s.freeCount := by
  have e : t = _ := h
  rw [e]

theorem TouchesSettling.pending (h : TouchesSettling s t) : t.pending = s.pending := by
  have e : t = _ := h
  rw [e]

/-! ## Outcome: reflexive, transitive, field by field -/

theorem TouchesOutcome.refl (s : State) : TouchesOutcome s s := rfl

theorem TouchesOutcome.trans (h : TouchesOutcome s t) (k : TouchesOutcome t u) : TouchesOutcome s u :=
  Eq.trans k (congrArg (fun x : State => { x with
      slots := u.slots, completionQueue := u.completionQueue, roster :=
      u.roster, mirror := u.mirror, ringState := u.ringState, checks :=
      u.checks, sticky := u.sticky, ports := u.ports, rosterState :=
      u.rosterState, tails := u.tails, exceeded := u.exceeded, lockHeld :=
      u.lockHeld, fingerprint := u.fingerprint, census := u.census, followUps :=
      u.followUps, notices := u.notices, reservations := u.reservations,
      dupNotices := u.dupNotices }) h)

theorem TouchesOutcome.inReset (h : TouchesOutcome s t) : t.inReset = s.inReset := by
  have e : t = _ := h
  rw [e]

theorem TouchesOutcome.csnHigh (h : TouchesOutcome s t) : t.csnHigh = s.csnHigh := by
  have e : t = _ := h
  rw [e]

theorem TouchesOutcome.spi (h : TouchesOutcome s t) : t.spi = s.spi := by
  have e : t = _ := h
  rw [e]

theorem TouchesOutcome.addrCounter (h : TouchesOutcome s t) : t.addrCounter = s.addrCounter := by
  have e : t = _ := h
  rw [e]

theorem TouchesOutcome.sdoByte (h : TouchesOutcome s t) : t.sdoByte = s.sdoByte := by
  have e : t = _ := h
  rw [e]

theorem TouchesOutcome.cmd (h : TouchesOutcome s t) : t.cmd = s.cmd := by
  have e : t = _ := h
  rw [e]

theorem TouchesOutcome.cmdResult (h : TouchesOutcome s t) : t.cmdResult = s.cmdResult := by
  have e : t = _ := h
  rw [e]

theorem TouchesOutcome.params (h : TouchesOutcome s t) : t.params = s.params := by
  have e : t = _ := h
  rw [e]

theorem TouchesOutcome.replyBaseHold (h : TouchesOutcome s t) : t.replyBaseHold = s.replyBaseHold := by
  have e : t = _ := h
  rw [e]

theorem TouchesOutcome.msecHold (h : TouchesOutcome s t) : t.msecHold = s.msecHold := by
  have e : t = _ := h
  rw [e]

theorem TouchesOutcome.enables (h : TouchesOutcome s t) : t.enables = s.enables := by
  have e : t = _ := h
  rw [e]

theorem TouchesOutcome.epoch (h : TouchesOutcome s t) : t.epoch = s.epoch := by
  have e : t = _ := h
  rw [e]

theorem TouchesOutcome.rosterSel (h : TouchesOutcome s t) : t.rosterSel = s.rosterSel := by
  have e : t = _ := h
  rw [e]

theorem TouchesOutcome.rosterWindow (h : TouchesOutcome s t) : t.rosterWindow = s.rosterWindow := by
  have e : t = _ := h
  rw [e]

theorem TouchesOutcome.mailbox (h : TouchesOutcome s t) : t.mailbox = s.mailbox := by
  have e : t = _ := h
  rw [e]

theorem TouchesOutcome.submissionCounter (h : TouchesOutcome s t) : t.submissionCounter = s.submissionCounter := by
  have e : t = _ := h
  rw [e]

theorem TouchesOutcome.submitResult (h : TouchesOutcome s t) : t.submitResult = s.submitResult := by
  have e : t = _ := h
  rw [e]

theorem TouchesOutcome.cancelTag (h : TouchesOutcome s t) : t.cancelTag = s.cancelTag := by
  have e : t = _ := h
  rw [e]

theorem TouchesOutcome.markers (h : TouchesOutcome s t) : t.markers = s.markers := by
  have e : t = _ := h
  rw [e]

theorem TouchesOutcome.cursors (h : TouchesOutcome s t) : t.cursors = s.cursors := by
  have e : t = _ := h
  rw [e]

theorem TouchesOutcome.msecTimer (h : TouchesOutcome s t) : t.msecTimer = s.msecTimer := by
  have e : t = _ := h
  rw [e]

theorem TouchesOutcome.mirrorSel (h : TouchesOutcome s t) : t.mirrorSel = s.mirrorSel := by
  have e : t = _ := h
  rw [e]

theorem TouchesOutcome.mirrorWindow (h : TouchesOutcome s t) : t.mirrorWindow = s.mirrorWindow := by
  have e : t = _ := h
  rw [e]

theorem TouchesOutcome.freeCount (h : TouchesOutcome s t) : t.freeCount = s.freeCount := by
  have e : t = _ := h
  rw [e]

theorem TouchesOutcome.pending (h : TouchesOutcome s t) : t.pending = s.pending := by
  have e : t = _ := h
  rw [e]

/-! ## Blocks: reflexive, transitive, field by field -/

theorem TouchesBlocks.refl (s : State) : TouchesBlocks s s := rfl

theorem TouchesBlocks.trans (h : TouchesBlocks s t) (k : TouchesBlocks t u) : TouchesBlocks s u :=
  Eq.trans k (congrArg (fun x : State => { x with
      slots := u.slots, completionQueue := u.completionQueue, roster :=
      u.roster, mirror := u.mirror, ringState := u.ringState, checks :=
      u.checks, sticky := u.sticky, ports := u.ports, rosterState :=
      u.rosterState, tails := u.tails, exceeded := u.exceeded, lockHeld :=
      u.lockHeld, fingerprint := u.fingerprint, census := u.census, followUps :=
      u.followUps, notices := u.notices, reservations := u.reservations,
      dupNotices := u.dupNotices, markers := u.markers, cursors := u.cursors,
      epoch := u.epoch, msecTimer := u.msecTimer, freeCount := u.freeCount }) h)

theorem TouchesBlocks.inReset (h : TouchesBlocks s t) : t.inReset = s.inReset := by
  have e : t = _ := h
  rw [e]

theorem TouchesBlocks.csnHigh (h : TouchesBlocks s t) : t.csnHigh = s.csnHigh := by
  have e : t = _ := h
  rw [e]

theorem TouchesBlocks.spi (h : TouchesBlocks s t) : t.spi = s.spi := by
  have e : t = _ := h
  rw [e]

theorem TouchesBlocks.addrCounter (h : TouchesBlocks s t) : t.addrCounter = s.addrCounter := by
  have e : t = _ := h
  rw [e]

theorem TouchesBlocks.sdoByte (h : TouchesBlocks s t) : t.sdoByte = s.sdoByte := by
  have e : t = _ := h
  rw [e]

theorem TouchesBlocks.cmd (h : TouchesBlocks s t) : t.cmd = s.cmd := by
  have e : t = _ := h
  rw [e]

theorem TouchesBlocks.cmdResult (h : TouchesBlocks s t) : t.cmdResult = s.cmdResult := by
  have e : t = _ := h
  rw [e]

theorem TouchesBlocks.params (h : TouchesBlocks s t) : t.params = s.params := by
  have e : t = _ := h
  rw [e]

theorem TouchesBlocks.replyBaseHold (h : TouchesBlocks s t) : t.replyBaseHold = s.replyBaseHold := by
  have e : t = _ := h
  rw [e]

theorem TouchesBlocks.msecHold (h : TouchesBlocks s t) : t.msecHold = s.msecHold := by
  have e : t = _ := h
  rw [e]

theorem TouchesBlocks.enables (h : TouchesBlocks s t) : t.enables = s.enables := by
  have e : t = _ := h
  rw [e]

theorem TouchesBlocks.rosterSel (h : TouchesBlocks s t) : t.rosterSel = s.rosterSel := by
  have e : t = _ := h
  rw [e]

theorem TouchesBlocks.rosterWindow (h : TouchesBlocks s t) : t.rosterWindow = s.rosterWindow := by
  have e : t = _ := h
  rw [e]

theorem TouchesBlocks.mailbox (h : TouchesBlocks s t) : t.mailbox = s.mailbox := by
  have e : t = _ := h
  rw [e]

theorem TouchesBlocks.submissionCounter (h : TouchesBlocks s t) : t.submissionCounter = s.submissionCounter := by
  have e : t = _ := h
  rw [e]

theorem TouchesBlocks.submitResult (h : TouchesBlocks s t) : t.submitResult = s.submitResult := by
  have e : t = _ := h
  rw [e]

theorem TouchesBlocks.cancelTag (h : TouchesBlocks s t) : t.cancelTag = s.cancelTag := by
  have e : t = _ := h
  rw [e]

theorem TouchesBlocks.mirrorSel (h : TouchesBlocks s t) : t.mirrorSel = s.mirrorSel := by
  have e : t = _ := h
  rw [e]

theorem TouchesBlocks.mirrorWindow (h : TouchesBlocks s t) : t.mirrorWindow = s.mirrorWindow := by
  have e : t = _ := h
  rw [e]

theorem TouchesBlocks.pending (h : TouchesBlocks s t) : t.pending = s.pending := by
  have e : t = _ := h
  rw [e]

theorem TouchesRequests.toSettling (h : TouchesRequests s t) : TouchesSettling s t := by
  unfold TouchesSettling
  rw [h.mirror, h.ringState, h.checks, h.sticky]
  exact h

theorem TouchesSettling.toOutcome (h : TouchesSettling s t) : TouchesOutcome s t := by
  unfold TouchesOutcome
  rw [h.ports, h.rosterState, h.tails, h.exceeded, h.lockHeld, h.fingerprint, h.census,
    h.followUps, h.notices, h.reservations, h.dupNotices]
  exact h

theorem TouchesOutcome.toBlocks (h : TouchesOutcome s t) : TouchesBlocks s t := by
  unfold TouchesBlocks
  rw [h.markers, h.cursors, h.epoch, h.msecTimer, h.freeCount]
  exact h

/-! ## Folds -/

/-- A fold of an operation that touches only requests touches only requests. -/
theorem foldl_touchesRequests {α : Type} (f : State → α → State)
    (hf : ∀ s a, TouchesRequests s (f s a)) (l : List α) (s : State) :
    TouchesRequests s (l.foldl f s) := by
  induction l generalizing s with
  | nil => exact .refl s
  | cons x xs ih => exact (hf s x).trans (ih _)

/-- A fold of an operation that touches what outcomes touch does the same. -/
theorem foldl_touchesOutcome {α : Type} (f : State → α → State)
    (hf : ∀ s a, TouchesOutcome s (f s a)) (l : List α) (s : State) :
    TouchesOutcome s (l.foldl f s) := by
  induction l generalizing s with
  | nil => exact .refl s
  | cons x xs ih => exact (hf s x).trans (ih _)

/-! ## Single updates -/

theorem setSlot_touches (x : Tag) (v : Slot) (s : State) : TouchesRequests s (s.setSlot x v) := rfl

theorem setEntry_touches (a : Nat) (e : RosterEntry) (s : State) :
    TouchesRequests s (s.setEntry a e) := by
  unfold State.setEntry
  split <;> rfl

theorem setStatus_touches (a : Nat) (m : MirrorEntry) (s : State) :
    TouchesSettling s (s.setStatus a m) := by
  unfold State.setStatus
  split <;> rfl

theorem setCheck_touches (p : Port) (c : Check) (s : State) :
    TouchesSettling s (s.setCheck p c) := rfl

theorem setPort_touches (p : Port) (x : ChainPort) (s : State) :
    TouchesOutcome s (s.setPort p x) := rfl

/-! ## Requests (chapter 5) and front checks (R107) -/

theorem setToggle_touches (a : Nat) (g : Toggle) (s : State) :
    TouchesRequests s (setToggle a g s) := by
  unfold setToggle
  split
  · exact .refl s
  · exact setEntry_touches _ _ _

theorem setLastSeq_touches (a : Nat) (q : Option Seq) (s : State) :
    TouchesRequests s (setLastSeq a q s) := by
  unfold setLastSeq
  split
  · exact .refl s
  · exact setEntry_touches _ _ _

theorem complete_touches (x : Tag) (st : Status) (late : Bool) (data : List Byte) (s : State) :
    TouchesRequests s (complete x st late data s) := by
  unfold complete
  simp only
  split
  · split
    · split
      · refine TouchesRequests.trans ?_ (setToggle_touches _ _ _)
        rfl
      · rfl
    · rfl
  · exact .refl s

theorem finish_touches (x : Tag) (st : Status) (s : State) : TouchesRequests s (finish x st s) :=
  complete_touches _ _ _ _ _

theorem chooseBcast_touches (x : Tag) (s : State) : TouchesRequests s (chooseBcast x s) := by
  unfold chooseBcast
  simp only
  split
  · rfl
  · exact finish_touches _ _ _

theorem frontStep_touches (x : Tag) (s : State) : TouchesRequests s (frontStep x s) := by
  unfold frontStep
  split
  · split
    · exact finish_touches _ _ _
    · split
      · exact chooseBcast_touches _ _
      · exact .refl s
  · exact .refl s

theorem frontPass_touches (s : State) : TouchesRequests s (frontPass s) :=
  foldl_touchesRequests _ (fun s x => frontStep_touches x s) _ _

theorem stopBcast_touches (x : Tag) (s : State) : TouchesRequests s (stopBcast x s) := rfl

theorem cancelActive_touches (x : Tag) (s : State) : TouchesRequests s (cancelActive x s) := by
  unfold cancelActive
  split
  · split
    · rfl
    · exact (stopBcast_touches x s).trans (finish_touches _ _ _)
  · rfl

theorem flushAtStart_touches (x : Tag) (s : State) : TouchesRequests s (flushAtStart x s) := by
  unfold flushAtStart
  simp only
  split
  · exact finish_touches _ _ _
  · split
    · rfl
    · exact finish_touches _ _ _
  · split
    · split
      · exact stopBcast_touches _ _
      · exact (stopBcast_touches x s).trans (finish_touches _ _ _)
    · exact .refl s
  · exact .refl s

theorem flushAll_touches (s : State) : TouchesRequests s (flushAll s) :=
  foldl_touchesRequests _ (fun s x => flushAtStart_touches x s) _ _

theorem flushFollower_touches (g : Option Nat) (x : Tag) (s : State) :
    TouchesRequests s (flushFollower g x s) := by
  unfold flushFollower
  simp only
  split
  · exact finish_touches _ _ _
  · exact .refl s

theorem completeActive_touches (x : Tag) (st : Status) (late : Bool) (data : List Byte) (s : State) :
    TouchesRequests s (completeActive x st late data s) := by
  unfold completeActive
  simp only
  split
  · exact (complete_touches _ _ _ _ _).trans
      (foldl_touchesRequests _ (fun s y => flushFollower_touches _ y s) _ _)
  · exact complete_touches _ _ _ _ _

theorem flushQueued_touches (s : State) : TouchesRequests s (flushQueued s) :=
  foldl_touchesRequests _ (fun s x => by
    unfold flushAtClear
    split
    · exact finish_touches _ _ _
    · exact .refl s) _ _

/-! ## Roster reports (R46) and the mirror (chapter 7) -/

theorem reportGood_touches (a : Nat) (s : State) : TouchesRequests s (reportGood a s) := by
  unfold reportGood
  split
  · exact setEntry_touches _ _ _
  · exact .refl s

theorem signalCheck_touches (p : Port) (a : Nat) (s : State) :
    TouchesSettling s (signalCheck p a s) := by
  unfold signalCheck
  split
  · exact .refl s
  · rfl

theorem reportFailure_touches (a : Nat) (s : State) : TouchesSettling s (reportFailure a s) := by
  unfold reportFailure
  simp only
  split
  · split
    · split
      · split
        · exact (setEntry_touches _ _ _).toSettling
        · exact (setEntry_touches _ _ _).toSettling.trans (signalCheck_touches _ _ _)
      · exact (setEntry_touches _ _ _).toSettling
    · exact (setEntry_touches _ _ _).toSettling
  · exact .refl s

theorem answered_touches (a : Nat) (s : State) : TouchesRequests s (answered a s) := by
  unfold answered
  split
  · exact setEntry_touches _ _ _
  · exact .refl s

theorem storeStatus_touches (a : Nat) (r : StatusReport) (s : State) :
    TouchesSettling s (storeStatus a r s) := by
  unfold storeStatus
  split
  · exact setStatus_touches _ _ _
  · exact .refl s

theorem countMiss_touches (a : Nat) (s : State) : TouchesSettling s (countMiss a s) := by
  unfold countMiss
  simp only
  split
  · split
    · exact (setStatus_touches _ _ _).trans rfl
    · exact setStatus_touches _ _ _
  · exact .refl s

theorem markStatusLost_touches (a : Nat) (s : State) : TouchesSettling s (markStatusLost a s) := by
  unfold markStatusLost
  simp only
  split
  · exact setStatus_touches _ _ _
  · exact (setStatus_touches _ _ _).trans rfl

theorem clearStatus_touches (a : Nat) (s : State) : TouchesSettling s (clearStatus a s) :=
  setStatus_touches _ _ _

/-! ## Reach checks (chapter 9) -/

theorem loseModule_touches (p : Port) (a : Nat) (s : State) :
    TouchesSettling s (loseModule p a s) := by
  unfold loseModule
  simp only
  split
  · exact ((setEntry_touches _ _ _).toSettling.trans (markStatusLost_touches _ _)).trans rfl
  · rfl

theorem startCutOff_touches (p : Port) (s : State) : TouchesSettling s (startCutOff p s) := rfl

theorem completeLost_touches (c : Check) (x : Tag) (s : State) :
    TouchesRequests s (completeLost c x s) := by
  unfold completeLost
  split
  · split
    · exact finish_touches _ _ _
    · exact .refl s
  · exact .refl s

theorem endCheck_touches (p : Port) (s : State) : TouchesSettling s (endCheck p s) := by
  unfold endCheck
  simp only
  refine (foldl_touchesRequests (fun s' x => completeLost (s.checks.get p) x s')
    (fun s x => completeLost_touches _ x s) s.unfinishedTags s).toSettling.trans ?_
  split <;> rfl

theorem decideModules_touches (p : Port) (n : Nat) (s : State) :
    TouchesSettling s (decideModules p n s) := by
  induction n generalizing s with
  | zero => exact .refl s
  | succ n ih =>
    unfold decideModules
    simp only
    split
    · split
      · exact endCheck_touches _ _
      · split
        · exact (loseModule_touches _ _ _).trans (ih _)
        · rfl
    · exact .refl s

theorem advanceProbing_touches (p : Port) (s : State) : TouchesSettling s (advanceProbing p s) := by
  unfold advanceProbing
  simp only
  split
  · split
    · exact (setCheck_touches _ _ _).trans (endCheck_touches _ _)
    · split
      · exact .refl s
      · rfl
  · exact .refl s

theorem advanceCheck_touches (p : Port) (s : State) : TouchesSettling s (advanceCheck p s) :=
  (advanceProbing_touches p s).trans (decideModules_touches _ _ _)

theorem advanceAndFront_touches (p : Port) (s : State) : TouchesSettling s (advanceAndFront p s) :=
  (advanceCheck_touches p s).trans (frontPass_touches _).toSettling

/-- What follows in the same step from a change touches slots, queue, roster, mirror, ring state,
checks and sticky causes only. -/
theorem settleFrom_touches (p : Port) (s : State) : TouchesSettling s (settleFrom p s) :=
  ((frontPass_touches s).toSettling.trans (advanceAndFront_touches p _)).trans
    (advanceAndFront_touches p.other _)

theorem settle_touches (s : State) : TouchesSettling s (settle s) := settleFrom_touches _ s

theorem reportProbe_touches (a : Nat) (o : PortOutcome) (s : State) :
    TouchesSettling s (reportProbe a o s) := by
  unfold reportProbe
  split
  · split
    · exact ((reportGood_touches a s).trans (setToggle_touches _ _ _)).toSettling
    · exact (reportGood_touches a s).toSettling
  · exact reportFailure_touches _ _
  · exact reportFailure_touches _ _
  · exact reportFailure_touches _ _
  · exact .refl s
  · exact .refl s

theorem probingOutcome_touches (p : Port) (a : Nat) (o : PortOutcome) (s : State) :
    TouchesSettling s (probingOutcome p a o s) := by
  unfold probingOutcome
  simp only
  split
  · exact (answered_touches a s).toSettling.trans rfl
  all_goals first
    | exact .refl s
    | (split
       · exact .refl s
       · rfl)

theorem rerouteModule_touches (p : Port) (a : Nat) (s : State) :
    TouchesSettling s (rerouteModule p a s) :=
  (setEntry_touches _ _ _).toSettling.trans rfl

theorem loseDecided_touches (p : Port) (a : Nat) (s : State) :
    TouchesSettling s (loseDecided p a s) := (loseModule_touches p a s).trans rfl

theorem reroutingOutcome_touches (p : Port) (a : Nat) (o : PortOutcome) (s : State) :
    TouchesSettling s (reroutingOutcome p a o s) := by
  unfold reroutingOutcome
  split
  · split
    · exact rerouteModule_touches _ _ _
    · exact loseDecided_touches _ _ _
  all_goals first
    | exact .refl s
    | (split
       · exact .refl s
       · exact loseDecided_touches _ _ _)

theorem checkOutcome_touches (p q : Port) (a : Nat) (o : PortOutcome) (s : State) :
    TouchesSettling s (checkOutcome p q a o s) := by
  unfold checkOutcome
  simp only
  split
  · split
    · exact (reportProbe_touches a o s).trans (probingOutcome_touches _ _ _ _)
    · exact reportProbe_touches a o s
  · split
    · exact (reportProbe_touches a o s).trans (reroutingOutcome_touches _ _ _ _)
    · exact reportProbe_touches a o s

theorem ownPortLeft_touches (p : Port) (s : State) : TouchesSettling s (ownPortLeft p s) := by
  unfold ownPortLeft
  simp only
  split
  · split
    · exact startCutOff_touches _ _
    · exact .refl s
  · rfl
  · rfl

theorem losePending_touches (p : Port) (n : Nat) (s : State) :
    TouchesSettling s (losePending p n s) := by
  induction n generalizing s with
  | zero => exact .refl s
  | succ n ih =>
    unfold losePending
    split
    · exact .refl s
    · exact (loseModule_touches _ _ _).trans (ih _)

theorem otherPortLeft_touches (p : Port) (s : State) : TouchesSettling s (otherPortLeft p s) := by
  unfold otherPortLeft
  simp only
  split
  · exact (losePending_touches _ _ _).trans rfl
  · exact .refl s

theorem abandonCheck_touches (p : Port) (s : State) : TouchesSettling s (abandonCheck p s) := by
  unfold abandonCheck
  simp only
  split
  · exact .refl s
  · rfl

/-! ## Attempts and broadcasts (chapter 6) -/

theorem handFrame_touches (p : Port) (x : Xfer) (s : State) : TouchesOutcome s (handFrame p x s) := rfl

theorem makeAttempt_touches (p : Port) (x : Tag) (k : ReqKind) (s : State) :
    TouchesOutcome s (makeAttempt p x k s) := rfl

theorem makeResync_touches (p : Port) (x : Tag) (s : State) : TouchesOutcome s (makeResync p x s) := rfl

theorem startSlot_touches (p : Port) (x : Tag) (s : State) : TouchesOutcome s (startSlot p x s) := by
  unfold startSlot
  split
  · exact makeResync_touches _ _ _
  · split
    · exact makeAttempt_touches _ _ _ _
    · exact .refl s

theorem startBcast_touches (p : Port) (x : Tag) (s : State) : TouchesOutcome s (startBcast p x s) := rfl

theorem restartAcked_touches (a : Nat) (s : State) : TouchesSettling s (restartAcked a s) :=
  ((setToggle_touches a _ s).trans (setLastSeq_touches _ _ _)).toSettling.trans
    (clearStatus_touches _ _)

theorem reportAttempt_touches (k : ReqKind) (a : Nat) (f : Frame) (o : PortOutcome) (s : State) :
    TouchesSettling s (reportAttempt k a f o s) := by
  unfold reportAttempt
  split
  · simp only
    split
    · exact ((reportGood_touches a s).trans (setToggle_touches _ _ _)).toSettling
    · exact ((reportGood_touches a s).trans (setToggle_touches _ _ _)).toSettling
    · exact (reportGood_touches a s).toSettling.trans (restartAcked_touches _ _)
    · exact (reportGood_touches a s).toSettling
  · exact reportFailure_touches _ _
  · exact reportFailure_touches _ _
  · exact reportFailure_touches _ _
  · exact .refl s
  · exact .refl s

theorem waitOrFlush_touches (x : Tag) (b : Option Nat) (s : State) :
    TouchesRequests s (waitOrFlush x b s) := by
  unfold waitOrFlush
  split
  · exact completeActive_touches _ _ _ _ _
  · rfl

theorem busyDecision_touches (x : Tag) (s : State) : TouchesRequests s (busyDecision x s) := by
  unfold busyDecision
  simp only
  split
  · exact completeActive_touches _ _ _ _ _
  · exact (setSlot_touches _ _ _).trans (waitOrFlush_touches _ _ _)

theorem failedDecision_touches (x : Tag) (s : State) : TouchesRequests s (failedDecision x s) := by
  unfold failedDecision
  split
  · exact waitOrFlush_touches _ _ _
  · exact completeActive_touches _ _ _ _ _

theorem decideSlot_touches (x : Tag) (d : Decision) (s : State) :
    TouchesRequests s (decideSlot x d s) := by
  unfold decideSlot
  split
  · split <;> exact completeActive_touches _ _ _ _ _
  · split
    · exact completeActive_touches _ _ _ _ _
    · exact completeActive_touches _ _ _ _ _
    · exact busyDecision_touches _ _
    · exact failedDecision_touches _ _
    · exact waitOrFlush_touches _ _ _

theorem attemptOutcome_touches (x : Tag) (f : Frame) (o : PortOutcome) (s : State) :
    TouchesSettling s (attemptOutcome x f o s) := by
  unfold attemptOutcome
  simp only
  split
  · exact .refl s
  · exact (reportAttempt_touches _ _ _ _ _).trans
      ((setSlot_touches _ _ _).trans (decideSlot_touches _ _ _)).toSettling

theorem clearFollowUp_touches (p : Port) (s : State) : TouchesOutcome s (clearFollowUp p s) := rfl

theorem resyncMatched_touches (p : Port) (x : Tag) (s : State) :
    TouchesOutcome s (resyncMatched p x s) := by
  unfold resyncMatched
  split
  · exact (completeActive_touches _ _ _ _ _).toSettling.toOutcome
  · exact (setSlot_touches _ _ _).toSettling.toOutcome.trans (makeAttempt_touches _ _ _ _)

theorem resyncOutcome_touches (p : Port) (x : Tag) (o : PortOutcome) (s : State) :
    TouchesOutcome s (resyncOutcome p x o s) := by
  unfold resyncOutcome
  simp only
  refine ((reportProbe_touches ((s.slot x).target.getD 0) o s).toOutcome.trans
    (clearFollowUp_touches p _)).trans ?_
  split
  · exact (completeActive_touches _ _ _ _ _).toSettling.toOutcome
  · split
    · exact (completeActive_touches _ _ _ _ _).toSettling.toOutcome
    · exact resyncMatched_touches _ _ _
    · exact (completeActive_touches _ _ _ _ _).toSettling.toOutcome
    · exact (busyDecision_touches _ _).toSettling.toOutcome
    · exact (waitOrFlush_touches _ _ _).toSettling.toOutcome
    · exact (waitOrFlush_touches _ _ _).toSettling.toOutcome

theorem bcastMaybeDone_touches (x : Tag) (s : State) : TouchesRequests s (bcastMaybeDone x s) := by
  unfold bcastMaybeDone
  simp only
  split
  · exact .refl s
  · exact finish_touches _ _ _

theorem bcastOutcome_touches (p : Port) (x : Tag) (o : PortOutcome) (s : State) :
    TouchesRequests s (bcastOutcome p x o s) := by
  unfold bcastOutcome
  simp only
  exact (setSlot_touches _ _ _).trans (bcastMaybeDone_touches _ _)

theorem bcastPortGone_touches (p : Port) (x : Tag) (s : State) :
    TouchesRequests s (bcastPortGone p x s) := by
  unfold bcastPortGone
  simp only
  split
  · exact (setSlot_touches _ _ _).trans (bcastMaybeDone_touches _ _)
  · exact .refl s

theorem bcastPortGoneAll_touches (p : Port) (s : State) :
    TouchesRequests s (bcastPortGoneAll p s) :=
  foldl_touchesRequests _ (fun s x => bcastPortGone_touches p x s) _ _

/-! ## Sweep and notices (chapters 7 and 8) -/

theorem pollOutcome_touches (a : Nat) (o : PortOutcome) (s : State) :
    TouchesSettling s (pollOutcome a o s) := by
  unfold pollOutcome
  split
  · split
    · exact (reportGood_touches a s).toSettling.trans (storeStatus_touches _ _ _)
    · exact (reportGood_touches a s).toSettling.trans (countMiss_touches _ _)
  · exact (reportFailure_touches a s).trans (countMiss_touches _ _)
  · exact (reportFailure_touches a s).trans (countMiss_touches _ _)
  · exact (reportFailure_touches a s).trans (countMiss_touches _ _)
  · exact .refl s
  · exact .refl s

theorem release_touches (p : Port) (s : State) : TouchesOutcome s (release p s) := rfl

theorem judgeNotice_touches (p : Port) (a : Nat) (f : Frame) (s : State) :
    TouchesOutcome s (judgeNotice p a f s) := by
  unfold judgeNotice
  split
  · rfl
  · split
    · refine TouchesOutcome.trans ?_ (setLastSeq_touches _ _ _).toSettling.toOutcome
      rfl
    · exact .refl s

theorem setFetchWanted_touches (a : Nat) (b : Bool) (s : State) :
    TouchesSettling s (setFetchWanted a b s) := setStatus_touches _ _ _

theorem fetchOutcome_touches (p : Port) (a : Nat) (o : PortOutcome) (s : State) :
    TouchesOutcome s (fetchOutcome p a o s) := by
  unfold fetchOutcome
  split
  · split
    · exact (reportGood_touches a s).toSettling.toOutcome.trans (judgeNotice_touches _ _ _ _)
    · exact ((reportGood_touches a s).toSettling.trans
        (setFetchWanted_touches _ _ _)).toOutcome.trans (release_touches _ _)
  · exact (reportFailure_touches a s).toOutcome.trans (release_touches _ _)
  · exact (reportFailure_touches a s).toOutcome.trans (release_touches _ _)
  · exact (reportFailure_touches a s).toOutcome.trans (release_touches _ _)
  · exact release_touches _ _
  · exact release_touches _ _

/-! ## Census (chapter 4) -/

theorem failCensus_touches (r : CensusReason) (s : State) : TouchesOutcome s (failCensus r s) := by
  unfold failCensus
  split
  · rfl
  · exact .refl s

theorem endCensus_touches (r : CensusResult) (w : CensusReason) (s : State) :
    TouchesOutcome s (endCensus r w s) := rfl

theorem decideLock_touches (s : State) : TouchesOutcome s (decideLock s) := by
  unfold decideLock
  split
  · split <;> rfl
  · rfl

theorem finishCensus_touches (s : State) : TouchesOutcome s (finishCensus s) := by
  unfold finishCensus
  simp only
  refine TouchesOutcome.trans ?_ ((decideLock_touches _).trans (endCensus_touches _ _ _))
  rfl

theorem startCheckIfDown_touches (p : Port) (s : State) :
    TouchesSettling s (startCheckIfDown p s) := by
  unfold startCheckIfDown
  split
  · exact startCutOff_touches _ _
  · exact .refl s

theorem stopCensus_touches (c : StopCause) (s : State) : TouchesOutcome s (stopCensus c s) := by
  unfold stopCensus
  simp only
  refine TouchesOutcome.trans ?_ (startCheckIfDown_touches _ _).toOutcome
  refine TouchesOutcome.trans ?_ (startCheckIfDown_touches _ _).toOutcome
  refine TouchesOutcome.trans ?_ (frontPass_touches _).toSettling.toOutcome
  rfl

theorem afterClear_touches (s : State) : TouchesOutcome s (afterClear s) := by
  unfold afterClear
  split
  · exact stopCensus_touches _ _
  · split <;> rfl

theorem enterWalk_touches (w : CensusState) (s : State) : TouchesOutcome s (enterWalk w s) := rfl

theorem releaseSent_touches (p : Port) (s : State) : TouchesOutcome s (releaseSent p s) := rfl

theorem takeClaim_touches (p : Port) (f : Frame) (s : State) : TouchesOutcome s (takeClaim p f s) := by
  unfold takeClaim
  simp only
  exact (setEntry_touches _ _ _).toSettling.toOutcome.trans rfl

theorem afterClaim_touches (s : State) : TouchesOutcome s (afterClaim s) := by
  unfold afterClaim
  split
  · refine TouchesOutcome.trans ?_ (finishCensus_touches _)
    rfl
  · exact .refl s

theorem endWalkA_touches (s : State) : TouchesOutcome s (endWalkA s) := by
  unfold endWalkA
  split
  · split
    · exact enterWalk_touches _ _
    · exact finishCensus_touches _
  · exact .refl s

theorem endWalkB_touches (s : State) : TouchesOutcome s (endWalkB s) := by
  unfold endWalkB
  simp only
  split
  · refine TouchesOutcome.trans ?_ (finishCensus_touches _)
    rfl
  · rfl

theorem closeRing_touches (s : State) : TouchesOutcome s (closeRing s) := by
  unfold closeRing
  simp only
  split
  · refine TouchesOutcome.trans ?_ (finishCensus_touches _)
    rfl
  · rfl

theorem claimOutcomeA_touches (o : PortOutcome) (s : State) :
    TouchesOutcome s (claimOutcomeA o s) := by
  unfold claimOutcomeA
  split
  · split
    · exact (takeClaim_touches _ _ _).trans (afterClaim_touches _)
    · exact failCensus_touches _ _
  all_goals first
    | exact failCensus_touches _ _
    | exact .refl s
    | (split
       · exact endWalkA_touches _
       · exact .refl s)

theorem claimOutcomeB_touches (o : PortOutcome) (s : State) :
    TouchesOutcome s (claimOutcomeB o s) := by
  unfold claimOutcomeB
  split
  · split
    · exact (takeClaim_touches _ _ _).trans (afterClaim_touches _)
    · split
      · exact closeRing_touches _
      · exact failCensus_touches _ _
  all_goals first
    | exact failCensus_touches _ _
    | exact .refl s
    | (split
       · exact endWalkB_touches _
       · exact .refl s)

theorem censusOutcome_touches (p : Port) (o : PortOutcome) (s : State) :
    TouchesOutcome s (censusOutcome p o s) := by
  unfold censusOutcome
  split
  · split
    · exact releaseSent_touches _ _
    · exact failCensus_touches _ _
    · exact .refl s
  · exact claimOutcomeA_touches _ _
  · exact claimOutcomeB_touches _ _
  · exact .refl s

theorem censusPortLeft_touches (p : Port) (s : State) : TouchesOutcome s (censusPortLeft p s) := by
  unfold censusPortLeft
  split
  · split
    · exact (failCensus_touches _ _).trans rfl
    · exact .refl s
  · split
    · exact (failCensus_touches _ _).trans rfl
    · exact .refl s
  · split
    · exact (failCensus_touches _ _).trans rfl
    · exact .refl s
  · exact .refl s

/-! ## Ports (chapter 2) -/

/-- The outcome of an exchange touches nothing of the host port and no cursor, marker or epoch. -/
theorem applyOutcome_touches (p : Port) (x : Xfer) (o : PortOutcome) (s : State) :
    TouchesOutcome s (applyOutcome p x o s) := by
  unfold applyOutcome
  split
  · exact censusOutcome_touches _ _ _
  · exact (checkOutcome_touches _ _ _ _ _).toOutcome
  · exact (attemptOutcome_touches _ _ _ _).toOutcome
  · exact resyncOutcome_touches _ _ _ _
  · exact (bcastOutcome_touches _ _ _ _).toSettling.toOutcome
  · exact (pollOutcome_touches _ _ _).toOutcome
  · exact fetchOutcome_touches _ _ _ _

theorem setExch_touches (p : Port) (e : Exchange) (s : State) : TouchesOutcome s (s.setExch p e) := rfl

theorem setRx_touches (p : Port) (r : Receiving) (s : State) : TouchesOutcome s (s.setRx p r) := rfl

theorem endExchange_touches (p : Port) (x : Xfer) (o : PortOutcome) (s : State) :
    TouchesOutcome s (endExchange p x o s) :=
  ((setExch_touches p _ s).trans (applyOutcome_touches _ _ _ _)).trans (settle_touches _).toOutcome

theorem timeoutExchange_touches (p : Port) (x : Xfer) (s : State) :
    TouchesOutcome s (timeoutExchange p x s) :=
  (setPort_touches _ _ _).trans (endExchange_touches _ _ _ _)

theorem afterDiscard_touches (p : Port) (x : Xfer) (b : Bool) (s : State) :
    TouchesOutcome s (afterDiscard p x b s) := by
  unfold afterDiscard
  split
  · exact timeoutExchange_touches _ _ _
  · exact .refl s

theorem judgeInWindow_touches (p : Port) (x : Xfer) (b : Bool) (r : Reception) (s : State) :
    TouchesOutcome s (judgeInWindow p x b r s) := by
  unfold judgeInWindow
  split
  · exact (setPort_touches _ _ _).trans (endExchange_touches _ _ _ _)
  · split
    · exact (setPort_touches _ _ _).trans (endExchange_touches _ _ _ _)
    · exact afterDiscard_touches _ _ _ _
    · split
      · exact endExchange_touches _ _ _ _
      · exact (setPort_touches _ _ _).trans (afterDiscard_touches _ _ _ _)

theorem judgeOutside_touches (p : Port) (r : Reception) (s : State) :
    TouchesOutcome s (judgeOutside p r s) := by
  unfold judgeOutside
  split
  · exact setPort_touches _ _ _
  · split
    · exact setPort_touches _ _ _
    · exact .refl s
    · exact setPort_touches _ _ _

theorem endReception_touches (p : Port) (r : Reception) (s : State) :
    TouchesOutcome s (endReception p r s) := by
  unfold endReception
  split
  · exact .refl s
  · exact (setRx_touches _ _ _).trans (judgeOutside_touches _ _ _)
  · split
    · exact (setRx_touches _ _ _).trans (judgeInWindow_touches _ _ _ _ _)
    · exact setRx_touches _ _ _

theorem beginReception_touches (p : Port) (s : State) : TouchesOutcome s (beginReception p s) := by
  unfold beginReception
  split
  · exact setRx_touches _ _ _
  · exact setRx_touches _ _ _
  · exact .refl s

theorem loseReception_touches (p : Port) (s : State) : TouchesOutcome s (loseReception p s) := by
  unfold loseReception
  split
  · exact (setRx_touches _ _ _).trans (afterDiscard_touches _ _ _ _)
  · exact setRx_touches _ _ _

theorem enterUp_touches (p : Port) (s : State) : TouchesOutcome s (enterUp p s) := rfl

theorem dropLink_touches (p : Port) (l : LinkState) (s : State) :
    TouchesOutcome s (dropLink p l s) := rfl

theorem tellLinkLost_touches (p : Port) (e : Exchange) (n : Nat) (s : State) :
    TouchesOutcome s (tellLinkLost p e n s) := by
  unfold tellLinkLost
  split
  · exact applyOutcome_touches _ _ _ _
  · exact .refl s

theorem tellChecks_touches (p : Port) (s : State) : TouchesOutcome s (tellChecks p s) := by
  unfold tellChecks
  split
  · exact .refl s
  · exact ((otherPortLeft_touches _ _).trans (ownPortLeft_touches _ _)).toOutcome

theorem endTraffic_touches (p : Port) (l : LinkState) (s : State) :
    TouchesOutcome s (endTraffic p l s) :=
  ((dropLink_touches p l s).trans (tellLinkLost_touches _ _ _ _)).trans
    ((bcastPortGoneAll_touches _ _).trans (frontPass_touches _)).toSettling.toOutcome

theorem freeCount_touches (n : Nat) (s : State) : TouchesBlocks s { s with freeCount := n } := rfl

/-- Leaving UP touches the blocks, and the index of the free values goes on by one. -/
theorem leaveUp_touches (p : Port) (l : LinkState) (s : State) : TouchesBlocks s (leaveUp p l s) :=
  (((endTraffic_touches p l s).trans
    ((censusPortLeft_touches _ _).trans (tellChecks_touches _ _))).toBlocks.trans
    (freeCount_touches _ _)).trans (settleFrom_touches _ _).toOutcome.toBlocks

theorem disablePort_touches (p : Port) (s : State) : TouchesBlocks s (disablePort p s) := by
  unfold disablePort
  split
  · exact leaveUp_touches _ _ _
  · exact .refl s
  · rfl

theorem enablePort_touches (p : Port) (s : State) : TouchesBlocks s (enablePort p s) := by
  unfold enablePort
  split
  · rfl
  · exact .refl s

theorem frameGone_touches (p : Port) (x : Xfer) (s : State) : TouchesOutcome s (frameGone p x s) := by
  unfold frameGone
  split
  · exact endExchange_touches _ _ _ _
  · rfl

theorem windowRunsOut_touches (p : Port) (s : State) : TouchesOutcome s (windowRunsOut p s) := by
  unfold windowRunsOut
  split
  · split
    · rfl
    · exact timeoutExchange_touches _ _ _
  · exact .refl s

theorem startSweep_touches (p : Port) (c : SweepChoice) (s : State) :
    TouchesBlocks s (startSweep p c s) := by
  unfold startSweep
  split <;> rfl

theorem startHost_touches (p : Port) (h : HostFrame) (s : State) :
    TouchesBlocks s (startHost p h s) := by
  unfold startHost
  split
  · rfl
  · exact TouchesBlocks.trans (t := setMarker p .host s) rfl (startSlot_touches _ _ _).toBlocks

theorem handShared_touches (p : Port) (s : State) : TouchesBlocks s (handShared p s) := by
  unfold handShared
  split
  · exact .refl s
  · exact TouchesBlocks.trans (t := setMarker p .sweep s) rfl (startSweep_touches _ _ _)
  · exact startHost_touches _ _ _
  · split
    · exact TouchesBlocks.trans (t := setMarker p .sweep s) rfl (startSweep_touches _ _ _)
    · exact startHost_touches _ _ _

theorem handCensus_touches (p : Port) (s : State) : TouchesOutcome s (handCensus p s) := by
  unfold handCensus
  split
  · split
    · rfl
    · exact .refl s
  · split
    · rfl
    · exact .refl s
  · split
    · rfl
    · exact .refl s
  · exact .refl s

/-- The arbiter's choice touches the blocks only (R103, R104). -/
theorem arbitrate_touches (p : Port) (s : State) : TouchesBlocks s (arbitrate p s) := by
  unfold arbitrate
  split
  · exact (handCensus_touches _ _).toBlocks
  · split
    · split
      · rfl
      · split
        · rfl
        · exact .refl s
    · split
      · rfl
      · refine TouchesBlocks.trans (t := testBacklog p s) ?_ (handShared_touches _ _)
        unfold testBacklog
        split <;> rfl

/-! ## Events (Machine/Events.lean) -/

theorem loseSignal_touches (p : Port) (s : State) : TouchesOutcome s (loseSignal p s) :=
  (setPort_touches _ _ _).trans (loseReception_touches _ _)

theorem finishSending_touches (p : Port) (s : State) : TouchesOutcome s (finishSending p s) := by
  unfold finishSending
  split
  · exact frameGone_touches _ _ _
  · exact .refl s

theorem startFrame_touches (p : Port) (s : State) : TouchesOutcome s (startFrame p s) :=
  (endReception_touches _ _ _).trans (beginReception_touches _ _)

theorem makeClear_touches (s : State) : TouchesBlocks s (makeClear s) := by
  refine TouchesBlocks.trans ?_ (settle_touches _).toOutcome.toBlocks
  refine TouchesBlocks.trans ?_ (afterClear_touches _).toBlocks
  exact (flushQueued_touches s).toSettling.toOutcome.toBlocks.trans rfl

theorem endSettle_touches (s : State) : TouchesOutcome s (endSettle s) := by
  unfold endSettle
  simp only
  split <;> rfl

theorem makeStop_touches (s : State) : TouchesOutcome s (makeStop s) := by
  unfold makeStop
  split
  · exact (stopCensus_touches _ _).trans (settle_touches _).toOutcome
  · exact .refl s

theorem startProbing_touches (p : Port) (s : State) : TouchesSettling s (startProbing p s) :=
  (setCheck_touches _ _ _).trans (settle_touches _)

theorem startCensus_touches (s : State) : TouchesOutcome s (startCensus s) := by
  unfold startCensus
  simp only
  refine TouchesOutcome.trans ?_ (abandonCheck_touches _ _).toOutcome
  refine TouchesOutcome.trans ?_ (abandonCheck_touches _ _).toOutcome
  refine TouchesOutcome.trans ?_ (flushAll_touches _).toSettling.toOutcome
  rfl

end Sys2Proof.Safety
end

