-- ==== Sys2Proof/Laws/HostPort.lean ====
section
/-! SUPPORT. What a host command does where it can act: the owner's effect, and the address counter past the
register (R169, R170); and where it cannot: nothing. -/

namespace Sys2Proof.Safety

open Sys2Proof.Machine

theorem hostWrite_writing {s : State} {a : RegAddr} (f : State → State) (h : WritingAt s a) :
    hostWrite a f s = counterPast a (f s) := by
  obtain ⟨h1, h2, h3⟩ := h
  simp [hostWrite, State.writeAt, h1, h2, h3]

theorem hostWrite_cases (a : RegAddr) (f : State → State) (s : State) :
    (WritingAt s a ∧ hostWrite a f s = counterPast a (f s)) ∨ hostWrite a f s = s := by
  unfold hostWrite State.writeAt
  split
  · rename_i h
    simp at h
    exact Or.inl ⟨⟨h.1.1, h.1.2, h.2⟩, rfl⟩
  · exact Or.inr rfl

theorem hostRead_reading {s : State} {a : RegAddr} (f : State → State) (h : ReadingAt s a) :
    hostRead a f s = counterPast a (loadSdo (s.regRead a) (f s)) := by
  obtain ⟨h1, h2, h3⟩ := h
  simp [hostRead, takeReadByte, State.readAt, State.readOpen, h1, h2, h3]

theorem hostRead_cases (a : RegAddr) (f : State → State) (s : State) :
    (ReadingAt s a ∧ hostRead a f s = counterPast a (loadSdo (s.regRead a) (f s)))
      ∨ hostRead a f s = s := by
  by_cases h : s.readAt a = true
  · have h' : ReadingAt s a := by
      simp [State.readAt, State.readOpen] at h
      exact ⟨h.1.1, h.1.2, h.2⟩
    exact Or.inl ⟨h', hostRead_reading f h'⟩
  · exact Or.inr (if_neg h)

/-- What a step with no command waiting does at the host port: it takes a read byte, which writes the SDO byte
and the address counter only, or nothing (R169, R170, logs 1, 5). -/
theorem plainReadByte_cases (s : State) :
    plainReadByte s = { s with sdoByte := s.regRead s.addrCounter, addrCounter := s.addrCounter + 1 }
      ∨ plainReadByte s = s := by
  unfold plainReadByte
  split
  · exact Or.inl rfl
  · exact Or.inr rfl

/-! ## Commands by row -/

theorem exec_submit {s : State} (h : WritingAt s 0x0008) :
    exec .submit s = .next (counterPast 0x0008 (issue .submit submitAnswer s)) :=
  congrArg Host.Outcome.next (hostWrite_writing _ h)

theorem exec_cancel {s : State} (h : WritingAt s 0x0008) :
    exec .cancel s = .next (counterPast 0x0008 (issue .cancel cancelAnswer s)) :=
  congrArg Host.Outcome.next (hostWrite_writing _ h)

theorem exec_popCompletion {s : State} (h : WritingAt s 0x0008) :
    exec .popCompletion s = .next (counterPast 0x0008 (issue .popCompletion popCompletionAnswer s)) :=
  congrArg Host.Outcome.next (hostWrite_writing _ h)

theorem exec_popNotice {s : State} (h : WritingAt s 0x0008) :
    exec .popNotice s = .next (counterPast 0x0008 (issue .popNotice popNoticeAnswer s)) :=
  congrArg Host.Outcome.next (hostWrite_writing _ h)

theorem exec_startCensus {s : State} (h : WritingAt s 0x0008) :
    exec .startCensus s = .next (counterPast 0x0008 (issue .startCensus startCensusAnswer s)) :=
  congrArg Host.Outcome.next (hostWrite_writing _ h)

theorem exec_abortCensus {s : State} (h : WritingAt s 0x0008) :
    exec .abortCensus s = .next (counterPast 0x0008 (issue .abortCensus abortCensusAnswer s)) :=
  congrArg Host.Outcome.next (hostWrite_writing _ h)

theorem exec_acceptRoster {s : State} (h : WritingAt s 0x0008) :
    exec .acceptRoster s = .next (counterPast 0x0008 (issue .acceptRoster acceptRosterAnswer s)) :=
  congrArg Host.Outcome.next (hostWrite_writing _ h)

theorem exec_clearAllChanged {s : State} (h : WritingAt s 0x0008) :
    exec .clearAllChanged s = .next (counterPast 0x0008 (issue .clearAllChanged clearAllChangedAnswer s)) :=
  congrArg Host.Outcome.next (hostWrite_writing _ h)

theorem exec_softReset {s : State} (h : WritingAt s 0x0008) :
    exec .softReset s = .next (counterPast 0x0008 (issue .softReset softResetAnswer s)) :=
  congrArg Host.Outcome.next (hostWrite_writing _ h)

theorem exec_unknownCommand {s : State} {v : Byte} (h : WritingAt s 0x0008) :
    exec (.unknownCommand v) s = .next (counterPast 0x0008 (writeCmd v s)) :=
  congrArg Host.Outcome.next (hostWrite_writing _ h)

theorem exec_setWatch {s : State} (h : WritingAt s 0x0141) :
    exec .setWatch s = .next (counterPast 0x0141 (writeMirrorCtrl 1 s)) :=
  congrArg Host.Outcome.next (hostWrite_writing _ h)

theorem exec_clearWatch {s : State} (h : WritingAt s 0x0141) :
    exec .clearWatch s = .next (counterPast 0x0141 (writeMirrorCtrl 2 s)) :=
  congrArg Host.Outcome.next (hostWrite_writing _ h)

theorem exec_clearChanged {s : State} (h : WritingAt s 0x0141) :
    exec .clearChanged s = .next (counterPast 0x0141 (writeMirrorCtrl 3 s)) :=
  congrArg Host.Outcome.next (hostWrite_writing _ h)

theorem exec_mirrorCtrlUndefinedAction {s : State} {v : Byte} (h : WritingAt s 0x0141) :
    exec (.mirrorCtrlUndefinedAction v) s = .next (counterPast 0x0141 (writeMirrorCtrl v s)) :=
  congrArg Host.Outcome.next (hostWrite_writing _ h)

theorem exec_rosterSelWrite {s : State} {v : Byte} (h : WritingAt s 0x0100) :
    exec (.rosterSelWrite v) s = .next (counterPast 0x0100 (writeRosterSel v s)) :=
  congrArg Host.Outcome.next (hostWrite_writing _ h)

theorem exec_mirrorSelWrite {s : State} {v : Byte} (h : WritingAt s 0x0140) :
    exec (.mirrorSelWrite v) s = .next (counterPast 0x0140 (writeMirrorSel v s)) :=
  congrArg Host.Outcome.next (hostWrite_writing _ h)

theorem exec_causeClear {s : State} {w : CauseByte} {v : Byte} (h : WritingAt s (Reg.cause w)) :
    exec (.causeClear w v) s = .next (counterPast (Reg.cause w) (writeCause w v s)) :=
  congrArg Host.Outcome.next (hostWrite_writing _ h)

theorem exec_enableWrite {s : State} {w : CauseByte} {v : Byte} (h : WritingAt s (Reg.enable w)) :
    exec (.enableWrite w v) s = .next (counterPast (Reg.enable w) (writeEnable w v s)) :=
  congrArg Host.Outcome.next (hostWrite_writing _ h)

theorem exec_portEnableSet {s : State} {p : Port} {v : Byte} (h : WritingAt s 0x0020) :
    exec (.portEnableSet p v) s = .next (counterPast 0x0020 (writeControl v s)) :=
  congrArg Host.Outcome.next (hostWrite_writing _ h)

theorem exec_portEnableClear {s : State} {p : Port} {v : Byte} (h : WritingAt s 0x0020) :
    exec (.portEnableClear p v) s = .next (counterPast 0x0020 (writeControl v s)) :=
  congrArg Host.Outcome.next (hostWrite_writing _ h)

theorem exec_sweepEnableOn {s : State} {v : Byte} (h : WritingAt s 0x0020) :
    exec (.sweepEnableOn v) s = .next (counterPast 0x0020 (writeControl v s)) :=
  congrArg Host.Outcome.next (hostWrite_writing _ h)

theorem exec_sweepEnableOff {s : State} {v : Byte} (h : WritingAt s 0x0020) :
    exec (.sweepEnableOff v) s = .next (counterPast 0x0020 (writeControl v s)) :=
  congrArg Host.Outcome.next (hostWrite_writing _ h)

theorem exec_replyBaseLowWrite {s : State} {v : Byte} (h : WritingAt s 0x0021) :
    exec (.replyBaseLowWrite v) s = .next (counterPast 0x0021 (writeReplyBaseLow v s)) :=
  congrArg Host.Outcome.next (hostWrite_writing _ h)

theorem exec_replyBaseHighWrite {s : State} {v : Byte} (h : WritingAt s 0x0022) :
    exec (.replyBaseHighWrite v) s = .next (counterPast 0x0022 (writeReplyBaseHigh v s)) :=
  congrArg Host.Outcome.next (hostWrite_writing _ h)

theorem exec_registerWrite {s : State} {a : RegAddr} {v : Byte} (h : WritingAt s a) :
    exec (.registerWrite a v) s = .next (counterPast a (writeRegister a v s)) :=
  congrArg Host.Outcome.next (hostWrite_writing _ h)

/-! ## Answers to commands (R172) -/

theorem answerCommand_refused (code : Byte) (r : RefuseReason) (s : State) :
    counterPast 0x0008 (answerCommand code (.refused r) s) = refusedState s code r := rfl

theorem answerCommand_taken (code : Byte) (s t : State) :
    counterPast 0x0008 (answerCommand code (.taken t) s)
      = { t with addrCounter := 0x0009, cmd := code, cmdResult := .done } := rfl

end Sys2Proof.Safety
end

