-- ==== Sys2Proof/Laws/Link.lean ====
section
/-! SUPPORT. What idle symbols do to a port (R27): one symbol, and a whole run. -/

namespace Sys2Proof.Safety

open Sys2Proof.Machine

/-- An idle symbol outside ALIGNING changes nothing. -/
theorem hearIdle_elsewhere (p : Port) (s : State) (h : (s.port p).link ≠ .aligning) :
    hearIdle p s = s := by
  simp [hearIdle, State.linkIs, h]

/-- In ALIGNING a symbol before the 64th makes the run one longer. -/
theorem hearIdle_counts (p : Port) (s : State) (h : (s.port p).link = .aligning)
    (k : (s.port p).idleRun < 63) :
    hearIdle p s = s.setPort p { s.port p with idleRun := (s.port p).idleRun + 1 } := by
  simp [hearIdle, State.linkIs, Config.alignRun, h, k]

/-- In ALIGNING the 64th symbol takes the port to UP. -/
theorem hearIdle_last (p : Port) (s : State) (h : (s.port p).link = .aligning)
    (k : 63 ≤ (s.port p).idleRun) : hearIdle p s = enterUp p s := by
  unfold hearIdle State.linkIs
  rw [if_pos (by simp [h]), if_neg]
  unfold Config.alignRun
  omega

/-- A port that enters UP forgets how far its run had come. -/
theorem enterUp_setIdleRun (p : Port) (n : Nat) (s : State) :
    enterUp p (s.setPort p { s.port p with idleRun := n }) = enterUp p s := by
  cases p <;> rfl

/-- A run long enough takes a port in ALIGNING to UP. -/
theorem hearIdles_aligning (p : Port) (n : Nat) (s : State) (h : (s.port p).link = .aligning)
    (k : (s.port p).idleRun + n = 63) : hearIdles p (n + 1) s = enterUp p s := by
  induction n generalizing s with
  | zero => exact hearIdle_last p s h (Nat.le_of_eq k.symm)
  | succ n ih =>
    rw [hearIdles, hearIdle_counts p s h (by omega), ih, enterUp_setIdleRun]
    · rw [State.port_setPort_same]; exact h
    · rw [State.port_setPort_same]; show (s.port p).idleRun + 1 + n = 63; omega

/-- IDLE_RUN_COMPLETE takes a port in ALIGNING to UP, whatever its run has come to. -/
theorem completeRun_aligning (p : Port) (s : State) (h : (s.port p).link = .aligning) :
    completeRun p s = enterUp p s := by
  unfold completeRun ChainPort.idleMissing Config.alignRun
  by_cases k : (s.port p).idleRun ≤ 63
  · exact hearIdles_aligning p _ s h (by omega)
  · rw [show 64 - 1 - (s.port p).idleRun = 0 by omega]
    exact hearIdle_last p s h (by omega)

end Sys2Proof.Safety
end

