-- ==== Sys2Proof/Tests/Slice0.lean ====
section
/-! SUPPORT. The model's own tests: ill-formed commands refused, the values the spec works out, single
steps on small states, and for every statement with hypotheses a state that meets them. -/

namespace Sys2Proof.Tests

-- one theorem after the other: many kernel evaluations at once ask for a stack each
set_option Elab.async false

open Sys2Proof.Machine Sys2Proof.Safety

/-! ## Small states -/

/-- A write transaction standing in DATA at a register. -/
def writing (a : RegAddr) (s : State) : State :=
  { s with csnHigh := false, spi := .data false, addrCounter := a }

/-- A read transaction standing in DATA at a register. -/
def reading (a : RegAddr) (s : State) : State :=
  { s with csnHigh := false, spi := .data true, addrCounter := a }

/-- After reset, both ports UP with no exchange in flight. -/
def linked : State :=
  { State.reset with
    ports := { a := { ChainPort.reset with link := .up, exch := .idle }
               b := { ChainPort.reset with link := .up, exch := .idle } } }

/-- An identity. -/
def ident1 : Identity :=
  { maker := 1, typeCode := 0x0142, serial := 0xA1B2C3D4E5, revision := 0, noticeCapable := true
    recordMax := 16 }

/-- A module on port A at hop 1. -/
def module1 : RosterEntry := createdEntry .a 1 ident1

/-- Both ports UP and module 1 on port A. -/
def manned : State := { linked.setEntry 1 module1 with rosterState := .valid }

/-- Port A UP with its module, port B DOWN. -/
def oneSided : State := manned.setPort .b ChainPort.reset

/-- A second module, at hop 2 of port A and hop 1 of port B; module 1 is at hop 2 of port B. -/
def paired : State :=
  (manned.setEntry 1 { module1 with hops := { a := some 1, b := some 2 } }).setEntry 2
    { createdEntry .a 2 ident1 with hops := { a := some 2, b := some 1 } }

/-- A PROBE of port A's check awaiting its reply on a port. -/
def probing (q : Port) (a : Nat) (c : Check) (r : Receiving) (s : State) : State :=
  ((s.setCheck .a c).setExch q
    (.awaiting { frame := headFrame .probe 0 a 0 [], hops := 1, owner := .check .a } 108 false)).setRx
      q r

/-- A request to module 1. -/
def request (code : Byte) (st : SlotState) : Slot :=
  { Slot.free with state := st, kindCode := code, target := some 1, length := 1, writeData := [7] }

/-- A broadcast for both ports. -/
def broadcast (st : SlotState) : Slot :=
  { request 3 st with target := none, bcastPorts := { a := true, b := true } }

/-- An exchange of port A awaiting its reply. -/
def awaiting (k : Kind) (o : Owner) (s : State) : State :=
  s.setExch .a (.awaiting { frame := headFrame k 0 1 0 [], hops := 1, owner := o } 108 false)

/-- That port receiving a frame of the exchange. -/
def answering (k : Kind) (o : Owner) (s : State) : State := (awaiting k o s).setRx .a .ofExchange

/-- A frame of module 1 to the head. -/
def reply (k : Kind) (c : BitVec 4) (payload : List Byte) : Frame :=
  { kind := k, control := c, dest := 0, source := 1, register := 0, payload := payload }

/-- The state a command leaves, the state before where it did not go on. -/
def after (c : Instr) (s : State) : State :=
  match exec c s with
  | .next t => t
  | _ => s

theorem exec_after (c : Instr) (s : State) : exec c s = .next (after c s) := by
  cases c <;> rfl

/-- What holds of port A and of port B holds of every port. -/
theorem onPorts {holds : Port → Prop} (onA : holds .a) (onB : holds .b) : ∀ p, holds p
  | .a => onA
  | .b => onB

/-- Both checks IDLE, as after reset. -/
theorem checks_idle {s : State} (h : s.checks = { a := Check.reset, b := Check.reset }) :
    ∀ q, (s.checks.get q).state = .idle := by
  intro q; rw [h]; cases q <;> rfl

/-! ## Ill-formed commands (WellFormed) -/

theorem test_wf_named_code_refused : Instr.wellFormed (.unknownCommand 0x5A) = false := by decide
theorem test_wf_code_zero_unknown : Instr.wellFormed (.unknownCommand 0) = true := by decide
theorem test_wf_defined_action_refused :
    Instr.wellFormed (.mirrorCtrlUndefinedAction 3) = false := by decide
theorem test_wf_own_row_refused : Instr.wellFormed (.registerWrite 0x0008 1) = false := by decide
theorem test_wf_enable_set_refused : Instr.wellFormed (.portEnableSet .b 0x02) = false := by decide
theorem test_wf_enable_clear_refused :
    Instr.wellFormed (.portEnableClear .a 0x02) = false := by decide
theorem test_wf_sweep_on_refused : Instr.wellFormed (.sweepEnableOn 0x06) = false := by decide
theorem test_wf_sweep_off_refused : Instr.wellFormed (.sweepEnableOff 0x07) = false := by decide

/-! ## The queue -/

theorem test_no_word_spells_a_command : decodeTableWord 8 1 = none := by decide
theorem test_fetch_word_changes_nothing : State.reset.withFetchWord 8 1 = State.reset := by
  decide +kernel
theorem test_idle_symbol_counts :
    (match step (State.reset.setPort .a { ChainPort.reset with link := .aligning, idleRun := 62 }) with
    | .next t => ((t.port .a).idleRun, (t.port .a).link)
    | _ => (0, .down)) = (63, .aligning) := by decide +kernel
theorem test_64th_idle_symbol :
    (match step (State.reset.setPort .b { ChainPort.reset with link := .aligning, idleRun := 63 }) with
    | .next t => ((t.port .b).exch, (t.port .b).link, t.sticky.portChange)
    | _ => (.held, .down, false)) = (.idle, .up, true) := by decide +kernel
theorem test_empty_queue_idles : step State.reset = .next State.reset := rfl
theorem test_front_command_runs :
    step { State.reset with pending := [.csnFall, .msecTick] }
      = .next { State.reset with csnHigh := false, spi := .header, pending := [.msecTick] } := rfl

/-! ## Values the spec works out -/

/-- R4's check value. -/
theorem test_crc16_check :
    crc16 [0x31, 0x32, 0x33, 0x34, 0x35, 0x36, 0x37, 0x38, 0x39] = 0x29B1 := by decide +kernel

/-- R57's check value. -/
theorem test_crc32_check :
    crc32 [0x31, 0x32, 0x33, 0x34, 0x35, 0x36, 0x37, 0x38, 0x39] = 0xCBF43926 := by decide +kernel

/-- The entry of R57's example. -/
theorem test_fingerprint_bytes :
    fingerprintBytes 3
      { maker := 0, typeCode := 0x0142, serial := 0x00A1B2C3D4E5, revision := 0
        noticeCapable := false, recordMax := 0 }
      = [0x03, 0x42, 0x01, 0xE5, 0xD4, 0xC3, 0xB2, 0xA1, 0x00] := by decide +kernel

/-- The three values R175 works out. -/
theorem test_reply_base_105 : replyBaseStored 0x69 0x00 = 100 := by decide
theorem test_reply_base_3000 : replyBaseStored 0xB8 0x0B = 2550 := by decide
theorem test_reply_base_0 : replyBaseStored 0x00 0x00 = 20 := by decide

/-- R33's window at the defaults, for the farthest module. -/
theorem test_window_62 : State.reset.windowUs 62 = 596 := by decide

/-- The hops_b the text after R76 gives for a ring of five. -/
theorem test_ring_of_five :
    (closedHops 5 { module1 with hops := { a := some 2, b := none } }).hops.b = some 4
      ∧ (closedHops 5 { module1 with hops := { a := some 5, b := none } }).hops.b = some 1 := by
  decide +kernel

/-- Section 11.1: an ACK from module 1, its CRC computed by R4. -/
theorem test_ack_on_the_wire : (reply .ack 0 []).body = [0xB0, 0x00, 0x01, 0x00] := by decide

/-- Section 11.1: a WRITE of 0x07 to register 0x20 of module 5 with toggle 1. -/
theorem test_write_on_the_wire :
    (headFrame .write 1 5 0x20 [0x07]).body = [0x51, 0x05, 0x00, 0x20, 0x01, 0x07] := by decide

/-! ## Single steps -/

theorem test_submit_takes_tag_0 :
    (after .submit (writing 0x0008 State.reset)).submitResult = .accepted 0 := by decide +kernel
theorem test_cancel_ends_queued :
    ((after .cancel (writing 0x0008 (manned.setSlot 0 (request 1 .queued)))).slot 0).state
      = .done := by decide +kernel
theorem test_start_census_drains :
    (after .startCensus (writing 0x0008 linked)).census.state = .draining := by decide +kernel
theorem test_census_clear_releases :
    (after .censusClear (after .startCensus (writing 0x0008 linked))).census.state = .releasing := by
  decide +kernel
theorem test_census_clear_counts_epoch :
    (after .censusClear (after .startCensus (writing 0x0008 linked))).epoch = 1 := by decide +kernel
theorem test_release_goes_out_on_a :
    (after (.arbiterHand .a)
      (after .censusClear (after .startCensus (writing 0x0008 linked)))).lineOut .a
      = .frame releaseFrame.wire := by decide +kernel
theorem test_unknown_code_raises_cmd_error :
    (after (.unknownCommand 0) (writing 0x0008 State.reset)).regRead 0x0009 = 0x62 := by
  decide +kernel
theorem test_submit_full_byte :
    (after .submit (writing 0x0008
      { State.reset with slots := Vector.replicate 16 (request 1 .queued) })).regRead 0x000A
      = 2 := by decide +kernel
theorem test_counter_reads_and_clears :
    (after (.counterRead .b .crcErrors) (reading 0x0049
      (State.reset.setPort .b { ChainPort.reset with crcErrors := 9 }))).sdoByte = 9 := by
  decide +kernel
theorem test_read_away_from_its_register :
    after .dupNoticesRead (reading 0x0050 State.reset) = reading 0x0050 State.reset := by
  decide +kernel
theorem test_plain_read_byte :
    step (reading 0x0001 State.reset)
      = .next { reading 0x0001 State.reset with addrCounter := 0x0002, sdoByte := 0x24 } := by
  rfl
theorem test_break_before_hop_2 :
    ((after (.replyWindowExpiry .a) (probing .a 2 { Check.reset with
      state := .probing, begun := true, probeList := [1, 2], cursor := 1, tries := 2 } .nothing
        paired)).checks.get .a).breakLocation = 1 := by decide +kernel
theorem test_timeouts_hold :
    (after (.timeoutsLowRead .a) (reading 0x0043
      (State.reset.setPort .a { ChainPort.reset with timeouts := 0x1234 }))).regRead 0x0044
      = 0x12 := by decide +kernel
theorem test_soft_reset_keeps_parameters :
    (after .softReset (writing 0x0008
      { linked with params := { Params.reset with hopAllow := 9 } })).params.hopAllow = 9 := by
  decide +kernel
theorem test_port_enable_clear_disables :
    ((after (.portEnableClear .a 0x04) (writing 0x0020 State.reset)).port .a).link = .disabled := by
  decide +kernel
theorem test_busy_waits :
    ((after (.frameReceived .a (.content (reply .nak 0 [1]).wire))
      (answering .read (.attempt 0) (manned.setSlot 0 (request 1 .active)))).slot 0).backoff
      = some 1000 := by decide +kernel
theorem test_failed_write_is_unsure :
    ((after (.replyWindowExpiry .a)
      (awaiting .write (.attempt 0)
        ({ manned with params := { Params.reset with retryLimit := 0 } }.setSlot 0
          { request 2 .active with attempts := 1 }))).entry 1).toggle = .unsure := by decide +kernel
theorem test_wait_high_starts :
    (after .csnFall State.reset).spi = .header := by decide +kernel
theorem test_overrun_address_wraps :
    (after (.registerWrite 0x7FFF 1) (writing 0x7FFF State.reset)).addrCounter = 0 := by
  decide +kernel

theorem test_backlog_is_raised :
    (after (.arbiterHand .a)
      { manned.setStatus 1 { MirrorEntry.empty with state := .fresh, fetchWanted := true } with
        params := { Params.reset with sweepEnable := true }
        notices := List.replicate 32 { source := 1, epoch := 0, seq := 0, code := 0, payload := []
                                       gap := false, arrival := 0 } }).sticky.noticeBacklog
      = true := by decide +kernel
theorem test_poll_refused_is_a_miss :
    ((after (.frameReceived .a (.content (reply .nak 0 [4]).wire))
      (answering .poll (.poll 1) manned)).status 1).missCount = 1 := by decide +kernel

/-! ## Witnesses: every statement's hypotheses can be met -/

theorem writing_at (a : RegAddr) (s : State) (h : s.inReset = false) :
    WritingAt (writing a s) a := ⟨h, rfl, rfl⟩

theorem reading_at (a : RegAddr) (s : State) (h : s.inReset = false) :
    ReadingAt (reading a s) a := ⟨h, rfl, rfl⟩

/-- For `SubmitTakesLowestFreeSlotOrFull`, the slot not the first. -/
theorem witness_submit_free :
    ∃ (s : State) (tag : Tag), WritingAt s 0x0008 ∧ (s.slot tag).state = .free
      ∧ ∀ u : Tag, u < tag → (s.slot u).state ≠ .free :=
  ⟨writing 0x0008 (manned.setSlot 0 (request 1 .queued)), 1, writing_at _ _ rfl,
    by decide +kernel⟩

/-- For `SubmitTakesLowestFreeSlotOrFull`, no slot free. -/
theorem witness_submit_full :
    ∃ s : State, WritingAt s 0x0008 ∧ ∀ u : Tag, (s.slot u).state ≠ .free :=
  ⟨writing 0x0008 { manned with slots := Vector.replicate 16 (request 1 .queued) },
    writing_at _ _ rfl, by decide +kernel⟩

/-- Mailboxes that `SubmitRejectsBadRequest` speaks of, at the edges of its ranges. -/
def badMailboxes : List Mailbox :=
  [{ Mailbox.reset with kind := 0 }, { Mailbox.reset with kind := 6 },
   { Mailbox.reset with kind := 3, length := 0 }, { Mailbox.reset with kind := 3, length := 33 },
   { Mailbox.reset with kind := 4, target := 1, length := 1 },
   { Mailbox.reset with kind := 5, target := 0 }, { Mailbox.reset with kind := 5, target := 63 }]

/-- For `SubmitRejectsBadRequest`. -/
theorem witness_submit_bad :
    ∀ m, m ∈ badMailboxes →
      let s := writing 0x0008 { manned with mailbox := m }
      WritingAt s 0x0008 ∧ (s.slot 0).state = .free
        ∧ (let k := s.mailbox.kind.toNat
           let n := s.mailbox.length.toNat
           let a := s.mailbox.target.toNat
           (k = 0 ∨ 5 < k) ∨ (1 ≤ k ∧ k ≤ 3 ∧ (n = 0 ∨ 32 < n)) ∨ ((k = 4 ∨ k = 5) ∧ n ≠ 0)
             ∨ ((k = 1 ∨ k = 2 ∨ k = 4 ∨ k = 5) ∧ (a = 0 ∨ 62 < a))) := by
  intro m hm
  refine ⟨writing_at _ _ rfl, rfl, ?_⟩
  revert m
  unfold badMailboxes
  simp only [writing]
  decide +kernel

/-- For `SubmitRefusesAbsentModule`: a READ of the vacant address 62, and of the lost address 1. -/
theorem witness_submit_absent (st : EntryState) (h : st = .vacant ∨ st = .lost) :
    ∃ s : State, WritingAt s 0x0008 ∧ (s.slot 0).state = .free ∧ mailboxValid s.mailbox = true
      ∧ s.mailbox.kind ≠ 3 ∧ s.rosterState ≠ .building
      ∧ (∀ u : Tag, (s.slot u).unfinished = true →
          (s.slot u).target ≠ some s.mailbox.target.toNat)
      ∧ (s.entry s.mailbox.target.toNat).state = st := by
  rcases h with rfl | rfl
  · exact ⟨writing 0x0008 { manned with
        mailbox := { Mailbox.reset with kind := 1, target := 62, length := 32 } },
      writing_at _ _ rfl, by decide +kernel⟩
  · exact ⟨writing 0x0008 { manned.setEntry 1 (lostEntry module1) with
        mailbox := { Mailbox.reset with kind := 1, target := 1, length := 1 } },
      writing_at _ _ rfl, by decide +kernel⟩

/-- For `CancelEndsWaitingSlot`, either state. -/
theorem witness_cancel_waiting (st : SlotState) (h : st = .queued ∨ st = .waitingRetry) :
    ∃ (s : State) (tag : Tag), WritingAt s 0x0008 ∧ s.cancelTag.toNat = tag.val
      ∧ (s.slot tag).state = st := by
  rcases h with rfl | rfl
  · exact ⟨writing 0x0008 (manned.setSlot 0 (request 1 .queued)), 0, writing_at _ _ rfl,
      by decide +kernel⟩
  · exact ⟨writing 0x0008 (manned.setSlot 0 (request 1 .waitingRetry)), 0, writing_at _ _ rfl,
      by decide +kernel⟩

/-- For `CancelOfActiveSlot`, first clause. -/
theorem witness_cancel_attempt :
    ∃ (s : State) (tag : Tag), WritingAt s 0x0008 ∧ s.cancelTag.toNat = tag.val
      ∧ (s.slot tag).state = .active ∧ (s.slot tag).kindCode ≠ 3 :=
  ⟨writing 0x0008 (awaiting .read (.attempt 0) (manned.setSlot 0 (request 1 .active))), 0,
    writing_at _ _ rfl, by decide +kernel⟩

/-- For `CancelOfActiveSlot`, a broadcast of which nothing is being sent. -/
theorem witness_cancel_broadcast_at_rest :
    ∃ (s : State) (tag : Tag), WritingAt s 0x0008 ∧ s.cancelTag.toNat = tag.val
      ∧ (s.slot tag).state = .active ∧ (s.slot tag).kindCode = 3
      ∧ ∀ p, s.carries p (.bcast tag) = false :=
  ⟨writing 0x0008 (manned.setSlot 0 (broadcast .active)), 0, writing_at _ _ rfl,
    by decide +kernel, by decide +kernel, by decide +kernel,
    by intro p; cases p <;> decide +kernel⟩

/-- For `CancelOfActiveSlot`, a broadcast being sent on port A. -/
theorem witness_cancel_broadcast_sent :
    ∃ (s : State) (tag : Tag), WritingAt s 0x0008 ∧ s.cancelTag.toNat = tag.val
      ∧ (s.slot tag).state = .active ∧ (s.slot tag).kindCode = 3
      ∧ ∃ p, s.carries p (.bcast tag) = true :=
  ⟨writing 0x0008 (awaiting .bcastWrite (.bcast 0) (manned.setSlot 0 (broadcast .active))), 0,
    writing_at _ _ rfl, by decide +kernel, by decide +kernel, by decide +kernel, .a,
    by decide +kernel⟩

/-- For `RefusedCommandsChangeNothing`: CANCEL of no slot and of a FREE one; a census running and none. -/
theorem witness_refused :
    (∃ s : State, WritingAt s 0x0008 ∧ s.cancelTag.toNat = 16 ∧ s.census.state ≠ .idle)
      ∧ (∃ s : State, WritingAt s 0x0008 ∧ s.census.state = .idle
          ∧ ∀ tag : Tag, s.cancelTag.toNat = tag.val →
              (s.slot tag).state = .free ∨ (s.slot tag).state = .done)
      ∧ ∀ code : Byte, code = 0 ∨ code = 0xFF →
          code ∉ ([0x01, 0x02, 0x03, 0x04, 0x10, 0x11, 0x12, 0x20, 0x5A] : List Byte) := by
  refine ⟨⟨writing 0x0008 { linked with
      cancelTag := 16, census := { Census.reset with state := .walkA } },
    writing_at _ _ rfl, by decide +kernel⟩,
    ⟨writing 0x0008 linked, writing_at _ _ rfl, by decide +kernel⟩, ?_⟩
  rintro code (rfl | rfl) <;> decide +kernel

/-- For `PopsRemoveHead`: both queues with a record, and both empty. -/
theorem witness_pops :
    (∃ s : State, WritingAt s 0x0008 ∧ (∃ tag rest, s.completionQueue = tag :: rest)
        ∧ ∃ r rest, s.notices = r :: rest)
      ∧ ∃ s : State, WritingAt s 0x0008 ∧ s.completionQueue = [] ∧ s.notices = [] :=
  ⟨⟨writing 0x0008 { manned.setSlot 0 (request 1 .done) with
      completionQueue := [0]
      notices := [{ source := 1, epoch := 0, seq := 0, code := 0, payload := [], gap := false
                    arrival := 0 }] },
    writing_at _ _ rfl, ⟨0, [], rfl⟩, ⟨_, [], rfl⟩⟩,
   ⟨writing 0x0008 manned, writing_at _ _ rfl, rfl, rfl⟩⟩

/-- For `StartCensusDrains`: one check running, a slot waiting, a slot queued, an attempt in flight. -/
theorem witness_start_census :
    ∃ s : State, WritingAt s 0x0008 ∧ s.census.state = .idle ∧ (s.checks.get .a).state ≠ .idle
      ∧ (s.checks.get .b).state = .idle ∧ (s.slot 0).state = .active ∧ (s.slot 0).kindCode ≠ 3
      ∧ (s.slot 1).state = .waitingRetry
      ∧ (s.slot 2).state = .queued ∧ ∀ v : Tag, (s.slot v).state = .active →
          (s.slot v).target.isSome = true → (s.slot v).target = (s.slot 2).target →
          s.older v 2 = false :=
  ⟨writing 0x0008 (((({ manned with
      submissionCounter := 3
      checks := { manned.checks with a := { Check.reset with state := .probing } } }.setSlot 0
        { request 1 .active with seq := 2 }).setSlot 1
        { request 1 .waitingRetry with target := some 2, seq := 1 }).setSlot 2
        (request 1 .queued))),
    writing_at _ _ rfl, by decide +kernel⟩

/-- For `AbortCensusSetsStop`, with and without a stop pending. -/
theorem witness_abort (c : Option StopCause) :
    ∃ s : State, WritingAt s 0x0008 ∧ s.census.state ≠ .idle ∧ s.census.stopPending = c :=
  ⟨writing 0x0008 { linked with census := { Census.reset with state := .walkA, stopPending := c } },
    writing_at _ _ rfl, by simp [writing], rfl⟩

/-- For `AcceptRosterOpensLock`, whatever the roster state. -/
theorem witness_accept (r : RosterState) :
    ∃ s : State, WritingAt s 0x0008 ∧ s.rosterState = r :=
  ⟨writing 0x0008 { linked with rosterState := r }, writing_at _ _ rfl, rfl⟩

/-- For `ClearAllChangedEmptiesSet` and `SoftResetValues`. -/
theorem witness_command : ∃ s : State, WritingAt s 0x0008 :=
  ⟨writing 0x0008 manned, writing_at _ _ rfl⟩

/-- For `MirrorCtrlActsOnEntry`: the entries 1 and 62, and the values 0 and 63 that name none; the codes at
the edges of the undefined ones. -/
theorem witness_mirror_ctrl :
    (∀ v : Byte, ∃ s : State, WritingAt s 0x0141 ∧ s.mirrorSel = v)
      ∧ (1 ≤ (1 : Byte).toNat ∧ (62 : Byte).toNat ≤ 62)
      ∧ ((0 : Byte).toNat = 0 ∧ 62 < (63 : Byte).toNat)
      ∧ ((0 : Byte).toNat = 0 ∧ 3 < (4 : Byte).toNat) :=
  ⟨fun v => ⟨writing 0x0141 { manned with mirrorSel := v }, writing_at _ _ rfl, rfl⟩,
    by decide, by decide, by decide⟩

/-- For the statements on register writes: a write transaction can stand at any register. -/
theorem witness_register_write (a : RegAddr) : ∃ s : State, WritingAt s a :=
  ⟨writing a manned, writing_at _ _ rfl⟩

/-- For the statements on reads: a read transaction can stand at any register. -/
theorem witness_register_read (a : RegAddr) : ∃ s : State, ReadingAt s a :=
  ⟨reading a manned, reading_at _ _ rfl⟩

/-- For `IrqFollowsActiveCauses`: in reset and outside it. -/
theorem witness_in_reset (b : Bool) : ∃ s : State, s.inReset = b :=
  ⟨{ State.reset with inReset := b }, rfl⟩

/-- For `ControlByteTakesEffect`: each of its four commands, with port A UP and port B DISABLED, DOWN. -/
theorem witness_control_byte :
    (∃ s : State, WritingAt s 0x0020 ∧ (s.port .b).link = .disabled
        ∧ (∀ q, (s.port q).link = .up → controlPort 0x07 q = true) ∧ controlPort 0x07 .b = true
        ∧ (0x07 : Byte).getLsbD 0 = true)
      ∧ ∃ s : State, WritingAt s 0x0020 ∧ (s.port .b).link = .down
        ∧ (∀ q, (s.port q).link = .up → controlPort 0x02 q = true) ∧ controlPort 0x02 .b = false
        ∧ (0x02 : Byte).getLsbD 0 = false :=
  ⟨⟨writing 0x0020 (linked.setPort .b { ChainPort.reset with link := .disabled }),
      writing_at _ _ rfl, by decide +kernel, by intro q; cases q <;> decide +kernel, by decide,
      by decide⟩,
    ⟨writing 0x0020 (linked.setPort .b ChainPort.reset), writing_at _ _ rfl, by decide +kernel,
      by intro q; cases q <;> decide +kernel, by decide, by decide⟩⟩

/-- For `LeavingUpTellsTheBlocks`, by the port enable. -/
theorem witness_leaving_by_enable :
    ∃ s : State, WritingAt s 0x0020 ∧ (s.port .a).link = .up ∧ controlPort 0x04 .a = false
      ∧ controlPort 0x04 .b = s.portEnabled .b ∧ s.census.state = .idle
      ∧ (∀ q, (s.checks.get q).state = .idle) ∧ (s.port .a).exch = .idle
      ∧ ∃ a, (s.entry a).route = some .a :=
  ⟨writing 0x0020 manned, writing_at _ _ rfl, by decide +kernel, by decide, by decide +kernel,
    by decide +kernel, by intro q; cases q <;> decide +kernel, by decide +kernel, 1,
    by decide +kernel⟩

/-- For `LeavingUpTellsTheBlocks`, by the signal-loss timer. -/
theorem witness_leaving_by_signal :
    ∃ s : State, s.inReset = false ∧ (s.port .a).link = .up ∧ (s.port .a).lossTimer = true
      ∧ s.census.state = .idle ∧ (∀ q, (s.checks.get q).state = .idle)
      ∧ (s.port .a).exch = .idle ∧ ∃ a, (s.entry a).route = some .a :=
  ⟨setLossTimer .a true manned, rfl, by decide +kernel, by decide +kernel, by decide +kernel,
    by intro q; cases q <;> decide +kernel, by decide +kernel, 1, by decide +kernel⟩

/-- Addresses at the edges of the ranges of `StoredRegistersReadBack` and `ReadOnlyWritesIgnored`. -/
theorem witness_address_ranges :
    (∀ n : Nat, n ∈ [0x000B, 0x0080, 0x0083, 0x00A0, 0x00BF, 0x002C, 0x002F] →
      let a := BitVec.ofNat 15 n
      a = 0x000B ∨ (0x0080 ≤ a.toNat ∧ a.toNat ≤ 0x0083) ∨ (0x00A0 ≤ a.toNat ∧ a.toNat ≤ 0x00BF)
        ∨ (0x002C ≤ a.toNat ∧ a.toNat ≤ 0x002F))
    ∧ ∀ n : Nat, n ∈ [0x0000, 0x0007, 0x0009, 0x000A, 0x000C, 0x000F, 0x0014, 0x001F, 0x002A, 0x002B,
        0x0030, 0x007F, 0x0084, 0x009F, 0x00C0, 0x00FF, 0x0101, 0x013F, 0x0142, 0x7FFF] →
      let a : RegAddr := BitVec.ofNat 15 n
      a.toNat ≤ 0x0007 ∨ a.toNat = 0x0009 ∨ a.toNat = 0x000A
        ∨ (0x000C ≤ a.toNat ∧ a.toNat ≤ 0x000F) ∨ (0x0014 ≤ a.toNat ∧ a.toNat ≤ 0x001F)
        ∨ a.toNat = 0x002A ∨ a.toNat = 0x002B ∨ (0x0030 ≤ a.toNat ∧ a.toNat ≤ 0x007F)
        ∨ (0x0084 ≤ a.toNat ∧ a.toNat ≤ 0x009F) ∨ (0x00C0 ≤ a.toNat ∧ a.toNat ≤ 0x00FF)
        ∨ (0x0101 ≤ a.toNat ∧ a.toNat ≤ 0x013F) ∨ 0x0142 ≤ a.toNat := by
  constructor <;> decide +kernel

/-- For `SpiTransactionRuns`: a transaction in each state, CSn high, and reset. -/
theorem witness_spi (x : SpiState) (c r : Bool) :
    ∃ s : State, s.inReset = r ∧ s.csnHigh = c ∧ s.spi = x :=
  ⟨{ State.reset with inReset := r, csnHigh := c, spi := x }, rfl, rfl, rfl⟩

/-- For `LinkFollowsSignal`: a port in any link state, with and without signal. -/
theorem witness_link (l : LinkState) (b : Bool) :
    ∃ s : State, s.inReset = false ∧ (s.port .a).link = l ∧ (s.port .a).lossTimer = b
      ∧ (s.port .a).rx ≠ .ofExchange :=
  ⟨linked.setPort .a { ChainPort.reset with link := l, lossTimer := b }, rfl, rfl, rfl,
    nofun⟩

/-- For `LinkFollowsSignal`: a port in ALIGNING whose next idle symbol is the last of its run, or not. -/
theorem witness_idle_run (n : Nat) (h : n = 62 ∨ n = 63) :
    ∃ s : State, s.inReset = false ∧ s.pending = [] ∧ (s.port .a).link = .aligning
      ∧ (s.port .a).idleRun = n ∧ (n = 62 ∨ n = 63) :=
  ⟨State.reset.setPort .a { ChainPort.reset with link := .aligning, idleRun := n }, rfl, rfl, rfl,
    rfl, h⟩

/-- For `ArbiterHandsClaim`, in walk A and in walk B, the last address to offer. -/
theorem witness_claim (p : Port) (w : CensusState)
    (h : p = .a ∧ w = .walkA ∨ p = .b ∧ w = .walkB) :
    ∃ s : State, s.inReset = false ∧ s.canHand p = true ∧ s.census.state = w
      ∧ s.census.stopPending = none ∧ (∀ q, s.carries q .census = false)
      ∧ s.census.nextAddr < 63 := by
  rcases h with ⟨rfl, rfl⟩ | ⟨rfl, rfl⟩
  · exact ⟨{ linked with census := { Census.reset with state := .walkA, nextAddr := 62 } }, rfl,
      by decide +kernel, rfl, rfl, by intro q; cases q <;> decide +kernel, by decide +kernel⟩
  · exact ⟨{ linked with census := { Census.reset with state := .walkB, nextAddr := 62 } }, rfl,
      by decide +kernel, rfl, rfl, by intro q; cases q <;> decide +kernel, by decide +kernel⟩

/-- For `ArbiterKeepsCensusExclusive`. -/
theorem witness_census_exclusive :
    ∃ s t : State, s.census.state ≠ .idle ∧ exec (.arbiterHand .a) s = .next t :=
  ⟨{ linked with census := { Census.reset with state := .walkA, nextAddr := 1 } }, _,
    by decide +kernel, rfl⟩

/-- For `ArbiterHandsProbe`: a port probing, and a port on which the other's check decides. -/
theorem witness_probe :
    (∃ s : State, s.inReset = false ∧ s.canHand .a = true ∧ s.census.state = .idle
        ∧ (s.checks.get .a).state = .probing ∧ (s.checks.get .a).begun = true
        ∧ (s.checks.get .a).probeList[(s.checks.get .a).cursor]? = some 1)
      ∧ ∃ s : State, s.inReset = false ∧ s.canHand .b = true ∧ s.census.state = .idle
        ∧ (s.checks.get .b).state = .idle ∧ (s.checks.get .a).state = .rerouting
        ∧ (s.checks.get .a).deciding = some 1 :=
  ⟨⟨manned.setCheck .a { Check.reset with state := .probing, begun := true, probeList := [1] }, rfl,
      by decide +kernel, rfl, rfl, rfl, rfl⟩,
    ⟨manned.setCheck .a { Check.reset with state := .rerouting, deciding := some 1 }, rfl,
      by decide +kernel, rfl, rfl, rfl, rfl⟩⟩

/-- For `ArbiterHandsAttempt`: every kind, and every toggle of the module. -/
theorem witness_attempt (code : Byte) (t : Toggle)
    (h : code = 1 ∨ code = 2 ∨ code = 4 ∨ code = 5) :
    ∃ s : State, s.inReset = false ∧ s.canHand .a = true ∧ s.census.state = .idle
      ∧ (∀ q, (s.checks.get q).state = .idle) ∧ s.params.sweepEnable = false
      ∧ s.nextBcast .a = none ∧ s.nextEligible .a = some 0 ∧ (s.slot 0).target = some 1
      ∧ (s.slot 0).kindCode = code ∧ (s.slot 0).toggleUsed = none ∧ (s.entry 1).toggle = t := by
  refine ⟨(manned.setEntry 1 { module1 with toggle := t }).setSlot 0 (request code .queued), rfl,
    ?_, rfl, onPorts rfl rfl, rfl, ?_, ?_, rfl, rfl, rfl, ?_⟩ <;>
  rcases h with rfl | rfl | rfl | rfl <;> cases t <;> decide +kernel

/-- For `ArbiterHandsAttempt`, a WRITE whose toggle is fixed. -/
theorem witness_attempt_again :
    ∃ s : State, s.canHand .a = true ∧ s.nextBcast .a = none ∧ s.nextEligible .a = some 0
      ∧ (s.slot 0).toggleUsed = some true :=
  ⟨manned.setSlot 0 { request 2 .waitingRetry with toggleUsed := some true, attempts := 1 },
    by decide +kernel⟩

/-- For `ArbiterHandsBroadcast`. -/
theorem witness_broadcast :
    ∃ s : State, s.inReset = false ∧ s.canHand .a = true ∧ s.census.state = .idle
      ∧ (∀ q, (s.checks.get q).state = .idle) ∧ s.params.sweepEnable = false
      ∧ s.nextBcast .a = some 0 :=
  ⟨manned.setSlot 0 (broadcast .active), rfl, by decide +kernel, rfl,
    onPorts rfl rfl, rfl, by decide +kernel⟩

/-- For `HostAndSweepShareThePort`, whichever class the marker names. -/
theorem witness_alternate (m : Turn) :
    ∃ s : State, s.inReset = false ∧ s.canHand .a = true ∧ s.census.state = .idle
      ∧ (∀ q, (s.checks.get q).state = .idle) ∧ s.hostFrame .a = some (.slot 0)
      ∧ s.sweepChoice .a ≠ .nothing ∧ s.markers.get .a = m :=
  ⟨{ manned.setSlot 0 (request 1 .queued) with
      markers := { a := m, b := .sweep }
      params := { Params.reset with sweepEnable := true } }, rfl,
    by cases m <;> decide +kernel, rfl, onPorts rfl rfl,
    by cases m <;> decide +kernel, by cases m <;> decide +kernel, rfl⟩

/-- For `SweepFrameCarriesAcknowledge`: a POLL with no sequence yet, and a FETCH with one. -/
theorem witness_sweep_frame :
    (∃ (s t : State) (x : Xfer), s.inReset = false ∧ s.canHand .a = true
        ∧ exec (.arbiterHand .a) s = .next t ∧ (t.port .a).exch = .sending x
        ∧ x.frame.kind = .poll ∧ (s.entry x.frame.dest).lastSeq = none)
      ∧ ∃ (s t : State) (x : Xfer), s.inReset = false ∧ s.canHand .a = true
        ∧ exec (.arbiterHand .a) s = .next t ∧ (t.port .a).exch = .sending x
        ∧ x.frame.kind = .fetch ∧ (s.entry x.frame.dest).lastSeq = some 15 := by
  let s0 : State := { manned with params := { Params.reset with sweepEnable := true } }
  let s1 : State := (s0.setEntry 1 { module1 with lastSeq := some 15 }).setStatus 1
    { MirrorEntry.empty with state := .fresh, fetchWanted := true }
  exact ⟨⟨s0, after (.arbiterHand .a) s0,
      { frame := headFrame .poll 0 1 0 [], hops := 1, owner := .poll 1 }, rfl, by decide +kernel,
      exec_after _ _, by decide +kernel⟩,
    ⟨s1, after (.arbiterHand .a) s1,
      { frame := headFrame .fetch 15 1 0 [0], hops := 1, owner := .fetch 1 }, rfl,
      by decide +kernel, exec_after _ _, by decide +kernel⟩⟩

/-- For `FrameSentOpensWindowOrEnds`: any frame may be the one being sent. -/
theorem witness_frame_sent (x : Xfer) :
    ∃ s : State, s.inReset = false ∧ (s.port .a).exch = .sending x :=
  ⟨linked.setExch .a (.sending x), rfl, rfl⟩

/-- For `ReplyWindowRunsOut`: with a frame being received and without. -/
theorem witness_window (r : Receiving) :
    ∃ (s : State) (x : Xfer) (w : Nat), s.inReset = false
      ∧ (s.port .a).exch = .awaiting x w false ∧ (s.port .a).rx = r :=
  ⟨(awaiting .poll (.poll 1) manned).setRx .a r, _, _, rfl, rfl, rfl⟩

/-- For `StartDelimiterBeginsReception`. -/
theorem witness_start_delimiter :
    ∃ s : State, s.inReset = false ∧ (s.port .a).link = .up ∧ (s.port .a).lossTimer = false
      ∧ (s.port .a).rx = .nothing :=
  ⟨awaiting .poll (.poll 1) manned, rfl, rfl, rfl, rfl⟩

/-- Bytes of each kind that the statements on received frames speak of. -/
theorem witness_bytes :
    judge (headFrame .poll 0 1 0 []).wire = .headKind
      ∧ judge (reply .ack 0 []).wire = .good (reply .ack 0 [])
      ∧ judge [0xB0, 0x00, 0x01, 0x00, 0x00, 0x00] = .damaged
      ∧ acceptsReply (headFrame .poll 0 1 0 []) (reply .ack 0 []) = false := by decide +kernel

/-- For `UndecidingFramesCounted`, outside any window. -/
theorem witness_outside : ∃ s : State, s.inReset = false ∧ (s.port .a).rx = .outside :=
  ⟨linked.setRx .a .outside, rfl, rfl⟩

/-- For `UndecidingFramesCounted` and `DamagedFrameEndsExchange`, in the window. -/
theorem witness_in_window :
    ∃ (s : State) (x : Xfer) (w : Nat), s.inReset = false ∧ (s.port .a).rx = .ofExchange
      ∧ (s.port .a).exch = .awaiting x w false ∧ x.frame = headFrame .poll 0 1 0 [] :=
  ⟨answering .poll (.poll 1) manned, _, _, rfl, rfl, rfl, rfl⟩

/-- For `AcceptedReplyDecidesSlot`: a READ with its DATA, a WRITE and a RESTART with their ACK. -/
theorem witness_accepted (code : Byte) (k r : Kind) (payload : List Byte)
    (h : code = 1 ∧ k = .read ∧ r = .data ∧ payload = [5]
      ∨ code = 2 ∧ k = .write ∧ r = .ack ∧ payload = []
      ∨ code = 5 ∧ k = .restart ∧ r = .ack ∧ payload = []) :
    ∃ (s : State) (x : Xfer) (w : Nat), s.inReset = false ∧ (s.port .a).rx = .ofExchange
      ∧ (s.port .a).exch = .awaiting x w false ∧ x.owner = .attempt 0
      ∧ (s.slot 0).state = .active ∧ (s.slot 0).kindCode = code
      ∧ judge (reply r 0 payload).wire = .good (reply r 0 payload)
      ∧ acceptsReply x.frame (reply r 0 payload) = true := by
  refine ⟨answering k (.attempt 0) (manned.setSlot 0 (request code .active)), _, _, rfl, rfl, rfl,
    rfl, rfl, rfl, ?_, ?_⟩ <;>
  rcases h with h | h | h <;> obtain ⟨rfl, rfl, rfl, rfl⟩ := h <;> decide +kernel

/-- For `PollReplyReachesMirror`, the module ACTIVE or SUSPECT. -/
theorem witness_polled (st : EntryState) (h : st = .active ∨ st = .suspect) :
    ∃ (s : State) (x : Xfer) (w : Nat), s.inReset = false ∧ (s.port .a).rx = .ofExchange
      ∧ (s.port .a).exch = .awaiting x w false ∧ x.owner = .poll 1
      ∧ judge (reply .status 0 [4]).wire = .good (reply .status 0 [4])
      ∧ acceptsReply x.frame (reply .status 0 [4]) = true ∧ (s.entry 1).state = st
      ∧ ∀ q, (s.checks.get q).state = .idle := by
  refine ⟨answering .poll (.poll 1) (manned.setEntry 1 { module1 with state := st }), _, _, rfl,
    rfl, rfl, rfl, ?_, ?_, rfl, onPorts rfl rfl⟩ <;>
  rcases h with rfl | rfl <;> decide +kernel

/-- For `PollReplyReachesMirror`: a POLL answered NAK, the miss count at both sides of STALE_LIMIT. -/
theorem witness_poll_refused (m : Nat) (st : MirrorState) (h : m = 1 ∨ m = 2) :
    ∃ (s : State) (x : Xfer) (w : Nat), s.inReset = false ∧ (s.port .a).rx = .ofExchange
      ∧ (s.port .a).exch = .awaiting x w false ∧ x.owner = .poll 1
      ∧ judge (reply .nak 0 [4]).wire = .good (reply .nak 0 [4])
      ∧ acceptsReply x.frame (reply .nak 0 [4]) = true ∧ (s.entry 1).state = .active
      ∧ (∀ q, (s.checks.get q).state = .idle) ∧ (s.status 1).state = st
      ∧ (s.status 1).missCount = m ∧ (m = 1 ∨ m = 2) ∧ s.params.staleLimit = 3 :=
  ⟨(answering .poll (.poll 1) manned).setStatus 1
      { MirrorEntry.empty with state := st, missCount := m }, _, _, rfl, rfl, rfl, rfl,
    by decide +kernel, by decide +kernel, rfl, onPorts rfl rfl, rfl, rfl, h, rfl⟩

/-- For `PollTimeoutCountsFailureAndMiss`: below both limits, and at both. -/
theorem witness_poll_timeout (n m : Nat) :
    ∃ (s : State) (x : Xfer) (w : Nat), s.inReset = false ∧ (s.port .a).rx ≠ .ofExchange
      ∧ (s.port .a).exch = .awaiting x w false ∧ x.owner = .poll 1
      ∧ (s.entry 1).state = .active ∧ (s.entry 1).route = some .a ∧ s.census.state = .idle
      ∧ (∀ y, (s.checks.get y).state = .idle) ∧ (s.status 1).state ≠ .stale
      ∧ s.params.faultLimit = 4 ∧ s.params.staleLimit = 3
      ∧ (s.entry 1).failCount = n ∧ (s.status 1).missCount = m :=
  ⟨(awaiting .poll (.poll 1) (manned.setEntry 1 { module1 with failCount := n })).setStatus 1
      { MirrorEntry.empty with missCount := m }, _, _, rfl, by simp [awaiting, manned, linked,
        State.setExch, State.setPort, State.setEntry, State.setStatus, State.port, Pair.set,
        Pair.get, ChainPort.reset], rfl, rfl, rfl, rfl, rfl,
    onPorts rfl rfl, by
      have h : (((awaiting .poll (.poll 1)
          (manned.setEntry 1 { module1 with failCount := n })).setStatus 1
          { MirrorEntry.empty with missCount := m }).status 1).state = .empty := rfl
      rw [h]; decide, rfl, rfl, rfl, rfl⟩

/-- For `FetchReplyIsJudged`: a new notice, and a duplicate. -/
theorem witness_fetched (q : Option Seq) :
    ∃ (s : State) (x : Xfer) (w : Nat), s.inReset = false ∧ (s.port .a).rx = .ofExchange
      ∧ (s.port .a).exch = .awaiting x w false ∧ x.owner = .fetch 1
      ∧ judge (reply .notice 15 [9]).wire = .good (reply .notice 15 [9])
      ∧ acceptsReply x.frame (reply .notice 15 [9]) = true ∧ (s.entry 1).state ≠ .vacant
      ∧ s.reservations.get .a = some 1 ∧ (∀ y, (s.checks.get y).state = .idle)
      ∧ (s.entry 1).lastSeq = q :=
  ⟨reserve .a 1 (answering .fetch (.fetch 1) (manned.setEntry 1 { module1 with lastSeq := q })), _,
    _, rfl, rfl, rfl, rfl, by decide +kernel, by decide +kernel, by
      have h : ((reserve .a 1 (answering .fetch (.fetch 1)
          (manned.setEntry 1 { module1 with lastSeq := q }))).entry 1).state = .active := rfl
      rw [h]; decide, rfl, onPorts rfl rfl, rfl⟩

/-- For `FetchReplyIsJudged`: a FETCH answered ACK or NAK. -/
theorem witness_fetch_refused (f : Frame) (h : f = reply .ack 0 [] ∨ f = reply .nak 0 [4]) :
    ∃ (s : State) (x : Xfer) (w : Nat), s.inReset = false ∧ (s.port .a).rx = .ofExchange
      ∧ (s.port .a).exch = .awaiting x w false ∧ x.owner = .fetch 1
      ∧ judge f.wire = .good f ∧ acceptsReply x.frame f = true ∧ (f.kind = .ack ∨ f.kind = .nak)
      ∧ (s.entry 1).live = true ∧ s.reservations.get .a = some 1
      ∧ (∀ y, (s.checks.get y).state = .idle) ∧ (s.status 1).fetchWanted = true := by
  refine ⟨reserve .a 1 ((answering .fetch (.fetch 1) manned).setStatus 1
      { MirrorEntry.empty with state := .fresh, fetchWanted := true }), _, _, rfl, rfl, rfl, rfl,
    ?_, ?_, ?_, rfl, rfl, onPorts rfl rfl, rfl⟩ <;>
  rcases h with rfl | rfl <;> decide +kernel

/-- For `CensusClearEmptiesRoster`: with both ports UP, with none, and with a stop pending. -/
theorem witness_clear (b : Bool) (c : Option StopCause) :
    ∃ s : State, s.inReset = false ∧ s.census.state = .draining
      ∧ (∀ p, (s.port p).exch = .idle ∨ (s.port p).exch = .held) ∧ s.census.stopPending = c
      ∧ (∀ p, (s.checks.get p).state = .idle)
      ∧ if b then ∃ p, (s.port p).link = .up else ∀ p, (s.port p).link ≠ .up := by
  let draining : Census := { Census.reset with state := .draining, stopPending := c }
  cases b
  · exact ⟨{ State.reset with census := draining }, rfl, rfl, onPorts (.inr rfl) (.inr rfl), rfl,
      checks_idle rfl, onPorts nofun nofun⟩
  · exact ⟨{ linked with census := draining }, rfl, rfl, onPorts (.inl rfl) (.inl rfl), rfl,
      checks_idle rfl, .a, rfl⟩

/-- For `TimersRun`: the settle timer running, from port A and without it, and a busy backoff. -/
theorem witness_timers (b : Bool) :
    ∃ s : State, s.inReset = false ∧ s.census.state = .releasing ∧ s.census.settleTimer = true
      ∧ s.census.ports.a = b ∧ (s.slot 0).backoff ≠ none :=
  ⟨{ linked.setSlot 0 { request 1 .waitingRetry with backoff := some 1000 } with
      census := { Census.reset with
        state := .releasing, settleTimer := true, ports := { a := b, b := true } } }, rfl, rfl, rfl,
    rfl, by cases b <;> decide +kernel⟩

/-- The IDENT of a claimant at an address: "fresh" has form 0, "assigned" form 1. -/
def claimant (form : BitVec 4) (a : Nat) : Frame :=
  { reply .ident form ident1.bytes with source := a }

/-- A port in its walk receiving the answer to a CLAIM of try 2. -/
def claiming (p : Port) (w : CensusState) (a : Nat) : State :=
  ({ linked with
      census := { Census.reset with state := w, nextAddr := a, position := 1, tries := 2 } }.setExch
    p (.awaiting { frame := headFrame .claim 0 a 0 [1], hops := 1, owner := .census } 108
      false)).setRx p .ofExchange

/-- For `ClaimAnswersBuildTheRoster`, in both walks, "fresh" and "assigned", at the first address, at the last but one
and at the last. -/
theorem witness_claimed (p : Port) (w : CensusState) (form : BitVec 4) (n : Nat)
    (h : p = .a ∧ w = .walkA ∨ p = .b ∧ w = .walkB) (hf : form = 0 ∨ form = 1)
    (hn : n = 1 ∨ n = 61 ∨ n = 62) :
    ∃ (s : State) (x : Xfer) (u : Nat) (f : Frame), s.inReset = false
      ∧ (s.port p).rx = .ofExchange ∧ (s.port p).exch = .awaiting x u false
      ∧ x.owner = .census ∧ x.frame.kind = .claim ∧ s.census.state = w
      ∧ judge f.wire = .good f ∧ acceptsReply x.frame f = true
      ∧ (f.control = 0 ∨ f.source = s.census.nextAddr ∧ s.census.tries = 2)
      ∧ s.census.nextAddr = n ∧ s.census.stopPending = none
      ∧ ∀ q, (s.checks.get q).state = .idle := by
  let sent := headFrame .claim 0 n 0 [1]
  have heard : judge (claimant form n).wire = .good (claimant form n)
      ∧ acceptsReply sent (claimant form n) = true := by
    rcases hf with rfl | rfl <;> rcases hn with rfl | rfl | rfl <;> decide +kernel
  exact ⟨claiming p w n, { frame := sent, hops := 1, owner := .census }, 108, claimant form n,
    by cases p <;> rfl, by cases p <;> rfl, by cases p <;> rfl, rfl, rfl, by cases p <;> rfl, heard.1,
    heard.2, .inr ⟨by cases p <;> rfl, by cases p <;> rfl⟩, by cases p <;> rfl, by cases p <;> rfl,
    by cases p <;> exact checks_idle rfl⟩

/-- For `CensusStopEndsCensus`, in each state past the clear and with any cause. -/
theorem witness_stop (w : CensusState) (c : StopCause)
    (h : w = .releasing ∨ w = .walkA ∨ w = .walkB) :
    ∃ s : State, s.inReset = false ∧ pastClear s ∧ s.census.stopPending = some c
      ∧ (∀ q, s.carries q .census = false) ∧ (∀ p, (s.checks.get p).state = .idle)
      ∧ ∀ p, (s.port p).link = .up :=
  ⟨{ linked with census := { Census.reset with state := w, stopPending := some c } }, rfl, h, rfl,
    onPorts rfl rfl, onPorts rfl rfl, onPorts rfl rfl⟩

/-- For `ReachCheckProbes`. -/
theorem witness_probing :
    ∃ s : State, s.inReset = false ∧ (s.checks.get .a).state = .probing
      ∧ (s.checks.get .a).begun = false ∧ (s.port .a).exch = .idle
      ∧ (s.checks.get .b).state = .idle
      ∧ ∃ a, (s.entry a).live = true ∧ (s.entry a).route = some .a :=
  ⟨manned.setCheck .a { Check.reset with state := .probing, trigger := 1 }, rfl, rfl, rfl,
    by decide +kernel, rfl, 1, by decide +kernel⟩

/-! ### Clauses on outcomes -/

/-- For `StepRunsFrontCommand`, no command waiting: in reset; outside it in no read, and at the first and the last register
with a side effect. -/
theorem witness_idle :
    (∃ s : State, s.inReset = true) ∧ (∃ s : State, s.inReset = false ∧ s.spi ≠ .data true)
      ∧ ∀ a, a = 0x0030 ∨ a = 0x006F →
        ∃ s : State, s.inReset = false ∧ s.addrCounter = a ∧ a ∈ effectReads :=
  ⟨⟨{ State.reset with inReset := true }, rfl⟩, ⟨State.reset, rfl, nofun⟩, fun a h =>
    ⟨reading a State.reset, rfl, rfl, by rcases h with rfl | rfl <;> decide⟩⟩

/-- For `ReadsWithEffect`, a read byte with no row, at the first and the last address. -/
theorem witness_plain_read (a : RegAddr) (h : a = 0 ∨ a = 0x7FFF) :
    ∃ s : State, ReadingAt s a ∧ a ∉ effectReads ∧ s.pending = [] :=
  ⟨reading a State.reset, reading_at _ _ rfl, by rcases h with rfl | rfl <;> decide, rfl⟩

/-- For `RegistersReadTheState`: a completion and a notice at the heads, and addresses with no register. -/
theorem witness_windows :
    (∃ (s : State) (c : Completion), s.completionQueue = [0] ∧ (s.slot 0).outcome = some c)
      ∧ (∃ (s : State) (r : NoticeRecord), s.notices = [r])
      ∧ ∀ n : Nat, n ∈ [0x0003, 0x000C, 0x001F, 0x004F, 0x00FF, 0x0114, 0x017F, 0x01D0, 0x7FFF] →
          noRegister (BitVec.ofNat 15 n) := by
  refine ⟨⟨{ manned.setSlot 0 { request 1 .done with
        outcome := some { status := .ok, effect := .notApplied, lateCancel := false, data := [5]
                          epoch := 0 } } with completionQueue := [0] }, _, rfl, rfl⟩,
    ⟨{ manned with notices := [{ source := 1, epoch := 0, seq := 0, code := 0, payload := []
                                 gap := false, arrival := 0 }] }, _, rfl⟩, ?_⟩
  unfold noRegister
  decide

/-- For `SubmitTakesLowestFreeSlotOrFull`: a READ of the longest length to module 1, without a census and past
the clear of one; a BCAST_WRITE alone, for a port and for none, the lock OPEN or HELD. -/
theorem witness_submit_good (k : Byte) (h : k = 1 ∨ k = 3) (l : Bool)
    (c : CensusState) :
    ∃ s : State, WritingAt s 0x0008 ∧ (s.slot 0).state = .free ∧ ¬BadRequest s.mailbox
      ∧ s.mailbox.kind = k ∧ (∀ q, (s.checks.get q).state = .idle) ∧ s.lockHeld = l
      ∧ s.census.state = c ∧ s.rosterState = .building
      ∧ (s.entry s.mailbox.target.toNat).live = true
      ∧ (∀ u : Tag, (s.slot u).unfinished = false)
      ∧ (s.port .a).link = .up ∧ (s.entry 1).route = some .a := by
  refine ⟨writing 0x0008 { manned with
      mailbox := { Mailbox.reset with kind := k, target := 1, length := 32 }, lockHeld := l
      rosterState := .building
      census := { Census.reset with state := c } },
    writing_at _ _ rfl, rfl, ?_, rfl, checks_idle rfl, rfl, rfl, rfl, rfl, ?_, rfl, rfl⟩
  · unfold BadRequest
    rcases h with rfl | rfl <;> exact of_decide_eq_false rfl
  · intro u
    have hu : ∀ v : Tag, (manned.slot v).unfinished = false := by decide +kernel
    exact hu u

/-- For `SubmitTakesLowestFreeSlotOrFull`, a BCAST_WRITE with no module on any port. -/
theorem witness_submit_nowhere :
    ∃ s : State, WritingAt s 0x0008 ∧ ¬BadRequest s.mailbox ∧ s.mailbox.kind = 3
      ∧ s.lockHeld = false ∧ ∀ p, ¬(s.port p).link = .up :=
  ⟨writing 0x0008 { State.reset with mailbox := { Mailbox.reset with kind := 3, length := 1 } },
    writing_at _ _ rfl, by unfold BadRequest; decide, rfl, rfl, by intro p; cases p <;> nofun⟩

/-- For `CancelEndsWaitingSlot`: a WRITE whose effect is UNKNOWN, no other unfinished slot. -/
theorem witness_cancel_unsure :
    ∃ s : State, WritingAt s 0x0008 ∧ s.cancelTag.toNat = (0 : Tag).val
      ∧ (s.slot 0).state = .waitingRetry ∧ (s.slot 0).kindCode = 2
      ∧ (s.slot 0).history = .sentNoReply ∧ (s.slot 0).target = some 1
      ∧ (s.entry 1).state ≠ .vacant ∧ (∀ p, (s.checks.get p).state = .idle)
      ∧ ∀ u : Tag, u ≠ 0 → (s.slot u).unfinished = false :=
  ⟨writing 0x0008 (manned.setSlot 0 { request 2 .waitingRetry with history := .sentNoReply }),
    writing_at _ _ rfl, rfl, rfl, rfl, rfl, rfl, by decide +kernel, checks_idle rfl,
    by decide +kernel⟩

/-- For `LeavingUpTellsTheBlocks`: the port's own check IDLE or PROBING with the other port not UP, or
REROUTING. -/
theorem witness_leaving_checked (st : CheckState) :
    ∃ s : State, s.inReset = false ∧ (s.port .a).link = .up ∧ (s.port .a).lossTimer = true
      ∧ s.census.state = .idle ∧ (s.port .a).exch = .idle ∧ (s.checks.get .a).state = st
      ∧ (s.checks.get .a).cutOff = [] ∧ (s.port .b).link ≠ .up ∧ (s.entry 1).live = true
      ∧ (s.entry 1).route = some .a :=
  ⟨setLossTimer .a true (oneSided.setCheck .a { Check.reset with state := st, trigger := 1 }), rfl,
    rfl, rfl, rfl, rfl, rfl, rfl, nofun, rfl, rfl⟩

/-- For `LeavingUpTellsTheBlocks`: the other port's check in REROUTING with a module PENDING. -/
theorem witness_leaving_other :
    ∃ s : State, (s.port .a).link = .up ∧ (s.port .a).lossTimer = true ∧ s.census.state = .idle
      ∧ (s.port .a).exch = .idle ∧ (s.checks.get .b).state = .rerouting
      ∧ { addr := 1, mark := .pending } ∈ (s.checks.get .b).cutOff ∧ (s.entry 1).live = true :=
  ⟨setLossTimer .a true (manned.setCheck .b { Check.reset with
      state := .rerouting, cutOff := [{ addr := 1, mark := .pending }] }), rfl, rfl, rfl, rfl, rfl,
    by decide +kernel, rfl⟩

/-- For `LeavingUpTellsTheBlocks` and `LinkLostTold`: any exchange in flight on the port, being sent or awaiting
its reply; port B UP or not; a census running or not, of which port A is a census port or not, a stop pending or
not. -/
theorem witness_leaving_in_flight (x : Xfer) (aw up : Bool) (c : CensusState) (b : Bool)
    (z : Option StopCause) :
    ∃ s : State, s.inReset = false ∧ (s.port .a).link = .up ∧ (s.port .a).lossTimer = true
      ∧ s.inFlight .a = some x
      ∧ ((s.port .a).exch = if aw then .awaiting x 108 false else .sending x)
      ∧ ((s.port .b).link = .up ↔ up = true) ∧ s.census.state = c ∧ s.census.ports.get .a = b
      ∧ s.census.stopPending = z ∧ ∀ q, (s.checks.get q).state = .idle := by
  refine ⟨setLossTimer .a true { (if up then manned else oneSided).setExch .a
      (if aw then .awaiting x 108 false else .sending x) with
      census := { Census.reset with
        state := c, ports := { a := b, b := false }, stopPending := z } }, ?_⟩
  cases aw <;> cases up <;> refine ⟨rfl, rfl, rfl, rfl, rfl, ?_, rfl, rfl, rfl, checks_idle rfl⟩
  all_goals first
    | exact ⟨fun _ => rfl, fun _ => rfl⟩
    | exact ⟨nofun, nofun⟩

/-- For `AttemptLost`, `ResyncLost` and `WaitsAgain`: each kind, a CANCEL noted or not, attempts at both sides of
1 + RETRY_LIMIT, the module with a hop count on port B or not, routed on port A or on port B. -/
theorem witness_leaving_slot (code : Byte) (cancel : Bool) (n : Nat) (h : Option Nat) (q : Port)
    (hc : code = 1 ∨ code = 2 ∨ code = 4 ∨ code = 5) (hn : n = 3 ∨ n = 4) :
    ∃ s : State, (s.port .a).link = .up ∧ (s.slot 0).target = some 1 ∧ (s.slot 0).state = .active
      ∧ (s.slot 0).kindCode = code ∧ (code = 1 ∨ code = 2 ∨ code = 4 ∨ code = 5)
      ∧ (s.slot 0).cancelRequested = cancel ∧ (s.slot 0).attempts = n ∧ (n = 3 ∨ n = 4)
      ∧ s.params.retryLimit = 3 ∧ FreeToWait 0 1 s ∧ (s.entry 1).route = some q
      ∧ (s.entry 1).hops.get .b = h :=
  ⟨(manned.setEntry 1 { module1 with route := some q, hops := { a := some 1, b := h } }).setSlot 0
      { request code .active with attempts := n, cancelRequested := cancel },
    rfl, rfl, rfl, rfl, hc, rfl, rfl, hn, rfl, ⟨rfl, checks_idle rfl, rfl, Or.inl rfl⟩, rfl, rfl⟩

/-- For `BroadcastLeft`: a broadcast still to be carried by port A, by port B too or not, with no exchange of port
A made for it; a CANCEL noted or not, a census running or not. -/
theorem witness_leaving_broadcast (b cancel : Bool) (c : CensusState) :
    ∃ s : State, (s.port .a).link = .up ∧ (s.port .a).lossTimer = true
      ∧ (s.slot 0).state = .active ∧ (s.slot 0).kindCode = 3
      ∧ (s.slot 0).bcastPorts.get .a = true ∧ (s.slot 0).bcastPorts.get .b = b
      ∧ (s.slot 0).cancelRequested = cancel ∧ s.census.state = c ∧ s.inFlight .a = none :=
  ⟨setLossTimer .a true { manned.setSlot 0 { broadcast .active with
      bcastPorts := { a := true, b := b }, cancelRequested := cancel } with
      census := { Census.reset with state := c } }, rfl, rfl, rfl, rfl, rfl, rfl, rfl, rfl, rfl⟩

/-- For `ArbiterHandsClaim` in RELEASING: port B's RELEASE due, port A's ended, and not yet due before. -/
theorem witness_release (b : Bool) :
    ∃ s : State, s.canHand .b = true ∧ s.census.state = .releasing ∧ s.census.stopPending = none
      ∧ (∀ q, s.carries q .census = false) ∧ s.census.ports.get .b = true
      ∧ s.census.released.get .b = false ∧ s.census.ports.a = true ∧ s.census.released.a = b :=
  ⟨{ linked with census := { Census.reset with
      state := .releasing, ports := { a := true, b := true }, released := { a := b, b := false } } },
    by cases b <;> decide +kernel, rfl, rfl, onPorts rfl rfl, rfl, rfl, rfl, rfl⟩

/-- For `HostAndSweepShareThePort`, the host frame of a broadcast. -/
theorem witness_alternate_broadcast :
    ∃ s : State, s.canHand .a = true ∧ s.hostFrame .a = some (.bcast 0)
      ∧ s.sweepChoice .a ≠ .nothing ∧ s.markers.get .a = .sweep :=
  ⟨{ manned.setSlot 0 (broadcast .active) with
      params := { Params.reset with sweepEnable := true } }, by decide +kernel, by decide +kernel,
    by decide +kernel, rfl⟩

/-- For `HostAndSweepShareThePort`, NOTICE_BACKLOG: a module of the port with notices to fetch, and 31 or 32
places taken. -/
theorem witness_backlog (n : Nat) (h : n = 31 ∨ n = 32) :
    ∃ s : State, s.inReset = false ∧ s.canHand .a = true ∧ s.census.state = .idle
      ∧ (∀ q, (s.checks.get q).state = .idle) ∧ s.params.sweepEnable = true
      ∧ s.notices.length + s.outstanding = n ∧ (n = 31 ∨ n = 32)
      ∧ (s.status 1).fetchWanted = true ∧ (s.entry 1).state = .active
      ∧ (s.entry 1).route = some .a ∧ (∀ q, s.inFlight q = none)
      ∧ s.sticky.noticeBacklog = false := by
  refine ⟨{ manned.setStatus 1 { MirrorEntry.empty with state := .fresh, fetchWanted := true } with
      params := { Params.reset with sweepEnable := true }
      notices := List.replicate n { source := 1, epoch := 0, seq := 0, code := 0, payload := []
                                    gap := false, arrival := 0 } }, ?_⟩
  rcases h with rfl | rfl <;>
    exact ⟨rfl, by decide +kernel, rfl, checks_idle rfl, rfl, by decide +kernel, by decide, rfl, rfl,
      rfl, onPorts rfl rfl, rfl⟩

/-- For `FrameSentOpensWindowOrEnds`: a RELEASE of the census, with and without a stop pending. -/
theorem witness_release_sent (c : Option StopCause) :
    ∃ (s : State) (x : Xfer), s.inReset = false ∧ (s.port .a).exch = .sending x
      ∧ x.frame.kind = .release ∧ x.owner = .census ∧ s.census.state = .releasing
      ∧ s.census.stopPending = c ∧ ∀ q, (s.checks.get q).state = .idle :=
  ⟨{ linked with census := { Census.reset with state := .releasing, stopPending := c } }.setExch .a
      (.sending { frame := releaseFrame, hops := 0, owner := .census }), _, rfl, rfl, rfl, rfl, rfl,
    rfl, checks_idle rfl⟩

/-- For `FrameSentOpensWindowOrEnds`: a broadcast frame, the other port still to carry it or not. -/
theorem witness_broadcast_ends (b : Bool) :
    ∃ (s : State) (x : Xfer), s.inReset = false ∧ (s.port .a).exch = .sending x
      ∧ x.frame.kind = .bcastWrite ∧ x.owner = .bcast 0 ∧ (s.slot 0).state = .active
      ∧ (s.slot 0).kindCode = 3 ∧ (s.slot 0).bcastPorts.get .b = b :=
  ⟨(manned.setSlot 0 { broadcast .active with bcastPorts := { a := true, b := b } }).setExch .a
      (.sending { frame := headFrame .bcastWrite 0 63 0 [1], hops := 0, owner := .bcast 0 }), _,
    rfl, rfl, rfl, rfl, rfl, rfl, rfl⟩

/-- For `StartDelimiterBeginsReception`: outside any window, and in one. -/
theorem witness_delimiter_inside :
    (∃ s : State, (s.port .a).link = .up ∧ (s.port .a).lossTimer = false
        ∧ (s.port .a).rx = .outside ∧ (s.port .a).exch = .idle)
      ∧ ∃ (s : State) (x : Xfer) (w : Nat), (s.port .a).link = .up ∧ (s.port .a).lossTimer = false
        ∧ (s.port .a).rx = .ofExchange ∧ (s.port .a).exch = .awaiting x w true :=
  ⟨⟨linked.setRx .a .outside, rfl, rfl, rfl, rfl⟩,
    ⟨(answering .poll (.poll 1) manned).setExch .a
      (.awaiting { frame := headFrame .poll 0 1 0 [], hops := 1, owner := .poll 1 } 108 true),
      _, _, rfl, rfl, rfl, rfl⟩⟩

/-- For `UndecidingFramesCounted`, the window run out; `witness_bytes` has the two frames. -/
theorem witness_ran_out :
    ∃ (s : State) (x : Xfer) (w : Nat), s.inReset = false ∧ (s.port .a).rx = .ofExchange
      ∧ (s.port .a).exch = .awaiting x w true ∧ x.frame = headFrame .poll 0 1 0 [] :=
  ⟨((awaiting .poll (.poll 1) manned).setRx .a .ofExchange).setExch .a
      (.awaiting { frame := headFrame .poll 0 1 0 [], hops := 1, owner := .poll 1 } 108 true),
    _, _, rfl, rfl, rfl, rfl⟩

/-- For `AttemptFails` in `ReplyWindowRunsOut` and `DamagedFrameEndsExchange`: each kind; a CANCEL noted or
not; attempts at both sides of 1 + RETRY_LIMIT; a census running or not. -/
theorem witness_attempt_fails (code : Byte) (k : Kind) (r : Receiving) (cancel : Bool) (n : Nat)
    (c : CensusState) (h : code = 1 ∨ code = 2 ∨ code = 4 ∨ code = 5) (hn : n = 3 ∨ n = 4) :
    ∃ (s : State) (x : Xfer) (w : Nat), s.inReset = false ∧ (s.port .a).rx = r
      ∧ (s.port .a).exch = .awaiting x w false ∧ x.owner = .attempt 0
      ∧ (s.slot 0).target = some 1 ∧ (s.slot 0).state = .active ∧ (s.slot 0).kindCode = code
      ∧ (code = 1 ∨ code = 2 ∨ code = 4 ∨ code = 5) ∧ (s.slot 0).cancelRequested = cancel
      ∧ (s.slot 0).attempts = n ∧ (n = 3 ∨ n = 4) ∧ s.params.retryLimit = 3 ∧ s.census.state = c
      ∧ (c = .idle → FreeToWait 0 1 s) ∧ (s.entry 1).live = true :=
  ⟨({ awaiting k (.attempt 0) (manned.setSlot 0 { request code .active with
        attempts := n, cancelRequested := cancel }) with
      census := { Census.reset with state := c } }).setRx .a r, _, _, rfl, rfl, rfl, rfl, rfl, rfl,
    rfl, h, rfl, rfl, hn, rfl, rfl, fun hc => ⟨hc, checks_idle rfl, rfl, Or.inl rfl⟩, rfl⟩

/-- For `ResyncFails` and `ResyncAnswered`: a CANCEL noted or not, a census running or not, busy counts at both
sides of BUSY_LIMIT. -/
theorem witness_resync (r : Receiving) (cancel : Bool) (n : Nat) (c : CensusState)
    (hn : n = 7 ∨ n = 8) :
    ∃ (s : State) (x : Xfer) (w : Nat), s.inReset = false ∧ (s.port .a).rx = r
      ∧ (s.port .a).exch = .awaiting x w false ∧ x.owner = .resync 0
      ∧ (s.slot 0).target = some 1 ∧ (s.slot 0).state = .active ∧ (s.slot 0).kindCode = 2
      ∧ (s.slot 0).cancelRequested = cancel ∧ (s.entry 1).identity = some ident1
      ∧ (s.slot 0).busyCount = n ∧ (n = 7 ∨ n = 8) ∧ s.params.busyLimit = 8 ∧ s.census.state = c
      ∧ (c = .idle → FreeToWait 0 1 s)
      ∧ acceptsReply x.frame (reply .ident 1 ident1.bytes) = true :=
  ⟨({ awaiting .probe (.resync 0) (manned.setSlot 0 { request 2 .active with
        cancelRequested := cancel, busyCount := n }) with
      census := { Census.reset with state := c } }).setRx .a r, _, _, rfl, rfl, rfl, rfl, rfl, rfl,
    rfl, rfl, rfl, rfl, hn, rfl, rfl, fun hc => ⟨hc, checks_idle rfl, rfl, Or.inl rfl⟩,
    by decide +kernel⟩

/-- For `PollFails` and `FetchFails` in `ReplyWindowRunsOut`, `UndecidingFramesCounted` and
`DamagedFrameEndsExchange`: the module ACTIVE or SUSPECT, its counts at both sides of FAULT_LIMIT and STALE_LIMIT,
a census running or not. -/
theorem witness_sweep_fails (k : Kind) (o : Owner) (r : Receiving) (e : EntryState) (n m : Nat)
    (st : MirrorState) (c : CensusState) (he : e = .active ∨ e = .suspect) (hn : n = 2 ∨ n = 3)
    (hm : m = 1 ∨ m = 2) (ho : o = .poll 1 ∨ o = .fetch 1) :
    ∃ (s : State) (x : Xfer) (w : Nat), s.inReset = false ∧ (s.port .a).rx = r
      ∧ (s.port .a).exch = .awaiting x w false ∧ x.owner = o ∧ (o = .poll 1 ∨ o = .fetch 1)
      ∧ (s.entry 1).live = true ∧ (s.entry 1).state = e ∧ (s.entry 1).route = some .a
      ∧ (s.entry 1).failCount = n ∧ (n = 2 ∨ n = 3) ∧ s.params.faultLimit = 4
      ∧ (s.status 1).state = st ∧ (s.status 1).missCount = m ∧ (m = 1 ∨ m = 2)
      ∧ s.params.staleLimit = 3 ∧ s.census.state = c ∧ ∀ q, (s.checks.get q).state = .idle := by
  refine ⟨{ (((awaiting k o manned).setEntry 1 { module1 with state := e, failCount := n }).setStatus 1
      { MirrorEntry.empty with state := st, missCount := m }).setRx .a r with
      census := { Census.reset with state := c } }, _, _, rfl, rfl, rfl, rfl, ho, ?_, rfl, rfl, rfl, hn,
    rfl, rfl, rfl, hm, rfl, rfl, checks_idle rfl⟩
  rcases he with rfl | rfl <;> rfl

/-- For `ClaimFails`: both walks, both tries, port B a census port or not, a stop pending or not. -/
theorem witness_claim_fails (w : CensusState) (r : Receiving) (n : Nat) (b : Bool)
    (c : Option StopCause) (h : w = .walkA ∨ w = .walkB) (hn : n = 1 ∨ n = 2) :
    ∃ (s : State) (x : Xfer) (u : Nat), s.inReset = false ∧ (s.port .a).rx = r
      ∧ (s.port .a).exch = .awaiting x u false ∧ x.owner = .census
      ∧ (∀ q, (s.checks.get q).state = .idle) ∧ s.census.state = w ∧ (w = .walkA ∨ w = .walkB)
      ∧ s.census.tries = n ∧ (n = 1 ∨ n = 2) ∧ s.census.ports.b = b ∧ s.census.stopPending = c
      ∧ s.exceeded = false :=
  ⟨({ awaiting .claim .census linked with
      census := { Census.reset with
        state := w, tries := n, position := 1, nextAddr := 1, stopPending := c
        ports := { a := true, b := b } } }).setRx .a r, _, _, rfl, rfl, rfl, rfl, checks_idle rfl,
    rfl, h, rfl, hn, rfl, rfl, rfl⟩

/-- For `ProbeFails` and `BreakIsFound` in PROBING: both tries, both modules beyond the break reachable on the
other port, which is UP; and port B not UP. -/
theorem witness_probe_fails (r : Receiving) (n : Nat) (hn : n = 1 ∨ n = 2) :
    (∃ s : State, (s.port .a).rx = r ∧ s.inFlight .a ≠ none ∧ (s.checks.get .b).state = .idle
        ∧ (s.entry 1).live = true ∧ (s.entry 1).route = some .a
        ∧ (s.checks.get .a).state = .probing ∧ (s.checks.get .a).begun = true
        ∧ (s.checks.get .a).probeList[(s.checks.get .a).cursor]? = some 1
        ∧ (s.checks.get .a).tries = n ∧ (n = 1 ∨ n = 2) ∧ beyond .a 1 1 s ∧ beyond .a 1 2 s
        ∧ (s.port .b).link = .up ∧ ((s.entry 1).hops.get .b).isSome = true
        ∧ ((s.entry 2).hops.get .b).isSome = true)
      ∧ ∃ s : State, s.inFlight .a ≠ none ∧ (s.checks.get .a).state = .probing
        ∧ (s.checks.get .a).tries = 2 ∧ beyond .a 1 1 s ∧ (s.port .b).link ≠ .up := by
  exact ⟨⟨probing .a 1 { Check.reset with
      state := .probing, begun := true, probeList := [1, 2], tries := n } r paired, rfl, nofun, rfl,
    rfl, rfl, rfl, rfl, rfl, rfl, hn, ⟨rfl, rfl, Nat.le_refl 1⟩, ⟨rfl, rfl, Nat.le_succ 1⟩, rfl, rfl,
    rfl⟩,
    ⟨probing .a 1 { Check.reset with
      state := .probing, begun := true, probeList := [1], tries := 2 } .nothing oneSided, nofun, rfl,
      rfl, ⟨rfl, rfl, Nat.le_refl 1⟩, nofun⟩⟩

/-- For `ProbeFails`, `GoesOn` and `ReachCheckProbes` in REROUTING: both tries, the module the last one PENDING,
and another still PENDING. -/
theorem witness_reroute (r : Receiving) (n : Nat) (m : Mark) (hn : n = 1 ∨ n = 2)
    (hm : m = .pending ∨ m = .lost) :
    ∃ s : State, (s.port .b).rx = r ∧ s.inFlight .b ≠ none ∧ (s.checks.get .b).state = .idle
      ∧ (s.entry 1).live = true ∧ (s.entry 1).route = some .a
      ∧ (s.checks.get .a).state = .rerouting ∧ (s.checks.get .a).deciding = some 1
      ∧ (s.checks.get .a).tries = n ∧ (n = 1 ∨ n = 2)
      ∧ (s.checks.get .a).cutOff = [{ addr := 1, mark := .pending }, { addr := 2, mark := m }]
      ∧ (m = .pending ∨ m = .lost) ∧ (s.port .b).link = .up
      ∧ ((s.entry 1).hops.get .b).isSome = true ∧ ((s.entry 2).hops.get .b).isSome = true :=
  ⟨probing .b 1 { Check.reset with
      state := .rerouting, result := .brk, deciding := some 1, tries := n
      cutOff := [{ addr := 1, mark := .pending }, { addr := 2, mark := m }] } r paired, rfl, nofun,
    rfl, rfl, rfl, rfl, rfl, rfl, hn, rfl, hm, rfl, rfl, rfl⟩

/-- For `AcceptedReplyDecidesSlot` beyond `witness_accepted`: a PROBE answered by its module or by another, a
NAK, a NAK BUSY with the count at both sides of BUSY_LIMIT, a CANCEL noted or not, a census running or not. -/
theorem witness_answered (n : Nat) (cancel : Bool) (c : CensusState) (f : Frame)
    (hn : n = 7 ∨ n = 8)
    (hf : f = reply .ident 1 ident1.bytes ∨ f = reply .ident 1 { ident1 with serial := 7 }.bytes
      ∨ f = reply .nak 0 [1] ∨ f = reply .nak 0 [4]) :
    ∃ (s : State) (x : Xfer) (w : Nat), s.inReset = false ∧ (s.port .a).rx = .ofExchange
      ∧ (s.port .a).exch = .awaiting x w false ∧ x.owner = .attempt 0
      ∧ (s.slot 0).state = .active ∧ (s.slot 0).kindCode = 4 ∧ (s.slot 0).target = some 1
      ∧ (s.entry 1).identity = some ident1 ∧ (s.slot 0).cancelRequested = cancel
      ∧ (s.slot 0).busyCount = n ∧ (n = 7 ∨ n = 8) ∧ s.params.busyLimit = 8 ∧ s.census.state = c
      ∧ (c = .idle → FreeToWait 0 1 s) ∧ (s.entry 1).live = true
      ∧ judge f.wire = .good f ∧ acceptsReply x.frame f = true :=
  ⟨{ answering .probe (.attempt 0) (manned.setSlot 0 { request 4 .active with
        cancelRequested := cancel, busyCount := n }) with
      census := { Census.reset with state := c } }, _, _, rfl, rfl, rfl, rfl, rfl, rfl, rfl, rfl, rfl,
    rfl, hn, rfl, rfl, fun hc => ⟨hc, checks_idle rfl, rfl, Or.inl rfl⟩, rfl,
    by rcases hf with rfl | rfl | rfl | rfl <;> decide +kernel,
    by rcases hf with rfl | rfl | rfl | rfl <;> decide +kernel⟩

/-- For `AnswerRecorded`: no other slot is unfinished for the module. -/
theorem witness_only_request :
    ∃ s : State, OnlyRequest 0 1 s ∧ (s.slot 0).target = some 1 ∧ (s.entry 1).live = true
      ∧ ∀ q, (s.checks.get q).state = .idle :=
  ⟨manned.setSlot 0 (request 5 .active), by unfold OnlyRequest; decide +kernel, rfl, rfl,
    checks_idle rfl⟩

/-- For `ClaimAnswersBuildTheRoster`: an IDENT "assigned" that is no claim, in each walk, and one that closes
the ring; with and without a stop pending. -/
theorem witness_not_a_claim (p : Port) (w : CensusState) (b : Bool) (c : Option StopCause)
    (h : p = .a ∧ w = .walkA ∨ p = .b ∧ w = .walkB) :
    ∃ (s : State) (x : Xfer) (u : Nat) (f : Frame), s.inReset = false
      ∧ (s.port p).rx = .ofExchange ∧ (s.port p).exch = .awaiting x u false
      ∧ x.owner = .census ∧ x.frame.kind = .claim ∧ s.census.state = w
      ∧ judge f.wire = .good f ∧ acceptsReply x.frame f = true
      ∧ ¬(f.control = 0 ∨ f.source = s.census.nextAddr ∧ s.census.tries = 2)
      ∧ 1 ≤ s.census.nextAddr ∧ s.census.stopPending = c ∧ s.tails.b = 0 ∧ s.tails.a = 1
      ∧ ((s.entry f.source).hops.a = some s.tails.a ↔ b = true) ∧ s.exceeded = false
      ∧ ∀ q, (s.checks.get q).state = .idle := by
  let sent := headFrame .claim 0 2 0 [1]
  let answer := claimant 1 (if b then 1 else 3)
  have heard : judge answer.wire = .good answer ∧ acceptsReply sent answer = true
      ∧ ¬(answer.control = 0 ∨ answer.source = 2 ∧ (2 : Nat) = 2) := by cases b <;> decide +kernel
  exact ⟨{ (claiming p w 2).setEntry 1 module1 with
      tails := { a := 1, b := 0 }
      census := { Census.reset with
        state := w, nextAddr := 2, position := 1, tries := 2, stopPending := c } },
    { frame := sent, hops := 1, owner := .census }, 108, answer, by cases p <;> rfl,
    by cases p <;> rfl, by cases p <;> rfl, rfl, rfl, rfl, heard.1, heard.2.1, heard.2.2,
    Nat.le_succ 1, rfl, rfl, rfl,
    by cases p <;> cases b <;> first | exact iff_of_true rfl rfl | exact iff_of_false nofun nofun,
    by cases p <;> rfl, by cases p <;> exact checks_idle rfl⟩

/-- For `CensusStopEndsCensus`: a port that is not UP with a module routed on it, which can be probed on the
other port or not. -/
theorem witness_stop_port_down (h : Option Nat) (r : RingState) :
    ∃ s : State, pastClear s ∧ s.census.stopPending = some (.failed .portLost)
      ∧ (∀ q, s.carries q .census = false) ∧ (∀ p, (s.checks.get p).state = .idle)
      ∧ (s.port .a).link ≠ .up ∧ (s.port .b).link = .up ∧ (s.entry 1).live = true
      ∧ (s.entry 1).route = some .a ∧ (s.entry 1).hops.get .b = h ∧ s.ringState = r :=
  ⟨{ (manned.setPort .a ChainPort.reset).setEntry 1
        { module1 with hops := { a := some 1, b := h } } with
      ringState := r
      census := { Census.reset with state := .walkB, stopPending := some (.failed .portLost) } },
    Or.inr (Or.inr rfl), rfl, onPorts rfl rfl, checks_idle rfl, nofun, rfl, rfl, rfl,
    rfl, rfl⟩

/-- A census about to stop with no port UP and a HELD lock; a WRITE waits for module 1, which is as given. -/
def stopping (e : RosterEntry) : State :=
  { (State.reset.setEntry 1 e).setSlot 0 (request 2 .queued) with
    lockHeld := true
    census := { Census.reset with state := .walkA, stopPending := some .aborted } }

/-- For `CensusStopEndsCensus`: a request at the front of the ended census, its module VACANT, LOST or ACTIVE. -/
theorem witness_stop_front (e : RosterEntry)
    (h : e = RosterEntry.vacant ∨ e = lostEntry module1 ∨ e = module1) :
    ∃ s : State, s.inReset = false ∧ pastClear s ∧ s.census.stopPending = some .aborted
      ∧ (∀ q, s.carries q .census = false) ∧ (∀ q, (s.checks.get q).state = .idle)
      ∧ s.lockHeld = true ∧ (s.entry 1) = e ∧ Waits 0 1 s ∧ (s.slot 0).kindCode = 2 := by
  refine ⟨stopping e, rfl, .inr (.inl rfl), rfl, onPorts rfl rfl, checks_idle rfl, rfl, ?_,
    ⟨.inl rfl, rfl, .inr (.inl rfl), ?_⟩, rfl⟩
  · rcases h with rfl | rfl | rfl <;> rfl
  · rcases h with rfl | rfl | rfl <;> decide +kernel

/-- R107: with no port UP the waiting WRITE of such a census is refused by the lock before the check that starts
makes its module LOST. -/
theorem test_lock_before_check :
    (match exec .censusStop (stopping module1) with
    | .next t => (((t.slot 0).outcome.map (·.status)), (t.entry 1).state)
    | _ => (none, .vacant)) = (some .refusedLock, .lost) := by decide +kernel

/-- For `ReachCheckProbes`: a module that answers, the next of the list still routed, or the last of it. -/
theorem witness_probe_answered (l : List Nat) (h : l = [1, 2] ∨ l = [1]) :
    ∃ s : State, s.inReset = false ∧ (s.checks.get .b).state = .idle
      ∧ (s.port .a).rx = .ofExchange ∧ s.inFlight .a ≠ none ∧ (s.entry 1).live = true
      ∧ (s.checks.get .a).state = .probing ∧ (s.checks.get .a).begun = true
      ∧ (s.checks.get .a).probeList = l ∧ (l = [1, 2] ∨ l = [1]) ∧ (s.checks.get .a).cursor = 0
      ∧ (s.entry 2).route = some .a ∧ (s.checks.get .a).cutOff = []
      ∧ acceptsReply (headFrame .probe 0 1 0 []) (reply .ident 1 ident1.bytes) = true :=
  ⟨probing .a 1 { Check.reset with state := .probing, begun := true, probeList := l, tries := 1 }
      .ofExchange paired, rfl, rfl, rfl, nofun, rfl, rfl, rfl, rfl, h, rfl, rfl, rfl,
    by decide +kernel⟩

/-- For `FramesAndIdentitiesRoundTrip`: a well-coded frame of the longest payload, and an identity. -/
theorem witness_frame :
    (reply .data 0 (List.replicate 32 7)).fromModuleOk = true
      ∧ ident1.recordMax ≤ 16 := by decide +kernel

/-- For `MalformedFramesDamaged`: a module-to-head frame too long for its kind, and one of the head. -/
theorem witness_malformed :
    (reply .ack 0 [7]).fromModuleOk = false ∧ (reply .ack 0 [7]).kind.fromModule = true
      ∧ (headFrame .poll 0 1 0 []).kind.fromModule = false := by decide +kernel

/-- For the laws that every step keeps: a linked machine obeys them and has a next step. -/
theorem witness_step :
    NoticeLaw linked ∧ ParamsLaw linked.params ∧ MirrorLaw linked
      ∧ ∃ t, step linked = .next t := by
  refine ⟨by unfold NoticeLaw; decide +kernel, by unfold ParamsLaw; decide +kernel, fun a => ?_, _,
    rfl⟩
  have h : linked.status a = MirrorEntry.empty := by
    simp [State.status, linked, State.reset]
  rw [h]
  exact ⟨nofun, fun _ => ⟨rfl, rfl, rfl, rfl, rfl⟩, by decide, by decide, by decide⟩

/-- For `StepKeepsRosterLaw`: a linked machine obeys it. -/
theorem witness_roster_law : RosterLaw linked := by
  intro a
  have h : linked.entry a = RosterEntry.vacant := by simp [State.entry, linked, State.reset]
  rw [h]
  rfl

/-- A port just brought UP, with nothing on it, obeys the port law. -/
theorem linked_port_law : PortLaw { ChainPort.reset with link := .up, exch := .idle } := by
  unfold PortLaw ChainPort.reset
  simp

/-- For `StepKeepsPortsLaw`, `StepKeepsRequestLaw` and `StepKeepsTrafficLaw`: a linked machine obeys them. -/
theorem witness_traffic_law : TrafficLaw linked := by
  have quiet : ∀ p, linked.inFlight p = none := onPorts rfl rfl
  have free : ∀ tag, linked.slot tag = Slot.free := by decide +kernel
  have queue : QueueLaw linked := by unfold QueueLaw; decide +kernel
  refine ⟨⟨queue, ?_⟩, ⟨linked_port_law, linked_port_law⟩, ?_, ?_, ?_, ?_⟩
  · simp [OwnersLaw, quiet]
  · simp [LockLaw, quiet]
  · simp [CensusLaw, quiet]
  · simp [BroadcastLaw, free, Slot.free]
  · simp [ResyncLaw, quiet]

/-- For `EpochChangesOnlyAtClears`: a step that changes the epoch. -/
theorem witness_epoch :
    ∃ s t : State, exec .censusClear s = .next t ∧ t.epoch ≠ s.epoch :=
  ⟨startCensus linked, after .censusClear (startCensus linked), exec_after _ _,
    by decide +kernel⟩

/-- For `EventsLeaveHostRegisters`. -/
theorem witness_event : ∃ s t : State, exec .msecTick s = .next t := ⟨State.reset, _, rfl⟩

end Sys2Proof.Tests
end

section
/-! Frames and identities on the wire (section 11.1): the fields of a written frame as they are read back, and how
the chip judges it. -/

namespace Sys2Proof.Proofs

-- one theorem after the other: many proofs elaborated at once ask for a stack each
set_option Elab.async false

open Sys2Proof.Machine

/-! ## Bits of a byte -/

/-- A 16-bit value is put together again from its two bytes (R4, R8). -/
theorem code_of_bytes (x : BitVec 16) : (x.extractLsb' 8 8 ++ x.extractLsb' 0 8 : BitVec 16) = x :=
  (BitVec.extractLsb'_append_extractLsb'_eq_extractLsb' rfl).trans BitVec.extractLsb'_eq_self

/-- A CRC sent low byte first is put together again from its two bytes (R4). -/
theorem crc_of_bytes (c : BitVec 16) :
    ((c >>> 8).setWidth 8 ++ c.setWidth 8 : BitVec 16) = c := by
  have hhi : (c >>> 8).setWidth 8 = c.extractLsb' 8 8 := rfl
  have hlo : c.setWidth 8 = c.extractLsb' 0 8 := BitVec.setWidth_eq_extractLsb' (by decide)
  rw [hhi, hlo]
  exact code_of_bytes c

/-- Byte 0 of a frame gives back the kind code in its upper half. -/
theorem code_of_byte0 (k c : BitVec 4) : (k ++ c : BitVec 8).extractLsb' 4 4 = k := by
  revert k c; decide

/-- Byte 0 of a frame gives back the control field in its lower half. -/
theorem control_of_byte0 (k c : BitVec 4) : (k ++ c : BitVec 8).extractLsb' 0 4 = c := by
  revert k c; decide

/-- An address byte has its two upper bits clear exactly when it is at most 63 (R181). -/
theorem upperBits_clear_iff (b : Byte) : (b.extractLsb' 6 2 == 0) = decide (b.toNat ≤ 63) := by
  revert b; decide +kernel

/-- A number that fits a byte is read back from its byte. -/
theorem toNat_byte {n : Nat} (h : n ≤ 255) : (BitVec.ofNat 8 n).toNat = n := by
  rw [BitVec.toNat_ofNat]
  omega

/-- Every kind is the kind of its code. -/
theorem ofCode_code (k : Kind) : Kind.ofCode k.code = some k := by
  cases k <;> rfl

/-! ## Reading a written frame -/

/-- The fields of a written frame as they are read back (section 11.1). -/
def readBack (f : Frame) : RawFrame :=
  { code := f.kind.code, control := f.control
    destByte := BitVec.ofNat 8 f.dest, sourceByte := BitVec.ofNat 8 f.source
    register := if codeHasRegister f.kind.code then f.register else 0
    payload := f.payload, body := f.body, crc := crc16 f.body, overlong := false }

/-- From the payload length on, a payload of at most 255 bytes and a CRC after it are read back. -/
theorem rawTail_written {b0 b1 b2 r lo hi : Byte} {head payload : List Byte}
    (h : payload.length ≤ 255) :
    rawTail b0 b1 b2 r head (BitVec.ofNat 8 payload.length :: (payload ++ [lo, hi]))
      = some
        { code := b0.extractLsb' 4 4, control := b0.extractLsb' 0 4, destByte := b1
          sourceByte := b2, register := r, payload := payload
          body := head ++ (BitVec.ofNat 8 payload.length :: payload), crc := hi ++ lo
          overlong := false } := by
  simp [rawTail, toNat_byte h]

/-- The bytes of a written frame give its fields back, its CRC the one of its body (R2, R4). -/
theorem rawFrame_wire {f : Frame} (h : f.payload.length ≤ 255) :
    rawFrame f.wire = some (readBack f) := by
  by_cases hr : codeHasRegister f.kind.code = true
  · simp [rawFrame, Frame.wire, Frame.body, readBack, code_of_byte0, control_of_byte0, hr,
      rawTail_written h, crc_of_bytes]
  · simp [rawFrame, Frame.wire, Frame.body, readBack, code_of_byte0, control_of_byte0, hr,
      rawTail_written h, crc_of_bytes]

/-- A written frame of a module-to-head kind is good exactly when its fields are well coded (R181). -/
theorem judge_wire_fromModule {f : Frame} (hlen : f.payload.length ≤ 255)
    (hk : f.kind.fromModule = true) :
    judge f.wire =
      if (readBack f).wellCoded f.kind then
        .good { kind := f.kind, control := f.control, dest := (readBack f).destByte.toNat
                source := (readBack f).sourceByte.toNat, register := 0, payload := f.payload }
      else .damaged := by
  unfold judge
  rw [rawFrame_wire hlen]
  simp [readBack, ofCode_code, hk]

/-- A written frame of a head-to-module kind is discarded as such (R7). -/
theorem judge_wire_fromHead {f : Frame} (hlen : f.payload.length ≤ 255)
    (hk : f.kind.fromModule = false) : judge f.wire = .headKind := by
  unfold judge
  rw [rawFrame_wire hlen]
  simp [readBack, ofCode_code, hk]

/-- A module-to-head frame whose addresses fit a byte is well coded as read back exactly when it is as a frame
value (R181). -/
theorem wellCoded_readBack {f : Frame} (hd : f.dest ≤ 255) (hs : f.source ≤ 255)
    (hk : f.kind.fromModule = true) (hr : f.register = 0) :
    (readBack f).wellCoded f.kind = f.fromModuleOk := by
  have hdest := upperBits_clear_iff (BitVec.ofNat 8 f.dest)
  have hsource := upperBits_clear_iff (BitVec.ofNat 8 f.source)
  rw [toNat_byte hd] at hdest
  rw [toNat_byte hs] at hsource
  simp only [RawFrame.wellCoded, Frame.fromModuleOk, readBack, hdest, hsource, hk, hr, beq_self_eq_true,
    Bool.true_and, Bool.and_true]

/-- How the chip judges a written module-to-head frame (R7, R181). -/
theorem judge_wire {f : Frame} (hd : f.dest ≤ 255) (hs : f.source ≤ 255)
    (hlen : f.payload.length ≤ 255) (hk : f.kind.fromModule = true) (hr : f.register = 0) :
    judge f.wire = if f.fromModuleOk then .good f else .damaged := by
  rw [judge_wire_fromModule hlen hk, wellCoded_readBack hd hs hk hr]
  have hdest : (readBack f).destByte.toNat = f.dest := toNat_byte hd
  have hsource : (readBack f).sourceByte.toNat = f.source := toNat_byte hs
  rw [hdest, hsource, ← hr]

/-! ## Well-coded frames -/

/-- No kind admits a payload of more than 32 bytes (section 1.2). -/
theorem length_le_of_lengthOk {k : Kind} {n : Nat} (h : k.lengthOk n = true) : n ≤ 32 := by
  cases k <;> simp [Kind.lengthOk] at h <;> omega

/-- What a well-coded module-to-head frame holds (R181). -/
theorem fromModuleOk_fields {f : Frame} (h : f.fromModuleOk = true) :
    f.kind.fromModule = true ∧ f.dest ≤ 63 ∧ f.source ≤ 63 ∧ f.register = 0
      ∧ f.payload.length ≤ 32 := by
  simp only [Frame.fromModuleOk, Bool.and_eq_true, decide_eq_true_eq, beq_iff_eq] at h
  obtain ⟨⟨⟨⟨⟨hk, hd⟩, hs⟩, hr⟩, hlen⟩, -⟩ := h
  exact ⟨hk, hd, hs, hr, length_le_of_lengthOk hlen⟩

/-- Judging the bytes of a well-coded module-to-head frame gives the frame back. -/
theorem judge_wire_of_wellCoded {f : Frame} (h : f.fromModuleOk = true) : judge f.wire = .good f := by
  obtain ⟨hk, hd, hs, hr, hlen⟩ := fromModuleOk_fields h
  rw [judge_wire (by omega) (by omega) (by omega) hk hr, if_pos h]

/-! ## Identities -/

/-- A serial is put together again from its six bytes (R8). -/
theorem serial_of_bytes (x : BitVec 48) :
    (x.extractLsb' 40 8 ++ x.extractLsb' 32 8 ++ x.extractLsb' 24 8 ++ x.extractLsb' 16 8
      ++ x.extractLsb' 8 8 ++ x.extractLsb' 0 8 : BitVec 48) = x := by
  simp only [BitVec.extractLsb'_append_extractLsb'_eq_extractLsb', BitVec.extractLsb'_eq_self]

/-- The last descriptor byte gives back its flag. -/
theorem capable_of_byte11 (b : Bool) (n : BitVec 5) :
    (BitVec.ofBool b ++ (0#2 ++ n) : BitVec 8).getLsbD 7 = b := by
  revert b n; decide

/-- The last descriptor byte gives back its longest record. -/
theorem record_of_byte11 (b : Bool) (n : BitVec 5) :
    (BitVec.ofBool b ++ (0#2 ++ n) : BitVec 8).extractLsb' 0 5 = n := by
  revert b n; decide

/-- The twelve bytes of a descriptor give the descriptor back (R8). -/
theorem ofBytes_bytes {i : Identity} (h : i.recordMax ≤ 16) : Identity.ofBytes i.bytes = i := by
  have hrecord : (BitVec.ofNat 5 i.recordMax).toNat = i.recordMax := by
    rw [BitVec.toNat_ofNat]
    omega
  have hlast := congrArg BitVec.toNat (record_of_byte11 i.noticeCapable (.ofNat 5 i.recordMax))
  cases i
  simp only [Identity.ofBytes, Identity.mk.injEq]
  exact ⟨code_of_bytes _, code_of_bytes _, serial_of_bytes _, rfl, capable_of_byte11 _ _,
    hlast.trans hrecord⟩

/-! ## The statements -/

/-- Settles O50: a written frame is read back field by field, and so is a descriptor. -/
theorem framesAndIdentitiesRoundTrip : Obligations.FramesAndIdentitiesRoundTrip := by
  unfold Obligations.FramesAndIdentitiesRoundTrip
  exact ⟨fun _ h => judge_wire_of_wellCoded h, fun _ h => ⟨rfl, ofBytes_bytes h⟩⟩

/-- Settles O51: as read back, a module-to-head frame is well coded exactly when it is one as a frame value. -/
theorem malformedFramesDamaged : Obligations.MalformedFramesDamaged := by
  unfold Obligations.MalformedFramesDamaged
  intro f hd hs hlen
  refine ⟨fun hk hr => ?_, judge_wire_fromHead hlen⟩
  rw [judge_wire hd hs hlen hk hr]
  by_cases hok : f.fromModuleOk = true
  · simp [hok]
  · simp [hok]

end Sys2Proof.Proofs
end

section
/-! What the arbiter puts on a port as a POLL or FETCH: only the sweep hands one, and its frame follows the roster entry
of the module it goes to (R103, R127, R129, R130, R135, R144, R150). -/

namespace Sys2Proof.Proofs

-- one theorem after the other: many proofs elaborated at once ask for a stack each
set_option Elab.async false

open Sys2Proof.Machine

/-! ## Frames that are not the sweep's -/

/-- The port is not sending a POLL or FETCH. -/
def SendsNoSweepFrame (p : Port) (t : State) : Prop :=
  ∀ x, (t.port p).exch = .sending x → x.frame.kind ≠ .poll ∧ x.frame.kind ≠ .fetch

@[simp] theorem handFrame_exch (p : Port) (x : Xfer) (s : State) :
    ((handFrame p x s).port p).exch = .sending x := by
  simp [handFrame, State.setExch]

theorem sendsNoSweepFrame_of_idle {p : Port} {s : State} (h : (s.port p).exch = .idle) :
    SendsNoSweepFrame p s := by
  intro x hx
  rw [h] at hx
  nomatch hx

theorem sendsNoSweepFrame_handFrame {p : Port} {x : Xfer} (s : State)
    (hp : x.frame.kind ≠ .poll) (hf : x.frame.kind ≠ .fetch) :
    SendsNoSweepFrame p (handFrame p x s) := by
  intro y hy
  rw [handFrame_exch] at hy
  cases hy
  exact ⟨hp, hf⟩

/-- The census hands a RELEASE or a CLAIM, or nothing (R64). -/
theorem sendsNoSweepFrame_handCensus {p : Port} {s : State} (h : (s.port p).exch = .idle) :
    SendsNoSweepFrame p (handCensus p s) := by
  have hclaim (q : Port) : SendsNoSweepFrame q (startClaim q s) :=
    sendsNoSweepFrame_handFrame _ nofun nofun
  unfold handCensus
  split
  · split
    · exact sendsNoSweepFrame_handFrame _ nofun nofun
    · exact sendsNoSweepFrame_of_idle h
  · split
    · exact hclaim _
    · exact sendsNoSweepFrame_of_idle h
  · split
    · exact hclaim _
    · exact sendsNoSweepFrame_of_idle h
  · exact sendsNoSweepFrame_of_idle h

/-- An attempt's frame has the kind of its request (R109). -/
theorem attemptFrame_kind (x : Slot) (k : ReqKind) (b : Bool) :
    (attemptFrame x k b).kind ≠ .poll ∧ (attemptFrame x k b).kind ≠ .fetch := by
  cases k <;> exact ⟨nofun, nofun⟩

/-- The host class hands a request's frame, a resynchronising PROBE or a broadcast, or nothing (R104). -/
theorem sendsNoSweepFrame_startHost {p : Port} {s : State} (h : (s.port p).exch = .idle)
    (f : HostFrame) : SendsNoSweepFrame p (startHost p f s) := by
  unfold startHost
  split
  · exact sendsNoSweepFrame_handFrame _ nofun nofun
  · unfold startSlot
    split
    · exact sendsNoSweepFrame_handFrame _ nofun nofun
    · split
      · exact sendsNoSweepFrame_handFrame _ (attemptFrame_kind _ _ _).1 (attemptFrame_kind _ _ _).2
      · exact sendsNoSweepFrame_of_idle h

/-! ## The sweep's frame -/

/-- The exchange `x` that a port is handed, leaving the state `t`, is the sweep's frame to an ACTIVE module routed on
the port, with the acknowledgement of its last_seq (R127, R129, R130, R135, R144, R150). -/
def SweepFrameFollows (s : State) (p : Port) (x : Xfer) (t : State) : Prop :=
  s.params.sweepEnable = true ∧ s.census.state = .idle
    ∧ (s.entry x.frame.dest).state = .active ∧ (s.entry x.frame.dest).route = some p
    ∧ t.cursors = s.cursors.set p x.frame.dest
    ∧ x.hops = ((s.entry x.frame.dest).hops.get p).getD 0
    ∧ ((s.entry x.frame.dest).lastSeq = none → x.frame.control = 0 ∧ x.frame.payload = [])
    ∧ (∀ q, (s.entry x.frame.dest).lastSeq = some q → x.frame.control = q ∧ x.frame.payload = [0])
    ∧ (x.frame.kind = .fetch →
        t.reservations = s.reservations.set p (some x.frame.dest)
          ∧ s.notices.length + s.outstanding < 32)
    ∧ (x.frame.kind = .poll → t.reservations = s.reservations)

theorem sweepOn_iff (s : State) :
    s.sweepOn = true ↔ s.params.sweepEnable = true ∧ s.census.state = .idle := by
  simp [State.sweepOn, State.censusRunning]

/-- A module the sweep may address is ACTIVE and routed on the port (R128). -/
theorem sweepable_entry {s : State} {p : Port} {a : Nat} (h : s.sweepable p a = true) :
    (s.entry a).state = .active ∧ (s.entry a).route = some p := by
  simp only [State.sweepable, Bool.and_eq_true, beq_iff_eq] at h
  obtain ⟨⟨⟨hstate, hroute⟩, -⟩, -⟩ := h
  exact ⟨hstate, hroute⟩

/-- A FETCH is chosen only with the sweep on, a place to reserve and a module that wants it (R129, R135). -/
theorem sweepChoice_fetch {s : State} {p : Port} {a : Nat} (h : s.sweepChoice p = .fetch a) :
    s.sweepOn = true ∧ s.canReserve p = true ∧ s.sweepable p a = true := by
  unfold State.sweepChoice at h
  split at h
  · next hon =>
    split at h
    · next b hb =>
      cases h
      split at hb
      · next hres =>
        have hwants := List.find?_some hb
        simp only [State.wantsFetch, Bool.and_eq_true] at hwants
        exact ⟨hon, hres, hwants.2⟩
      · nomatch hb
    · split at h <;> nomatch h
  · nomatch h

/-- A POLL is chosen only with the sweep on and for a module that is due (R128, R129). -/
theorem sweepChoice_poll {s : State} {p : Port} {a : Nat} (h : s.sweepChoice p = .poll a) :
    s.sweepOn = true ∧ s.sweepable p a = true := by
  unfold State.sweepChoice at h
  split at h
  · next hon =>
    split at h
    · nomatch h
    · split at h
      · next b hb =>
        cases h
        have hdue := List.find?_some hb
        simp only [State.due, Bool.and_eq_true] at hdue
        exact ⟨hon, hdue.1⟩
      · nomatch h
  · nomatch h

/-- Control field and payload of the acknowledgement are those of R5. -/
theorem sweepXfer_acknowledges (k : Kind) (o : Owner) (p : Port) (a : Nat) (s : State) :
    ((s.entry a).lastSeq = none →
        (sweepXfer k o p a s).frame.control = 0 ∧ (sweepXfer k o p a s).frame.payload = [])
      ∧ ∀ q, (s.entry a).lastSeq = some q →
        (sweepXfer k o p a s).frame.control = q ∧ (sweepXfer k o p a s).frame.payload = [0] :=
  ⟨fun h => by simp [sweepXfer, h, ackFields, headFrame],
   fun q h => by simp [sweepXfer, h, ackFields, headFrame]⟩

/-- The frame of the sweep's choice follows the entry of its module. -/
theorem startSweep_follows {s : State} {p : Port} {x : Xfer} (hidle : (s.port p).exch = .idle)
    (hx : ((startSweep p (s.sweepChoice p) (setMarker p .sweep s)).port p).exch = .sending x) :
    SweepFrameFollows s p x (startSweep p (s.sweepChoice p) (setMarker p .sweep s)) := by
  match hc : s.sweepChoice p with
  | .nothing =>
    rw [hc] at hx
    exact nomatch hidle.symm.trans hx
  | .fetch a =>
    obtain ⟨hon, hres, hsweep⟩ := sweepChoice_fetch hc
    obtain ⟨henable, hcensus⟩ := (sweepOn_iff s).1 hon
    obtain ⟨hactive, hroute⟩ := sweepable_entry hsweep
    obtain ⟨hnone, hsome⟩ := sweepXfer_acknowledges .fetch (.fetch a) p a s
    simp only [State.canReserve, Bool.and_eq_true, decide_eq_true_eq] at hres
    rw [hc, startSweep, handFrame_exch] at hx
    cases hx
    exact ⟨henable, hcensus, hactive, hroute, rfl, rfl, hnone, hsome, fun _ => ⟨rfl, hres.1⟩, nofun⟩
  | .poll a =>
    obtain ⟨hon, hsweep⟩ := sweepChoice_poll hc
    obtain ⟨henable, hcensus⟩ := (sweepOn_iff s).1 hon
    obtain ⟨hactive, hroute⟩ := sweepable_entry hsweep
    obtain ⟨hnone, hsome⟩ := sweepXfer_acknowledges .poll (.poll a) p a s
    rw [hc, startSweep, handFrame_exch] at hx
    cases hx
    exact ⟨henable, hcensus, hactive, hroute, rfl, rfl, hnone, hsome, nofun, fun _ => rfl⟩

/-! ## The arbiter (R103, R104) -/

/-- The shared class hands no sweep frame, or the one of the sweep's choice (R104). -/
theorem handShared_cases {p : Port} {s : State} (h : (s.port p).exch = .idle) :
    SendsNoSweepFrame p (handShared p s)
      ∨ handShared p s = startSweep p (s.sweepChoice p) (setMarker p .sweep s) := by
  unfold handShared
  split
  · exact .inl (sendsNoSweepFrame_of_idle h)
  · exact .inr rfl
  · exact .inl (sendsNoSweepFrame_startHost h _)
  · split
    · exact .inr rfl
    · exact .inl (sendsNoSweepFrame_startHost h _)

/-- A POLL or FETCH handed by the shared class follows its module's entry. -/
theorem handShared_follows {p : Port} {s : State} {x : Xfer} (h : (s.port p).exch = .idle)
    (hx : ((handShared p s).port p).exch = .sending x)
    (hk : x.frame.kind = .poll ∨ x.frame.kind = .fetch) :
    SweepFrameFollows s p x (handShared p s) := by
  rcases handShared_cases h with hno | heq
  · obtain ⟨hpoll, hfetch⟩ := hno x hx
    exact absurd hk (not_or.2 ⟨hpoll, hfetch⟩)
  · rw [heq] at hx ⊢
    exact startSweep_follows h hx

/-- The test for NOTICE_BACKLOG comes before the choice and raises a cause only. -/
theorem sweepFrameFollows_testBacklog {p q : Port} {s t : State} {x : Xfer}
    (h : SweepFrameFollows (testBacklog p s) q x t) : SweepFrameFollows s q x t := by
  unfold testBacklog at h
  split at h <;> exact h

theorem testBacklog_port (p q : Port) (s : State) : (testBacklog p s).port q = s.port q := by
  unfold testBacklog
  split <;> rfl

/-- A POLL or FETCH that the arbiter hands follows its module's entry: the rows of R103 before the last hand a
frame of the census or a PROBE. -/
theorem arbitrate_follows {p : Port} {s : State} {x : Xfer} (h : (s.port p).exch = .idle)
    (hx : ((arbitrate p s).port p).exch = .sending x)
    (hk : x.frame.kind = .poll ∨ x.frame.kind = .fetch) :
    SweepFrameFollows s p x (arbitrate p s) := by
  have absurdity {t : State} (hno : SendsNoSweepFrame p t) (ht : (t.port p).exch = .sending x) :
      False := by
    obtain ⟨hpoll, hfetch⟩ := hno x ht
    exact not_or.2 ⟨hpoll, hfetch⟩ hk
  have hprobe (q : Port) (a : Nat) : SendsNoSweepFrame p (startProbe p q a s) :=
    sendsNoSweepFrame_handFrame _ nofun nofun
  unfold arbitrate at hx ⊢
  split at hx
  · exact (absurdity (sendsNoSweepFrame_handCensus h) hx).elim
  · next hcensus =>
    rw [if_neg hcensus]
    split at hx
    · split at hx
      · exact (absurdity (hprobe _ _) hx).elim
      · split at hx
        · exact (absurdity (hprobe _ _) hx).elim
        · exact (absurdity (sendsNoSweepFrame_of_idle h) hx).elim
    · next hcheck =>
      rw [if_neg hcheck]
      split at hx
      · exact (absurdity (hprobe _ _) hx).elim
      · exact sweepFrameFollows_testBacklog
          (handShared_follows (by rw [testBacklog_port]; exact h) hx hk)

/-! ## The statement -/

theorem canHand_idle {s : State} {p : Port} (h : s.canHand p = true) : (s.port p).exch = .idle := by
  simp only [State.canHand, Bool.and_eq_true, beq_iff_eq] at h
  exact h.1.2

/-- Outside reset, where the arbiter may hand a frame, ARBITER_HAND is the arbiter's choice (R103). -/
theorem exec_arbiterHand {s : State} {p : Port} (hreset : s.inReset = false)
    (hcan : s.canHand p = true) : exec (.arbiterHand p) s = .next (arbitrate p s) := by
  simp [exec, execArbiterHand, outsideReset, onlyIf, hreset, hcan]

/-- Settles O35: of the arbiter's rows only the sweep's hands a POLL or FETCH, and its choice names the module. -/
theorem sweepFrameCarriesAcknowledge : Obligations.SweepFrameCarriesAcknowledge := by
  unfold Obligations.SweepFrameCarriesAcknowledge
  intro s t p x hreset hcan hexec hx hk
  rw [exec_arbiterHand hreset hcan] at hexec
  cases hexec
  exact arbitrate_follows (canHand_idle hcan) hx hk

end Sys2Proof.Proofs
end

section
/-! What completing slots, the front checks and the reach checks may do to slots, entries and mirror, said once as
relations between the state before and after (R85, R91, R107, R162, R163, R166). -/

namespace Sys2Proof.Proofs

-- one theorem after the other: many proofs elaborated at once ask for a stack each
set_option Elab.async false

open Sys2Proof.Machine Sys2Proof.Safety

variable {s t u : State}

/-! ## The relations -/

/-- A slot stands, or an unfinished one goes on or is DONE, its request and history as before (R85). -/
def SlotMoves (x y : Slot) : Prop :=
  y = x ∨ (x.unfinished = true ∧ (y.unfinished = true ∨ y.state = .done)
    ∧ y.kindCode = x.kindCode ∧ y.target = x.target ∧ y.history = x.history)

/-- An entry keeps its fail_count, stays VACANT or stays present, and its toggle changes only to UNSURE (R91). -/
def EntryMoves (e f : RosterEntry) : Prop :=
  f.failCount = e.failCount ∧ (f.state = .vacant ↔ e.state = .vacant)
    ∧ (f.toggle = e.toggle ∨ f.toggle = .unsure)

/-- An unfinished WRITE to an address whose last frame drew no reply. -/
def UnansweredWrite (a : Nat) (x : Slot) : Prop :=
  x.unfinished = true ∧ x.kindCode = 2 ∧ x.target = some a ∧ x.history = .sentNoReply

/-- What settling may do: slots and entries move, the completion queue grows at its tail, miss counts stand, and an
unanswered WRITE that ends makes its target's toggle UNSURE (R91). -/
structure Moves (s t : State) : Prop where
  slot : ∀ v, SlotMoves (s.slot v) (t.slot v)
  queue : s.completionQueue <+: t.completionQueue
  entry : ∀ a, EntryMoves (s.entry a) (t.entry a)
  misses : ∀ a, (t.status a).missCount = (s.status a).missCount
  unsure : ∀ v a, UnansweredWrite a (s.slot v) → (s.entry a).state ≠ .vacant →
    (t.slot v).state = .done → (t.entry a).toggle = .unsure

/-- What ending and choosing slots may do: as `Moves`, with nothing of an entry changed but its toggle, and nothing
touched but slots, queue and roster. -/
structure RequestMoves (s t : State) : Prop where
  touches : TouchesRequests s t
  moves : Moves s t
  entry : ∀ a, t.entry a = { s.entry a with toggle := (t.entry a).toggle }

/-- A slot that the front checks leave as it is, at the front or not (R107, R120). -/
def PassesFront (v : Tag) (s : State) : Prop :=
  (s.slot v).isBcast = false ∧ s.frontCheck (s.slot v) = none

/-- What the front checks may do: as `RequestMoves`, and a slot that passes them stands. -/
structure FrontMoves (s t : State) : Prop where
  requests : RequestMoves s t
  passing : ∀ v, PassesFront v s → t.slot v = s.slot v

/-! ## Reflexive and transitive -/

theorem not_done_of_unfinished {x : Slot} (h : x.unfinished = true) : x.state ≠ .done := by
  intro hd
  simp [Slot.unfinished, hd] at h

theorem SlotMoves.refl (x : Slot) : SlotMoves x x := .inl rfl

/-- A finished slot stands. -/
theorem SlotMoves.eq_of_finished {x y : Slot} (h : SlotMoves x y) (hx : x.unfinished = false) :
    y = x := by
  rcases h with h | ⟨hu, -⟩
  · exact h
  · exact absurd hu (by simp [hx])

theorem not_unfinished_of_done {x : Slot} (h : x.state = .done) : x.unfinished = false := by
  simp [Slot.unfinished, h]

theorem SlotMoves.trans {x y z : Slot} (h : SlotMoves x y) (k : SlotMoves y z) : SlotMoves x z := by
  rcases h with rfl | ⟨hx, hy, hkind, htarget, hhistory⟩
  · exact k
  · rcases hy with hy | hy
    · rcases k with rfl | ⟨-, hz, hkind', htarget', hhistory'⟩
      · exact .inr ⟨hx, .inl hy, hkind, htarget, hhistory⟩
      · exact .inr ⟨hx, hz, hkind'.trans hkind, htarget'.trans htarget, hhistory'.trans hhistory⟩
    · rw [k.eq_of_finished (not_unfinished_of_done hy)]
      exact .inr ⟨hx, .inr hy, hkind, htarget, hhistory⟩

theorem EntryMoves.refl (e : RosterEntry) : EntryMoves e e := ⟨rfl, .rfl, .inl rfl⟩

theorem EntryMoves.trans {e f g : RosterEntry} (h : EntryMoves e f) (k : EntryMoves f g) :
    EntryMoves e g := by
  obtain ⟨hfail, hvacant, htoggle⟩ := h
  obtain ⟨hfail', hvacant', htoggle'⟩ := k
  refine ⟨hfail'.trans hfail, hvacant'.trans hvacant, ?_⟩
  rcases htoggle' with h' | h'
  · rw [h']
    exact htoggle
  · exact .inr h'

/-- An unanswered WRITE goes on as one or is DONE. -/
theorem UnansweredWrite.moves {a : Nat} {x y : Slot} (h : UnansweredWrite a x) (k : SlotMoves x y) :
    UnansweredWrite a y ∨ y.state = .done := by
  obtain ⟨hu, hkind, htarget, hhistory⟩ := h
  rcases k with rfl | ⟨-, hy, hkind', htarget', hhistory'⟩
  · exact .inl ⟨hu, hkind, htarget, hhistory⟩
  · exact hy.imp_left fun hy =>
      ⟨hy, hkind'.trans hkind, htarget'.trans htarget, hhistory'.trans hhistory⟩

/-- Where slots and queue stand, only entries and miss counts are to be looked at. -/
theorem Moves.of_slots_eq (hslots : t.slots = s.slots)
    (hqueue : t.completionQueue = s.completionQueue)
    (hentry : ∀ a, EntryMoves (s.entry a) (t.entry a))
    (hmisses : ∀ a, (t.status a).missCount = (s.status a).missCount) : Moves s t where
  slot v := by rw [State.slot_eq_of_slots hslots]; exact .refl _
  queue := by rw [hqueue]
  entry := hentry
  misses := hmisses
  unsure v a h _ hd := by
    rw [State.slot_eq_of_slots hslots] at hd
    exact absurd hd (not_done_of_unfinished h.1)

/-- A change of neither slots, queue, roster nor mirror is no move at all. -/
theorem Moves.of_eq (hslots : t.slots = s.slots) (hqueue : t.completionQueue = s.completionQueue)
    (hroster : t.roster = s.roster) (hmirror : t.mirror = s.mirror) : Moves s t :=
  .of_slots_eq hslots hqueue
    (fun a => by rw [State.entry_eq_of_roster hroster]; exact .refl _)
    (fun a => by rw [State.status_eq_of_mirror hmirror])

theorem Moves.refl (s : State) : Moves s s := .of_eq rfl rfl rfl rfl

theorem Moves.trans (h : Moves s t) (k : Moves t u) : Moves s u where
  slot v := (h.slot v).trans (k.slot v)
  queue := h.queue.trans k.queue
  entry a := (h.entry a).trans (k.entry a)
  misses a := (k.misses a).trans (h.misses a)
  unsure v a hwrite hpresent hdone := by
    obtain ⟨-, hvacant, -⟩ := h.entry a
    obtain ⟨-, -, htoggle⟩ := k.entry a
    rcases hwrite.moves (h.slot v) with hgoes | hends
    · exact k.unsure v a hgoes (fun hv => hpresent (hvacant.1 hv)) hdone
    · have hunsure := h.unsure v a hwrite hpresent hends
      exact htoggle.elim (·.trans hunsure) id

theorem RequestMoves.refl (s : State) : RequestMoves s s := ⟨.refl s, .refl s, fun _ => rfl⟩

theorem RequestMoves.trans (h : RequestMoves s t) (k : RequestMoves t u) : RequestMoves s u :=
  ⟨h.touches.trans k.touches, h.moves.trans k.moves, fun a => by rw [k.entry a, h.entry a]⟩

theorem RequestMoves.state (h : RequestMoves s t) (a : Nat) : (t.entry a).state = (s.entry a).state := by
  rw [h.entry a]

theorem RequestMoves.route (h : RequestMoves s t) (a : Nat) : (t.entry a).route = (s.entry a).route := by
  rw [h.entry a]

theorem RequestMoves.hops (h : RequestMoves s t) (a : Nat) : (t.entry a).hops = (s.entry a).hops := by
  rw [h.entry a]

/-- The front checks read entry states, lock and checks only, which these moves leave alone. -/
theorem RequestMoves.frontCheck (h : RequestMoves s t) (x : Slot) : t.frontCheck x = s.frontCheck x := by
  have hidle : t.checksIdle = s.checksIdle := by
    simp only [State.checksIdle, State.checkRunning, h.touches.checks]
  simp only [State.frontCheck, h.touches.lockHeld, hidle, h.state]

theorem FrontMoves.refl (s : State) : FrontMoves s s := ⟨.refl s, fun _ _ => rfl⟩

theorem FrontMoves.passesFront (h : FrontMoves s t) {v : Tag} (hv : PassesFront v s) :
    PassesFront v t := by
  unfold PassesFront
  rw [h.passing v hv, h.requests.frontCheck]
  exact hv

theorem FrontMoves.trans (h : FrontMoves s t) (k : FrontMoves t u) : FrontMoves s u :=
  ⟨h.requests.trans k.requests,
   fun v hv => (k.passing v (h.passesFront hv)).trans (h.passing v hv)⟩

/-- A fold of steps that each relate the state before to the one after does so as a whole. -/
theorem foldl_relates {α : Type} {R : State → State → Prop} (hrefl : ∀ s, R s s)
    (htrans : ∀ {s t u}, R s t → R t u → R s u) {f : State → α → State} (hf : ∀ s a, R s (f s a))
    (l : List α) (s : State) : R s (l.foldl f s) := by
  induction l generalizing s with
  | nil => exact hrefl s
  | cons a l ih => exact htrans (hf s a) (ih _)

/-! ## Completing a slot (R91) -/

/-- The effect of R94 by kind and history is the one by kind code and history. -/
theorem effectOf_kind (x : Slot) (h : History) :
    effectOf x.kind h = effectByHistory x.kindCode h := by
  have hcodes : ∀ c : Byte, ∀ h ∈ [History.notSent, .sentNoReply, .naked, .acked],
      effectOf (ReqKind.ofCode c) h = effectByHistory c h := by decide +kernel
  exact hcodes _ _ (by cases h <;> decide)

theorem doneSlot_eq (x : Slot) (st : Status) (late : Bool) (data : List Byte) (epoch : Byte) :
    doneSlot x st late data epoch
      = doneWith x st (effectByHistory x.kindCode x.history) late data epoch := by
  simp [doneSlot, doneWith, effectOf_kind]

/-- Setting a toggle changes it in an entry that is present, and nothing else. -/
theorem setToggle_entry (a b : Nat) (g : Toggle) (s : State) :
    (setToggle a g s).entry b
      = if b = a ∧ (s.entry a).state ≠ .vacant then { s.entry b with toggle := g } else s.entry b := by
  unfold setToggle
  by_cases hv : (s.entry a).state = .vacant
  · simp [hv]
  · have ha : 1 ≤ a ∧ a ≤ 62 := by
      by_contra hout
      exact hv (by rw [State.entry_outside s hout]; rfl)
    rw [if_neg hv, State.entry_setEntry]
    by_cases hb : b = a
    · subst hb
      simp [ha, hv]
    · simp [hb]

variable (v : Tag) (st : Status) (late : Bool) (data : List Byte)

theorem setToggle_slots (a : Nat) (g : Toggle) (s : State) : (setToggle a g s).slots = s.slots := by
  unfold setToggle
  split
  · rfl
  · simp

theorem setToggle_queue (a : Nat) (g : Toggle) (s : State) :
    (setToggle a g s).completionQueue = s.completionQueue := by
  unfold setToggle
  split
  · rfl
  · simp

/-- A slot that is not unfinished is left alone (R85). -/
theorem complete_finished (h : (s.slot v).unfinished = false) : complete v st late data s = s := by
  simp [complete, h]

/-- The state with a slot DONE and at the tail of the completion queue (R91 steps 1 to 5). -/
def queuedDone (v : Tag) (st : Status) (late : Bool) (data : List Byte) (s : State) : State :=
  { s.setSlot v (doneSlot (s.slot v) st late data s.epoch) with
    completionQueue := s.completionQueue ++ [v] }

/-- An unfinished slot is DONE and joins the queue; of the roster at most one toggle becomes UNSURE, that of an
unanswered WRITE's target (R91). -/
theorem complete_unfinished (h : (s.slot v).unfinished = true) :
    (complete v st late data s = queuedDone v st late data s ∧ ∀ a, ¬UnansweredWrite a (s.slot v))
      ∨ ∃ a, complete v st late data s = setToggle a .unsure (queuedDone v st late data s)
          ∧ ∀ b, UnansweredWrite b (s.slot v) → b = a := by
  have hwrite {a : Nat} (hw : UnansweredWrite a (s.slot v)) :
      ((s.slot v).kind == some .write
        && effectOf (s.slot v).kind (s.slot v).history == .unknown) = true := by
    obtain ⟨-, hkind, -, hhistory⟩ := hw
    simp [Slot.kind, hkind, hhistory, ReqKind.ofCode, effectOf]
  unfold complete
  simp only [h, if_true]
  split
  · split
    · next a ha =>
      refine .inr ⟨a, rfl, fun b hb => ?_⟩
      exact Option.some.inj (hb.2.2.1.symm.trans ha)
    · next hnone =>
      refine .inl ⟨rfl, fun a ha => ?_⟩
      exact nomatch ha.2.2.1.symm.trans hnone
  · next hno => exact .inl ⟨rfl, fun a ha => hno (hwrite ha)⟩

/-- What each slot is after one has been completed. -/
theorem complete_slot (h : (s.slot v).unfinished = true) (w : Tag) :
    (complete v st late data s).slot w
      = if w = v then doneSlot (s.slot v) st late data s.epoch else s.slot w := by
  have hslots : (complete v st late data s).slots = (queuedDone v st late data s).slots := by
    rcases complete_unfinished v st late data h with ⟨heq, -⟩ | ⟨a, heq, -⟩
    · rw [heq]
    · rw [heq, setToggle_slots]
  rw [State.slot_eq_of_slots hslots, ← State.slot_setSlot]
  rfl

theorem complete_queue (h : (s.slot v).unfinished = true) :
    (complete v st late data s).completionQueue = s.completionQueue ++ [v] := by
  rcases complete_unfinished v st late data h with ⟨heq, -⟩ | ⟨a, heq, -⟩
  · rw [heq]
    rfl
  · rw [heq, setToggle_queue]
    rfl

/-- Completing a slot changes nothing of an entry but its toggle, to UNSURE. -/
theorem complete_entry (s : State) (a : Nat) :
    (complete v st late data s).entry a = s.entry a
      ∨ (complete v st late data s).entry a = { s.entry a with toggle := .unsure } := by
  by_cases h : (s.slot v).unfinished = true
  · rcases complete_unfinished v st late data h with ⟨heq, -⟩ | ⟨b, heq, -⟩
    · rw [heq]
      exact .inl rfl
    · rw [heq, setToggle_entry]
      split
      · exact .inr rfl
      · exact .inl rfl
  · rw [complete_finished v st late data (by simpa using h)]
    exact .inl rfl

/-- An unanswered WRITE that is completed makes its present target's toggle UNSURE (R91). -/
theorem complete_unsure {a : Nat} (h : UnansweredWrite a (s.slot v))
    (hpresent : (s.entry a).state ≠ .vacant) :
    ((complete v st late data s).entry a).toggle = .unsure := by
  rcases complete_unfinished v st late data h.1 with ⟨-, hno⟩ | ⟨b, heq, hb⟩
  · exact absurd h (hno a)
  · obtain rfl := hb a h
    rw [heq, setToggle_entry, if_pos ⟨rfl, hpresent⟩]

theorem doneSlot_moves {x : Slot} (h : x.unfinished = true) (epoch : Byte) :
    SlotMoves x (doneSlot x st late data epoch) := .inr ⟨h, .inr rfl, rfl, rfl, rfl⟩

theorem complete_moves (s : State) : RequestMoves s (complete v st late data s) := by
  by_cases h : (s.slot v).unfinished = true
  · have hentry (a : Nat) := complete_entry v st late data s a
    have htouches := complete_touches v st late data s
    refine ⟨htouches, ⟨fun w => ?_, ?_, fun a => ?_, fun a => ?_, fun w a hw hpresent hdone => ?_⟩,
      fun a => ?_⟩
    · rw [complete_slot v st late data h]
      split
      · next hwv =>
        rw [hwv]
        exact doneSlot_moves st late data h _
      · exact .refl _
    · rw [complete_queue v st late data h]
      exact List.prefix_append _ _
    · rcases hentry a with he | he <;> rw [he]
      · exact .refl _
      · exact ⟨rfl, .rfl, .inr rfl⟩
    · rw [State.status_eq_of_mirror htouches.mirror]
    · by_cases hwv : w = v
      · subst hwv
        exact complete_unsure w st late data hw hpresent
      · rw [complete_slot v st late data h, if_neg hwv] at hdone
        exact absurd hdone (not_done_of_unfinished hw.1)
    · rcases hentry a with he | he <;> rw [he]
  · rw [complete_finished v st late data (by simpa using h)]
    exact .refl s

theorem finish_moves (s : State) : RequestMoves s (finish v st s) := complete_moves v st false [] s

/-- Completing one slot leaves every other slot. -/
theorem complete_slot_ne {w : Tag} (h : w ≠ v) (s : State) :
    (complete v st late data s).slot w = s.slot w := by
  by_cases hu : (s.slot v).unfinished = true
  · rw [complete_slot v st late data hu, if_neg h]
  · rw [complete_finished v st late data (by simpa using hu)]

/-- A slot that goes on unfinished moves nothing else. -/
theorem setSlot_moves {y : Slot} (h : SlotMoves (s.slot v) y) (hy : y.unfinished = true) :
    RequestMoves s (s.setSlot v y) := by
  refine ⟨setSlot_touches _ _ _, ⟨fun w => ?_, List.prefix_rfl, fun _ => .refl _, fun _ => rfl,
    fun w a hw _ hdone => ?_⟩, fun _ => rfl⟩
  · rw [State.slot_setSlot]
    split
    · next hwv => rw [hwv]; exact h
    · exact .refl _
  · rw [State.slot_setSlot] at hdone
    split at hdone
    · exact absurd hdone (not_done_of_unfinished hy)
    · exact absurd hdone (not_done_of_unfinished hw.1)

/-! ## An ACTIVE slot ended by its exchange (R65, R112) -/

theorem flushFollower_moves (target : Option Nat) (s : State) :
    RequestMoves s (flushFollower target v s) := by
  unfold flushFollower
  simp only
  split
  · exact finish_moves _ _ _
  · exact .refl s

/-- What follows the completion of an ACTIVE slot in a census only moves requests (R65). -/
theorem completeActive_after_complete (s : State) :
    RequestMoves (complete v st late data s) (completeActive v st late data s) := by
  unfold completeActive
  simp only
  split
  · exact foldl_relates (fun s => .refl s) .trans (fun s w => flushFollower_moves w _ s) _ _
  · exact .refl _

theorem completeActive_moves (s : State) : RequestMoves s (completeActive v st late data s) :=
  (complete_moves v st late data s).trans (completeActive_after_complete v st late data s)

theorem waitingRetry_moves {x : Slot} (h : x.unfinished = true) (b : Option Nat) :
    SlotMoves x { x with state := .waitingRetry, backoff := b } :=
  .inr ⟨h, .inl rfl, rfl, rfl, rfl⟩

theorem waitOrFlush_moves (h : (s.slot v).unfinished = true) (b : Option Nat) :
    RequestMoves s (waitOrFlush v b s) := by
  unfold waitOrFlush
  split
  · exact completeActive_moves _ _ _ _ _
  · exact setSlot_moves v (waitingRetry_moves h b) rfl

/-- A slot ended first in a step stays ended as it is, whatever follows. -/
theorem completes_of_moves {y : Slot} (h : Completes v y s t) (hy : y.unfinished = false)
    (hm : Moves t u) : Completes v y s u := by
  obtain ⟨hslot, rest, hqueue⟩ := h
  obtain ⟨more, hmore⟩ := hm.queue
  refine ⟨?_, rest ++ more, ?_⟩
  · rw [(hm.slot v).eq_of_finished (by rw [hslot]; exact hy), hslot]
  · rw [← hmore, hqueue, List.append_assoc, List.cons_append]

/-- An ACTIVE slot made DONE is the first the step completes (R91). -/
theorem completeActive_completes (h : (s.slot v).unfinished = true) :
    Completes v
      (doneWith (s.slot v) st (effectByHistory (s.slot v).kindCode (s.slot v).history) late data s.epoch)
      s (completeActive v st late data s) := by
  refine completes_of_moves v (t := complete v st late data s) ⟨?_, [], complete_queue v st late data h⟩
    rfl (completeActive_after_complete v st late data s).moves
  rw [complete_slot v st late data h, if_pos rfl, doneSlot_eq]

/-! ## The front checks (R107, R120) -/

theorem chooseBcast_moves (h : (s.slot v).unfinished = true) : RequestMoves s (chooseBcast v s) := by
  unfold chooseBcast
  simp only
  split
  · exact setSlot_moves v (.inr ⟨h, .inl rfl, rfl, rfl, rfl⟩) rfl
  · exact finish_moves _ _ _

theorem unfinished_of_waiting {x : Slot} (h : x.waiting = true) : x.unfinished = true := by
  simp only [Slot.waiting, Bool.or_eq_true, beq_iff_eq] at h
  rcases h with h | h <;> simp [Slot.unfinished, h]

theorem frontStep_requests (s : State) : RequestMoves s (frontStep v s) := by
  unfold frontStep
  split
  · next hfront =>
    split
    · exact finish_moves _ _ _
    · split
      · simp only [Bool.and_eq_true] at hfront
        exact chooseBcast_moves v (unfinished_of_waiting hfront.2)
      · exact .refl s
  · exact .refl s

/-- The front checks of one slot leave every other slot. -/
theorem frontStep_slot_ne {w : Tag} (h : w ≠ v) (s : State) : (frontStep v s).slot w = s.slot w := by
  unfold frontStep
  split
  · split
    · exact complete_slot_ne _ _ _ _ h _
    · split
      · unfold chooseBcast
        simp only
        split
        · exact State.slot_setSlot_ne _ h _
        · exact complete_slot_ne _ _ _ _ h _
      · rfl
  · rfl

/-- A slot that passes its front checks stands. -/
theorem frontStep_of_passes (h : PassesFront v s) : frontStep v s = s := by
  obtain ⟨hbcast, hcheck⟩ := h
  simp [frontStep, hcheck, hbcast]

theorem frontStep_moves (s : State) : FrontMoves s (frontStep v s) := by
  refine ⟨frontStep_requests v s, fun w hw => ?_⟩
  by_cases hwv : w = v
  · subst hwv
    rw [frontStep_of_passes w hw]
  · exact frontStep_slot_ne v hwv s

theorem frontPass_moves (s : State) : FrontMoves s (frontPass s) :=
  foldl_relates .refl .trans (fun s v => frontStep_moves v s) _ s

/-- The front checks complete no slot whose target is present, reachable or still being checked, and whose kind the
lock lets pass (R107). -/
theorem frontCheck_passes {x : Slot} {a : Nat} (htarget : x.target = some a)
    (hpresent : (s.entry a).state ≠ .vacant)
    (hreach : (s.entry a).state ≠ .lost ∨ s.checksIdle = false)
    (hlock : s.lockHeld = false ∨ x.kindCode = 1 ∨ x.kindCode = 4) : s.frontCheck x = none := by
  unfold State.frontCheck
  split
  · rfl
  · next k hk =>
    have hpass : (k.lockRefuses && s.lockHeld) = false := by
      rcases hlock with hopen | hread | hprobe
      · simp [hopen]
      · simp only [Slot.kind, hread] at hk
        cases hk
        rfl
      · simp only [Slot.kind, hprobe] at hk
        cases hk
        rfl
    have hreached : ((s.entry a).state == .lost && s.checksIdle) = false := by
      rcases hreach with h | h <;> simp [h]
    simp [htarget, hpresent, hpass, Bool.and_assoc, hreached]

theorem not_isBcast_of_code {x : Slot} (h : x.kindCode ≠ 3) : x.isBcast = false := by
  have hcodes : ∀ c : Byte, c ≠ 3 → (ReqKind.ofCode c == some .bcastWrite) = false := by
    decide +kernel
  exact hcodes _ h

end Sys2Proof.Proofs
end

section
/-! What the reach checks do in the step in which something changed: a check with nothing to decide rests, a module
without a way left is LOST, and a check with every module decided ends (R107, R159 to R166). -/

namespace Sys2Proof.Proofs

-- one theorem after the other: many proofs elaborated at once ask for a stack each
set_option Elab.async false

open Sys2Proof.Machine Sys2Proof.Safety

variable {s t u : State} {x : Port} {a b : Nat}

/-! ## Losing a module (R163) -/

/-- The mirror entry of a lost module (R138). -/
def lostStatus (m : MirrorEntry) : MirrorEntry :=
  { staleEntry m with lostMark := true, fetchWanted := false }

/-- The cause MODULE_STALE is raised where the entry was not STALE before (R125, R138). -/
theorem markStatusLost_eq (a : Nat) (s : State) :
    markStatusLost a s =
      { s.setStatus a (lostStatus (s.status a)) with
        sticky := { s.sticky with
          moduleStale := s.sticky.moduleStale || decide ((s.status a).state ≠ .stale) } } := by
  unfold markStatusLost
  simp only
  have hsticky : (s.setStatus a (lostStatus (s.status a))).sticky = s.sticky :=
    State.setStatus_sticky _ _ _
  split
  · next h =>
    rw [show decide ((s.status a).state ≠ .stale) = false by simp [h], Bool.or_false, ← hsticky]
    rfl
  · next h =>
    rw [show decide ((s.status a).state ≠ .stale) = true by simp [h], Bool.or_true, ← hsticky]
    rfl

/-- Losing a module changes roster, mirror, causes and checks only. -/
theorem loseModule_frame (x : Port) (a : Nat) (s : State) :
    loseModule x a s =
      { s with
        roster := (loseModule x a s).roster, mirror := (loseModule x a s).mirror
        sticky := (loseModule x a s).sticky, checks := (loseModule x a s).checks } := by
  unfold loseModule
  simp only
  split
  · rw [markStatusLost_eq]
    unfold State.setStatus State.setEntry
    split <;> rfl
  · rfl

theorem loseModule_slots (x : Port) (a : Nat) (s : State) : (loseModule x a s).slots = s.slots := by
  rw [loseModule_frame]

theorem loseModule_queue (x : Port) (a : Nat) (s : State) :
    (loseModule x a s).completionQueue = s.completionQueue := by
  rw [loseModule_frame]

theorem loseModule_ringState (x : Port) (a : Nat) (s : State) :
    (loseModule x a s).ringState = s.ringState := by
  rw [loseModule_frame]

/-- A check after it has decided a module LOST (R163). -/
def checkLoses (a : Nat) (c : Check) : Check :=
  { c with cutOff := setMark a .lost c.cutOff, lost := c.lost + 1 }

theorem loseModule_checks (x : Port) (a : Nat) (s : State) :
    (loseModule x a s).checks = s.checks.set x (checkLoses a (s.checks.get x)) := by
  unfold loseModule
  simp only
  split
  · rw [markStatusLost_eq]
    simp [State.setCheck, checkLoses]
  · rfl

/-- An address that is ACTIVE or SUSPECT has an entry. -/
theorem address_of_live (h : (s.entry a).live = true) : 1 ≤ a ∧ a ≤ 62 := by
  by_contra hout
  rw [State.entry_outside s hout] at h
  exact absurd h (by decide)

theorem loseModule_entry (x : Port) (a b : Nat) (s : State) :
    (loseModule x a s).entry b
      = if b = a ∧ (s.entry a).live = true then lostEntry (s.entry b) else s.entry b := by
  by_cases h : (s.entry a).live = true
  · have hroster : (loseModule x a s).roster = (s.setEntry a (lostEntry (s.entry a))).roster := by
      simp [loseModule, h, markStatusLost_eq, State.setCheck]
    rw [State.entry_eq_of_roster hroster, State.entry_setEntry]
    by_cases hb : b = a
    · subst hb
      simp [h, address_of_live h]
    · simp [hb]
  · have hroster : (loseModule x a s).roster = s.roster := by
      simp [loseModule, h, State.setCheck]
    rw [State.entry_eq_of_roster hroster, if_neg (fun hb => h hb.2)]

theorem loseModule_status (x : Port) (a b : Nat) (s : State) :
    (loseModule x a s).status b
      = if b = a ∧ (s.entry a).live = true then lostStatus (s.status b) else s.status b := by
  by_cases h : (s.entry a).live = true
  · have hmirror : (loseModule x a s).mirror = (s.setStatus a (lostStatus (s.status a))).mirror := by
      simp only [loseModule, h, if_true, markStatusLost_eq]
      have hstatus : (s.setEntry a (lostEntry (s.entry a))).status a = s.status a :=
        State.status_eq_of_mirror (State.setEntry_mirror _ _ _) a
      rw [hstatus]
      unfold State.setStatus State.setEntry
      split <;> rfl
    rw [State.status_eq_of_mirror hmirror, State.status_setStatus]
    by_cases hb : b = a
    · subst hb
      simp [h, address_of_live h]
    · simp [hb]
  · have hmirror : (loseModule x a s).mirror = s.mirror := by
      simp [loseModule, h, State.setCheck]
    rw [State.status_eq_of_mirror hmirror, if_neg (fun hb => h hb.2)]

/-- Losing a module only adds causes; MODULE_STALE is among them where the module's entry was not STALE. -/
theorem loseModule_moduleStale (x : Port) (a : Nat) (s : State) :
    (loseModule x a s).sticky.moduleStale
      = (s.sticky.moduleStale || ((s.entry a).live && decide ((s.status a).state ≠ .stale))) := by
  unfold loseModule
  simp only
  have hstatus : (s.setEntry a (lostEntry (s.entry a))).status a = s.status a :=
    State.status_eq_of_mirror (State.setEntry_mirror _ _ _) a
  split
  · next h =>
    rw [markStatusLost_eq]
    simp [State.raiseModuleLost, State.setCheck, hstatus, h]
  · next h => simp [State.raiseModuleLost, State.setCheck, h]

theorem lostEntry_moves {e : RosterEntry} (h : e.live = true) : EntryMoves e (lostEntry e) := by
  refine ⟨rfl, ?_, .inl rfl⟩
  have hstate : e.state ≠ .vacant := by
    intro hv
    simp [RosterEntry.live, hv] at h
  simp [lostEntry, hstate]

theorem loseModule_moves (x : Port) (a : Nat) (s : State) : Moves s (loseModule x a s) := by
  refine .of_slots_eq (loseModule_slots x a s) (loseModule_queue x a s) (fun b => ?_) (fun b => ?_)
  · rw [loseModule_entry]
    split
    · next h => exact lostEntry_moves (by rw [h.1]; exact h.2)
    · exact .refl _
  · rw [loseModule_status]
    split
    · rfl
    · rfl

/-! ## Modules made LOST (R50, R138, R163) -/

/-- A lost module's records are those of R50 and R138. -/
theorem loseModule_madeLost (x : Port) (h : (s.entry a).live = true) :
    MadeLost a s (loseModule x a s) := by
  unfold MadeLost
  rw [loseModule_entry, loseModule_status, if_pos ⟨rfl, h⟩, if_pos ⟨rfl, h⟩]
  refine ⟨rfl, rfl, rfl, fun hstale => ?_⟩
  simp [loseModule_moduleStale, h, hstale]

/-- A module made LOST stays so where its entry changes in its toggle at most, its mirror entry stands and causes are
only added. -/
theorem madeLost_after (h : MadeLost b s t)
    (hentry : u.entry b = { t.entry b with toggle := (u.entry b).toggle })
    (hstatus : u.status b = t.status b)
    (hlost : t.sticky.moduleLost = true → u.sticky.moduleLost = true)
    (hstale : t.sticky.moduleStale = true → u.sticky.moduleStale = true) : MadeLost b s u := by
  obtain ⟨hentry', hstatus', hlost', hstale'⟩ := h
  refine ⟨?_, hstatus.trans hstatus', hlost hlost', fun hs => hstale (hstale' hs)⟩
  rw [hentry, hentry']

/-- A module made LOST counts as such from any earlier state with its identity, its hop counts, its last_seq and its
mirror entry. -/
theorem madeLost_before (h : MadeLost b t u)
    (hentry : t.entry b = { s.entry b with
      state := (t.entry b).state, failCount := (t.entry b).failCount
      toggle := (t.entry b).toggle })
    (hstatus : t.status b = s.status b) : MadeLost b s u := by
  obtain ⟨hentry', hstatus', hlost', hstale'⟩ := h
  refine ⟨?_, ?_, hlost', ?_⟩
  · rw [hentry', hentry]
  · rw [hstatus', hstatus]
  · rw [← hstatus]
    exact hstale'

theorem madeLost_requests (h : MadeLost b s t) (hm : RequestMoves t u) : MadeLost b s u :=
  madeLost_after h (hm.entry b) (State.status_eq_of_mirror hm.touches.mirror b)
    (by rw [hm.touches.sticky]; exact id) (by rw [hm.touches.sticky]; exact id)

/-- A LOST module is neither ACTIVE nor SUSPECT (R44). -/
theorem not_live_of_madeLost (h : MadeLost b s t) : (t.entry b).live = false := by
  rw [h.1]
  rfl

/-- Losing a module leaves a LOST one as it is. -/
theorem madeLost_loseModule (h : MadeLost b s t) (x : Port) (a : Nat) :
    MadeLost b s (loseModule x a t) := by
  have hno : ¬(b = a ∧ (t.entry a).live = true) := by
    rintro ⟨rfl, hlive⟩
    exact absurd hlive (by simp [not_live_of_madeLost h])
  refine madeLost_after h ?_ ?_ (fun _ => rfl) (fun hstale => ?_)
  · rw [loseModule_entry, if_neg hno]
  · rw [loseModule_status, if_neg hno]
  · rw [loseModule_moduleStale, hstale, Bool.true_or]

/-! ## Losing several modules one after another (R162, log 30) -/

/-- Modules made LOST in the order of a list. -/
def loseAll (x : Port) (l : List Nat) (s : State) : State := l.foldl (fun s a => loseModule x a s) s

theorem loseAll_touches (x : Port) (l : List Nat) (s : State) : TouchesSettling s (loseAll x l s) :=
  foldl_relates .refl .trans (fun s a => loseModule_touches x a s) l s

theorem loseAll_slots (x : Port) (l : List Nat) (s : State) : (loseAll x l s).slots = s.slots :=
  foldl_relates (R := fun s t => t.slots = s.slots) (fun _ => rfl) (fun h k => k.trans h)
    (fun s a => loseModule_slots x a s) l s

theorem loseAll_ringState (x : Port) (l : List Nat) (s : State) :
    (loseAll x l s).ringState = s.ringState :=
  foldl_relates (R := fun s t => t.ringState = s.ringState) (fun _ => rfl) (fun h k => k.trans h)
    (fun s a => loseModule_ringState x a s) l s

/-- The check that loses modules in the order of a list. -/
theorem loseAll_checks (x : Port) (l : List Nat) (s : State) :
    (loseAll x l s).checks
      = s.checks.set x (l.foldl (fun c a => checkLoses a c) (s.checks.get x)) := by
  induction l generalizing s with
  | nil => exact (Pair.set_get _ _).symm
  | cons a l ih =>
    show (loseAll x l (loseModule x a s)).checks = _
    rw [ih, loseModule_checks, Pair.get_set_same, Pair.set_set]
    rfl

/-- Losing modules leaves a LOST one as it is. -/
theorem madeLost_loseAll (x : Port) (l : List Nat) (h : MadeLost b s t) :
    MadeLost b s (loseAll x l t) :=
  foldl_relates (R := fun t u => MadeLost b s t → MadeLost b s u) (fun _ => id) (fun h k => k ∘ h)
    (fun _ a h => madeLost_loseModule h x a) l t h

/-- Every listed module of a list without repetition is made LOST. -/
theorem loseAll_madeLost (x : Port) {l : List Nat} (hl : l.Nodup)
    (hlive : ∀ b ∈ l, (s.entry b).live = true) : ∀ b ∈ l, MadeLost b s (loseAll x l s) := by
  induction l generalizing s with
  | nil => exact nofun
  | cons a l ih =>
    obtain ⟨ha, hl⟩ := List.nodup_cons.1 hl
    have hne {b : Nat} (hb : b ∈ l) : b ≠ a := fun h => ha (h ▸ hb)
    have hentry {b : Nat} (hb : b ∈ l) : (loseModule x a s).entry b = s.entry b := by
      rw [loseModule_entry, if_neg (fun h => hne hb h.1)]
    intro b hb
    rcases List.mem_cons.1 hb with rfl | hb
    · exact madeLost_loseAll x l (loseModule_madeLost x (hlive b hb))
    · have hrest := ih hl
        (fun c hc => by rw [hentry hc]; exact hlive c (List.mem_cons_of_mem _ hc)) b hb
      exact madeLost_before hrest (by rw [hentry hb])
        (by rw [loseModule_status, if_neg (fun h => hne hb h.1)])

/-! ## Cut-off lists -/

/-- What deciding some modules LOST one after another leaves of a check: their marks and the count (R163). -/
theorem foldl_checkLoses (l : List Nat) (c : Check) :
    l.foldl (fun c a => checkLoses a c) c
      = { c with
          cutOff := l.foldl (fun m a => setMark a .lost m) c.cutOff, lost := c.lost + l.length } := by
  induction l generalizing c with
  | nil => rfl
  | cons a l ih =>
    rw [List.foldl_cons, ih]
    simp only [checkLoses, List.foldl_cons, List.length_cons, Nat.add_assoc, Nat.add_comm 1]

/-- Every module of a list is marked LOST once each of them has been. -/
theorem foldl_setMark_mem (l : List Nat) (m : List CutOff) :
    l.foldl (fun m a => setMark a .lost m) m
      = m.map fun c => if c.addr ∈ l then { c with mark := .lost } else c := by
  induction l generalizing m with
  | nil => simp
  | cons a l ih =>
    rw [List.foldl_cons, ih, setMark, List.map_map]
    refine List.map_congr_left fun c _ => ?_
    by_cases h : c.addr = a
    · simp [h]
    · simp [h]

/-- A list of PENDING modules whose modules are all lost. -/
theorem foldl_setMark_pending (l : List Nat) :
    l.foldl (fun m a => setMark a .lost m) (pendingMarks l)
      = l.map fun b => { addr := b, mark := .lost } := by
  rw [foldl_setMark_mem, pendingMarks, List.map_map]
  refine List.map_congr_left fun b hb => ?_
  simp [hb]

theorem pendingAddrs_pendingMarks (l : List Nat) : pendingAddrs (pendingMarks l) = l := by
  simp [pendingAddrs, pendingMarks, List.filter_map, Function.comp_def]

/-- Marking a module LOST takes its address off the PENDING ones. -/
theorem pendingAddrs_setMark_lost (a : Nat) (m : List CutOff) :
    pendingAddrs (setMark a .lost m) = (pendingAddrs m).filter (· ≠ a) := by
  induction m with
  | nil => rfl
  | cons c m ih =>
    unfold pendingAddrs setMark at ih ⊢
    by_cases ha : c.addr = a
    · by_cases hp : c.mark = .pending
      · simpa [ha, hp] using ih
      · simpa [ha, hp] using ih
    · by_cases hp : c.mark = .pending
      · simpa [ha, hp] using ih
      · simpa [ha, hp] using ih

theorem mem_pendingAddrs {m : List CutOff} :
    b ∈ pendingAddrs m ↔ { addr := b, mark := .pending } ∈ m := by
  simp only [pendingAddrs, List.mem_map, List.mem_filter, beq_iff_eq]
  constructor
  · rintro ⟨c, ⟨hc, hmark⟩, haddr⟩
    cases c
    subst hmark haddr
    exact hc
  · exact fun h => ⟨_, ⟨h, rfl⟩, rfl⟩

/-- A list that is not empty has a lowest address, and `lowest` gives it. -/
theorem exists_lowest {l : List Nat} (hl : l ≠ []) :
    ∃ m ∈ l, lowest l = some m ∧ ∀ c ∈ l, m ≤ c := by
  induction l with
  | nil => exact absurd rfl hl
  | cons a l ih =>
    by_cases hl : l = []
    · subst hl
      exact ⟨a, by simp, rfl, by simp⟩
    · obtain ⟨m, hm, hlow, hmin⟩ := ih hl
      refine ⟨min a m, ?_, by simp [lowest, hlow], ?_⟩
      · rcases Nat.le_total a m with h | h
        · simp [h]
        · simp [h, hm]
      · intro c hc
        rcases List.mem_cons.1 hc with rfl | hc
        · exact Nat.min_le_left _ _
        · exact (Nat.min_le_right _ _).trans (hmin c hc)

/-- The lowest of some addresses is the one no other is below. -/
theorem lowest_of_le {l : List Nat} (hb : b ∈ l) (hle : ∀ c ∈ l, b ≤ c) : lowest l = some b := by
  obtain ⟨m, hm, hlow, hmin⟩ := exists_lowest (List.ne_nil_of_mem hb)
  rw [hlow, Nat.le_antisymm (hmin b hb) (hle m hm)]

/-! ## The end of a check (R166) -/

/-- The slots of the modules that a check made LOST are ended, each as its turn comes. -/
def endRequests (x : Port) (s : State) : State :=
  s.unfinishedTags.foldl (fun s' v => completeLost (s.checks.get x) v s') s

theorem completeLost_moves (c : Check) (v : Tag) (s : State) : RequestMoves s (completeLost c v s) := by
  unfold completeLost
  split
  · split
    · exact finish_moves _ _ _
    · exact .refl s
  · exact .refl s

theorem endRequests_moves (x : Port) (s : State) : RequestMoves s (endRequests x s) :=
  foldl_relates .refl .trans (fun s v => completeLost_moves _ v s) _ s

/-- Beyond its requests, the end of a check changes the ring state, the check and REACH_DONE. -/
theorem endCheck_eq (x : Port) (s : State) :
    endCheck x s =
      { endRequests x s with
        ringState := if s.ringState = .closed ∧ (s.checks.get x).cutOff ≠ [] then .broken else s.ringState
        checks := s.checks.set x (endedCheck (s.checks.get x))
        sticky := { s.sticky with reachDone := true } } := by
  have htouches := (endRequests_moves x s).touches
  have hunfold : endCheck x s =
      ((if (endRequests x s).ringState = .closed ∧ (s.checks.get x).cutOff ≠ [] then
          { endRequests x s with ringState := .broken }
        else endRequests x s).setCheck x (endedCheck (s.checks.get x))).raiseReachDone := rfl
  rw [hunfold, htouches.ringState]
  by_cases h : s.ringState = .closed ∧ (s.checks.get x).cutOff ≠ []
  · rw [if_pos h, if_pos h]
    simp only [State.setCheck, State.raiseReachDone, htouches.checks, htouches.sticky]
  · rw [if_neg h, if_neg h]
    simp only [State.setCheck, State.raiseReachDone, htouches.checks, htouches.sticky,
      ← htouches.ringState]

theorem endCheck_moves (x : Port) (s : State) : Moves s (endCheck x s) := by
  rw [endCheck_eq]
  exact (endRequests_moves x s).moves.trans (.of_eq rfl rfl rfl rfl)

theorem completeLost_slot_ne {v w : Tag} (h : w ≠ v) (c : Check) (s : State) :
    (completeLost c v s).slot w = s.slot w := by
  unfold completeLost
  split
  · split
    · exact complete_slot_ne _ _ _ _ h _
    · rfl
  · rfl

/-- A waiting slot of a module the check made LOST is UNREACHABLE when its turn comes (R166 step 1). -/
theorem completeLost_slot {v : Tag} {c : Check} (hwaits : (s.slot v).waiting = true)
    (htarget : (s.slot v).target = some b) (hlost : c.madeLost b = true) :
    (completeLost c v s).slot v = doneSlot (s.slot v) .unreachable false [] s.epoch := by
  unfold completeLost
  simp only [htarget, hwaits, hlost, Bool.and_self, if_true]
  exact (complete_slot v .unreachable false [] (unfinished_of_waiting hwaits) v).trans (if_pos rfl)

theorem madeLost_of_mem {c : Check} (h : { addr := b, mark := .lost } ∈ c.cutOff) :
    c.madeLost b = true := by
  simp only [Check.madeLost, List.any_eq_true, Bool.and_eq_true, beq_iff_eq]
  exact ⟨_, h, rfl, rfl⟩

/-- A waiting slot of a module the check made LOST is UNREACHABLE once the turn of each of some slots, its own among
them, has come. -/
theorem foldl_completeLost_slot {v : Tag} {c : Check} (hwaits : (s.slot v).waiting = true)
    (htarget : (s.slot v).target = some b) (hlost : c.madeLost b = true) {l : List Tag}
    (hv : v ∈ l) :
    (l.foldl (fun s w => completeLost c w s) s).slot v
      = doneSlot (s.slot v) .unreachable false [] s.epoch := by
  induction l generalizing s with
  | nil => nomatch hv
  | cons w l ih =>
    rw [List.foldl_cons]
    by_cases hw : v = w
    · subst hw
      have hdone := completeLost_slot hwaits htarget hlost
      have hmoves : Moves (completeLost c v s) (l.foldl (fun s w => completeLost c w s) _) :=
        foldl_relates .refl .trans (fun s w => (completeLost_moves c w s).moves) l _
      rw [(hmoves.slot v).eq_of_finished (by rw [hdone]; rfl), hdone]
    · have hslot := completeLost_slot_ne hw c s
      rw [ih (by rw [hslot]; exact hwaits) (by rw [hslot]; exact htarget)
        ((List.mem_cons.1 hv).resolve_left hw), hslot, (completeLost_touches c w s).epoch]

/-- The waiting slots of the modules that a check made LOST end UNREACHABLE with it (R166). -/
theorem endCheck_slot {v : Tag} (hwaits : (s.slot v).waiting = true)
    (htarget : (s.slot v).target = some b)
    (hlost : { addr := b, mark := .lost } ∈ (s.checks.get x).cutOff) :
    (endCheck x s).slot v
      = doneWith (s.slot v) .unreachable
          (effectByHistory (s.slot v).kindCode (s.slot v).history) false [] s.epoch := by
  rw [endCheck_eq, ← doneSlot_eq]
  exact foldl_completeLost_slot hwaits htarget (madeLost_of_mem hlost)
    ((mem_unfinishedTags s v).2 (unfinished_of_waiting hwaits))

/-! ## Deciding and probing (R159, R162) -/

/-- A check that is not in REROUTING, or has a probe ready or in flight, decides nothing. -/
theorem decideModules_rests (n : Nat)
    (h : (s.checks.get x).state = .rerouting → (s.checks.get x).deciding ≠ none) :
    decideModules x n s = s := by
  cases n with
  | zero => rfl
  | succ n =>
    unfold decideModules
    simp only
    rw [if_neg (fun k => h k.1 k.2)]

/-- With no module PENDING, REROUTING ends (R166). -/
theorem decideModules_ends (n : Nat) (hstate : (s.checks.get x).state = .rerouting)
    (hdeciding : (s.checks.get x).deciding = none)
    (hpending : pendingAddrs (s.checks.get x).cutOff = []) :
    decideModules x (n + 1) s = endCheck x s := by
  simp [decideModules, hstate, hdeciding, hpending, lowest]

/-- The lowest PENDING module is taken where it can be probed on the other port (R162). -/
theorem decideModules_takes (n : Nat) (hstate : (s.checks.get x).state = .rerouting)
    (hdeciding : (s.checks.get x).deciding = none)
    (hlowest : lowest (pendingAddrs (s.checks.get x).cutOff) = some a)
    (hprobe : s.losesWithoutProbe x a = false) :
    decideModules x (n + 1) s = s.setCheck x { s.checks.get x with deciding := some a, tries := 0 } := by
  simp [decideModules, hstate, hdeciding, hlowest, hprobe]

theorem loseModule_isUp (x y : Port) (a : Nat) (s : State) : (loseModule x a s).isUp y = s.isUp y := by
  simp only [State.isUp, State.port, (loseModule_touches x a s).ports]

/-- With the other port not UP, every PENDING module is LOST, in ascending order of address, and the check ends
(R162, R166, log 30). -/
theorem decideModules_loses {l : List Nat} {n : Nat} (hn : l.length < n)
    (hstate : (s.checks.get x).state = .rerouting) (hdeciding : (s.checks.get x).deciding = none)
    (hdown : s.isUp x.other = false) (hpending : pendingAddrs (s.checks.get x).cutOff = l)
    (hsorted : l.Pairwise (· < ·)) :
    decideModules x n s = endCheck x (loseAll x l s) := by
  induction l generalizing n s with
  | nil =>
    obtain ⟨n, rfl⟩ := Nat.exists_eq_add_one_of_ne_zero (Nat.ne_of_gt hn)
    exact decideModules_ends n hstate hdeciding hpending
  | cons a l ih =>
    obtain ⟨n, rfl⟩ := Nat.exists_eq_add_one_of_ne_zero (Nat.ne_of_gt (Nat.zero_lt_of_lt hn))
    obtain ⟨ha, hsorted⟩ := List.pairwise_cons.1 hsorted
    have hlow : lowest (a :: l) = some a :=
      lowest_of_le (by simp) (fun c hc => (List.mem_cons.1 hc).elim (·.ge) (fun h => (ha c h).le))
    have hloses : s.losesWithoutProbe x a = true := by simp [State.losesWithoutProbe, hdown]
    have hstep : decideModules x (n + 1) s = decideModules x n (loseModule x a s) := by
      simp [decideModules, hstate, hdeciding, hpending, hlow, hloses]
    have hcheck : (loseModule x a s).checks.get x = checkLoses a (s.checks.get x) := by
      rw [loseModule_checks, Pair.get_set_same]
    rw [hstep]
    refine ih (Nat.lt_of_succ_lt_succ hn) ?_ ?_ ?_ ?_ hsorted
    · rw [hcheck]; exact hstate
    · rw [hcheck]; exact hdeciding
    · rw [loseModule_isUp]; exact hdown
    · rw [hcheck]
      show pendingAddrs (setMark a .lost (s.checks.get x).cutOff) = l
      rw [pendingAddrs_setMark_lost, hpending, List.filter_cons_of_neg (by simp)]
      exact List.filter_eq_self.2 (fun c hc => by simpa using (ha c hc).ne')

theorem decideModules_moves (x : Port) (n : Nat) (s : State) : Moves s (decideModules x n s) := by
  induction n generalizing s with
  | zero => exact .refl s
  | succ n ih =>
    unfold decideModules
    simp only
    split
    · split
      · exact endCheck_moves _ _
      · split
        · exact (loseModule_moves _ _ _).trans (ih _)
        · exact .of_eq rfl rfl rfl rfl
    · exact .refl s

/-- The end of a check leaves a LOST module as it is. -/
theorem madeLost_endCheck (h : MadeLost b s t) (x : Port) : MadeLost b s (endCheck x t) := by
  have hm := endRequests_moves x t
  rw [endCheck_eq]
  exact madeLost_after h (hm.entry b) (State.status_eq_of_mirror hm.touches.mirror b) id id

theorem madeLost_decideModules (h : MadeLost b s t) (x : Port) (n : Nat) :
    MadeLost b s (decideModules x n t) := by
  induction n generalizing t with
  | zero => exact h
  | succ n ih =>
    unfold decideModules
    simp only
    split
    · split
      · exact madeLost_endCheck h x
      · split
        · exact ih (madeLost_loseModule h x _)
        · exact h
    · exact h

theorem madeLost_advanceProbing (h : MadeLost b s t) (x : Port) :
    MadeLost b s (advanceProbing x t) := by
  unfold advanceProbing
  simp only
  split
  · split
    · exact madeLost_endCheck (t := t.setCheck x _) h x
    · split <;> exact h
  · exact h

/-- What a check does without waiting leaves a LOST module as it is. -/
theorem madeLost_advanceCheck (h : MadeLost b s t) (x : Port) : MadeLost b s (advanceCheck x t) :=
  madeLost_decideModules (madeLost_advanceProbing h x) x _

theorem advanceProbing_moves (x : Port) (s : State) : Moves s (advanceProbing x s) := by
  unfold advanceProbing
  simp only
  split
  · split
    · refine .trans ?_ (endCheck_moves _ _)
      exact .of_eq rfl rfl rfl rfl
    · split
      · exact .refl s
      · exact .of_eq rfl rfl rfl rfl
  · exact .refl s

theorem advanceCheck_moves (x : Port) (s : State) : Moves s (advanceCheck x s) :=
  (advanceProbing_moves x s).trans (decideModules_moves _ _ _)

theorem endCheck_other (x : Port) (s : State) :
    (endCheck x s).checks.get x.other = s.checks.get x.other := by
  rw [endCheck_eq]
  exact Pair.get_set_other _ _ _

theorem decideModules_other (x : Port) (n : Nat) (s : State) :
    (decideModules x n s).checks.get x.other = s.checks.get x.other := by
  induction n generalizing s with
  | zero => rfl
  | succ n ih =>
    unfold decideModules
    simp only
    split
    · split
      · exact endCheck_other x s
      · split
        · rw [ih, loseModule_checks, Pair.get_set_other]
        · exact Pair.get_set_other _ _ _
    · rfl

theorem advanceProbing_other (x : Port) (s : State) :
    (advanceProbing x s).checks.get x.other = s.checks.get x.other := by
  unfold advanceProbing
  simp only
  split
  · split
    · rw [endCheck_other]
      exact Pair.get_set_other _ _ _
    · split
      · rfl
      · exact Pair.get_set_other _ _ _
  · rfl

/-- What a check does without waiting leaves the other check (R158). -/
theorem advanceCheck_other (x : Port) (s : State) :
    (advanceCheck x s).checks.get x.other = s.checks.get x.other :=
  (decideModules_other _ _ _).trans (advanceProbing_other _ _)

/-! ## Settling (R107) -/

/-- A check that waits: IDLE, for its port, for a probe's turn or for a probe's outcome. In PROBING the cursor
stands at a module still routed on the port (R159). -/
def CheckRests (x : Port) (s : State) : Prop :=
  ((s.checks.get x).state = .probing → (s.checks.get x).begun = true →
      ∃ a, (s.checks.get x).probeList[(s.checks.get x).cursor]? = some a ∧ (s.entry a).route = some x)
    ∧ ((s.checks.get x).state = .rerouting → (s.checks.get x).deciding ≠ none)

theorem checkRests_of_idle (h : (s.checks.get x).state = .idle) : CheckRests x s := by
  constructor
  · intro hp
    rw [h] at hp
    nomatch hp
  · intro hr
    rw [h] at hr
    nomatch hr

theorem CheckRests.requests (h : CheckRests x s) (hm : RequestMoves s t) : CheckRests x t := by
  unfold CheckRests
  simp only [hm.touches.checks, hm.route]
  exact h

theorem advanceProbing_rests (h : CheckRests x s) : advanceProbing x s = s := by
  unfold advanceProbing
  simp only
  split
  · next hp =>
    obtain ⟨a, ha, hroute⟩ := h.1 hp.1 hp.2
    obtain ⟨hlt, rfl⟩ := List.getElem?_eq_some_iff.1 ha
    rw [List.drop_eq_getElem_cons hlt, skipUnrouted, if_pos hroute, if_neg (by omega), if_pos rfl]
  · rfl

/-- A check in REROUTING decides what it can (R162). -/
theorem advanceCheck_rerouting (h : (s.checks.get x).state = .rerouting) :
    advanceCheck x s = decideModules x ((s.checks.get x).cutOff.length + 1) s := by
  have hprobe : advanceProbing x s = s := by simp [advanceProbing, h]
  simp only [advanceCheck, hprobe]

/-- A check that waits does nothing of itself. -/
theorem advanceCheck_rests (h : CheckRests x s) : advanceCheck x s = s := by
  unfold advanceCheck
  simp only [advanceProbing_rests h]
  exact decideModules_rests _ h.2

theorem settle_eq (s : State) :
    settle s = frontPass (advanceCheck .b (frontPass (advanceCheck .a (frontPass s)))) := rfl

/-- Settling moves slots and entries. -/
theorem settle_moves (s : State) : Moves s (settle s) := by
  have hfront (r : State) : Moves r (frontPass r) := (frontPass_moves r).requests.moves
  rw [settle_eq]
  exact (((hfront _).trans (advanceCheck_moves _ _)).trans
    ((hfront _).trans (advanceCheck_moves _ _))).trans (hfront _)

/-- Settling leaves a LOST module as it is. -/
theorem madeLost_settle (h : MadeLost b s t) : MadeLost b s (settle t) := by
  have hfront {r : State} (hr : MadeLost b s r) : MadeLost b s (frontPass r) :=
    madeLost_requests hr (frontPass_moves r).requests
  rw [settle_eq]
  exact hfront (madeLost_advanceCheck (hfront (madeLost_advanceCheck (hfront h) _)) _)

/-- Where both checks wait, only the front checks are made. -/
theorem settle_of_rests (h : ∀ x, CheckRests x s) : FrontMoves s (settle s) := by
  have hfirst := frontPass_moves s
  have hsecond := hfirst.trans (frontPass_moves _)
  rw [settle_eq, advanceCheck_rests ((h .a).requests hfirst.requests),
    advanceCheck_rests ((h .b).requests hsecond.requests)]
  exact hsecond.trans (frontPass_moves _)

/-- Where the other check is IDLE, one check does what it can between front checks. -/
theorem settle_of_otherIdle (x : Port) (h : (s.checks.get x.other).state = .idle) :
    ∃ r, FrontMoves s r ∧ FrontMoves (advanceCheck x r) (settle s) := by
  have hidle {r t : State} (hr : (r.checks.get x.other).state = .idle) (hm : FrontMoves r t) :
      (t.checks.get x.other).state = .idle := by
    rw [hm.requests.touches.checks]
    exact hr
  have hfirst := frontPass_moves s
  cases x with
  | a =>
    have hnext := frontPass_moves (advanceCheck .a (frontPass s))
    have hb : ((advanceCheck .a (frontPass s)).checks.get Port.a.other).state = .idle := by
      rw [advanceCheck_other]
      exact hidle h hfirst
    refine ⟨frontPass s, hfirst, ?_⟩
    rw [settle_eq, advanceCheck_rests (checkRests_of_idle (x := .b) (hidle hb hnext))]
    exact hnext.trans (frontPass_moves _)
  | b =>
    have hnext := hfirst.trans (frontPass_moves (frontPass s))
    refine ⟨frontPass (frontPass s), hnext, ?_⟩
    rw [settle_eq, advanceCheck_rests (checkRests_of_idle (x := .a) (hidle h hfirst))]
    exact frontPass_moves _

end Sys2Proof.Proofs
end

section
/-! What the owner of an exchange makes of its failure, and what settles after it: an attempt, a resynchronising PROBE, a
CLAIM, a POLL, a FETCH (R38, R46, R72, R112, R118, R133, R145). -/

namespace Sys2Proof.Proofs

-- one theorem after the other: many proofs elaborated at once ask for a stack each
set_option Elab.async false

open Sys2Proof.Machine Sys2Proof.Safety

variable {s t u : State} {a b : Nat} {v : Tag} {p : Port}

/-- The outcomes by which an exchange fails: TIMEOUT, CRC_ERROR, SYMBOL_ERROR (R38). -/
def Fails (o : PortOutcome) : Prop := o = .timeout ∨ o = .crcError ∨ o = .symbolError

/-! ## The failure report (R46) -/

/-- An entry after a failure was reported: at FAULT_LIMIT an ACTIVE one becomes SUSPECT (R46). -/
def failedEntry (limit : Nat) (e : RosterEntry) : RosterEntry :=
  { e with
    failCount := oneMore e.failCount
    state := if e.state = .active ∧ limit ≤ oneMore e.failCount then .suspect else e.state }

/-- The failure of a module makes it SUSPECT, and starts the check of its route port (R46, R156). -/
def Signals (a : Nat) (p : Port) (s : State) : Prop :=
  ((s.entry a).state = .active ∧ s.params.faultLimit ≤ oneMore (s.entry a).failCount)
    ∧ (s.entry a).route = some p ∧ s.census.state = .idle ∧ (s.checks.get p).state = .idle

/-- A check just started by a failed module (R156). -/
def startedCheck (a : Nat) : Check := { Check.reset with state := .probing, trigger := a }

/-- A failure report changes roster and checks only. -/
theorem reportFailure_frame (a : Nat) (s : State) :
    reportFailure a s =
      { s with roster := (reportFailure a s).roster, checks := (reportFailure a s).checks } := by
  have hset (e : RosterEntry) :
      s.setEntry a e = { s with roster := (s.setEntry a e).roster, checks := (s.setEntry a e).checks } := by
    unfold State.setEntry
    split <;> rfl
  have hsignal (r : State) (q : Port) :
      signalCheck q a r = { r with checks := (signalCheck q a r).checks } := by
    unfold signalCheck
    split <;> rfl
  unfold reportFailure
  simp only
  split
  · split
    · split
      · split
        · exact hset _
        · rw [hsignal, hset]
      · exact hset _
    · exact hset _
  · rfl

theorem reportFailure_mirror (a : Nat) (s : State) : (reportFailure a s).mirror = s.mirror := by
  rw [reportFailure_frame]

/-- Without a check to start, a failure report replaces the module's entry. -/
theorem reportFailure_live (h : (s.entry a).live = true) :
    (∃ p, Signals a p s ∧ reportFailure a s =
        (s.setEntry a (failedEntry s.params.faultLimit (s.entry a))).setCheck p (startedCheck a))
      ∨ (∀ p, ¬Signals a p s) ∧ reportFailure a s =
        s.setEntry a (failedEntry s.params.faultLimit (s.entry a)) := by
  have hcount : satInc 15 (s.entry a).failCount = oneMore (s.entry a).failCount := rfl
  unfold reportFailure
  simp only [h, if_true, hcount]
  by_cases hsuspect : (s.entry a).state = .active ∧ s.params.faultLimit ≤ oneMore (s.entry a).failCount
  · have hentry : { s.entry a with
        failCount := oneMore (s.entry a).failCount, state := .suspect }
          = failedEntry s.params.faultLimit (s.entry a) := by
      simp [failedEntry, hsuspect]
    rw [if_pos (by simpa using hsuspect), hentry]
    cases hroute : (s.entry a).route with
    | none => exact .inr ⟨fun p hp => (nomatch hroute.symm.trans hp.2.1), rfl⟩
    | some p =>
      have hother {q : Port} (hq : Signals a q s) : q = p :=
        Option.some.inj (hq.2.1.symm.trans hroute)
      simp only
      by_cases hcensus : s.census.state = .idle
      · have hrun : (s.setEntry a (failedEntry s.params.faultLimit (s.entry a))).checkRunning p
            = s.checkRunning p := by simp [State.checkRunning]
        by_cases hidle : (s.checks.get p).state = .idle
        · refine .inl ⟨p, ⟨hsuspect, hroute, hcensus, hidle⟩, ?_⟩
          simp only [State.censusRunning, hcensus, signalCheck, hrun]
          simp [State.checkRunning, hidle, startedCheck]
        · refine .inr ⟨fun q hq => hidle (hother hq ▸ hq.2.2.2), ?_⟩
          simp only [State.censusRunning, hcensus, signalCheck, hrun]
          simp [State.checkRunning, hidle]
      · refine .inr ⟨fun q hq => hcensus hq.2.2.1, ?_⟩
        simp [State.censusRunning, hcensus]
  · have hentry : { s.entry a with failCount := oneMore (s.entry a).failCount }
          = failedEntry s.params.faultLimit (s.entry a) := by
      simp [failedEntry, hsuspect]
    rw [if_neg (by simpa using hsuspect), hentry]
    exact .inr ⟨fun p hp => hsuspect hp.1, rfl⟩

/-- A module neither ACTIVE nor SUSPECT has no failures counted (R46). -/
theorem reportFailure_not_live (h : (s.entry a).live = false) : reportFailure a s = s := by
  simp [reportFailure, h]

theorem reportFailure_entry (a b : Nat) (s : State) :
    (reportFailure a s).entry b
      = if b = a ∧ (s.entry a).live = true then failedEntry s.params.faultLimit (s.entry b)
        else s.entry b := by
  by_cases h : (s.entry a).live = true
  · have hroster : (reportFailure a s).roster
        = (s.setEntry a (failedEntry s.params.faultLimit (s.entry a))).roster := by
      rcases reportFailure_live h with ⟨p, -, heq⟩ | ⟨-, heq⟩ <;> rw [heq]
      rfl
    rw [State.entry_eq_of_roster hroster, State.entry_setEntry]
    by_cases hb : b = a
    · subst hb
      simp [h, address_of_live h]
    · simp [hb]
  · rw [reportFailure_not_live (by simpa using h), if_neg (fun hb => h hb.2)]

/-- A failure report leaves the checks, unless it starts one (R156). -/
theorem reportFailure_checks (a : Nat) (s : State) :
    (∃ p, Signals a p s ∧ (reportFailure a s).checks = s.checks.set p (startedCheck a))
      ∨ ((s.entry a).live = true → ∀ p, ¬Signals a p s) ∧ (reportFailure a s).checks = s.checks := by
  by_cases h : (s.entry a).live = true
  · rcases reportFailure_live h with ⟨p, hp, heq⟩ | ⟨hno, heq⟩
    · exact .inl ⟨p, hp, by rw [heq]; simp [State.setCheck]⟩
    · exact .inr ⟨fun _ => hno, by rw [heq]; simp⟩
  · exact .inr ⟨fun hlive => absurd hlive h, by rw [reportFailure_not_live (by simpa using h)]⟩

/-- A signal for a module whose route's check runs already is absorbed (R157). -/
theorem reportFailure_absorbed (hroute : (s.entry a).route = some p)
    (hrun : (s.checks.get p).state ≠ .idle) : (reportFailure a s).checks = s.checks := by
  rcases reportFailure_checks a s with ⟨q, ⟨-, hq, -, hidle⟩, -⟩ | ⟨-, heq⟩
  · obtain rfl := Option.some.inj (hroute.symm.trans hq)
    exact absurd hidle hrun
  · exact heq

theorem live_iff (e : RosterEntry) : e.live = true ↔ e.state = .active ∨ e.state = .suspect := by
  simp [RosterEntry.live]

theorem failedEntry_live (n : Nat) {e : RosterEntry} (h : e.live = true) :
    (failedEntry n e).live = true := by
  rw [live_iff] at h ⊢
  unfold failedEntry
  by_cases hs : e.state = .active ∧ n ≤ oneMore e.failCount
  · simp [hs]
  · simpa [hs] using h

/-- A failure report keeps who is ACTIVE or SUSPECT. -/
theorem reportFailure_keeps_live (a : Nat) (h : (s.entry b).live = true) :
    ((reportFailure a s).entry b).live = true := by
  rw [reportFailure_entry]
  split
  · exact failedEntry_live _ h
  · exact h

/-- A failure report changes state and fail_count of entries only. -/
theorem reportFailure_entry_eq (a b : Nat) (s : State) :
    (reportFailure a s).entry b = { s.entry b with
      state := ((reportFailure a s).entry b).state
      failCount := ((reportFailure a s).entry b).failCount } := by
  rw [reportFailure_entry]
  split <;> rfl

/-- A failure report makes no entry VACANT, and none present. -/
theorem reportFailure_vacant (a b : Nat) (s : State) :
    ((reportFailure a s).entry b).state = .vacant ↔ (s.entry b).state = .vacant := by
  rw [reportFailure_entry]
  split
  · next h =>
    have hlive := (live_iff _).1 h.2
    rw [← h.1] at hlive
    unfold failedEntry
    rcases hlive with hs | hs
    · by_cases hn : s.params.faultLimit ≤ oneMore (s.entry b).failCount <;> simp [hs, hn]
    · simp [hs]
  · rfl

/-- A failure report with both checks IDLE leaves checks that wait. -/
theorem reportFailure_rests (h : ∀ q, (s.checks.get q).state = .idle) (x : Port) :
    CheckRests x (reportFailure a s) := by
  rcases reportFailure_checks a s with ⟨p, -, heq⟩ | ⟨-, heq⟩
  · by_cases hx : x = p
    · subst hx
      unfold CheckRests
      rw [heq, Pair.get_set_same]
      exact ⟨fun _ hbegun => (nomatch hbegun), fun hstate => (nomatch hstate)⟩
    · exact checkRests_of_idle (by rw [heq, Pair.get_set_ne _ hx]; exact h x)
  · exact checkRests_of_idle (by rw [heq]; exact h x)

/-- The report counts the failure as R46 and R156 say. -/
theorem reportFailure_counted (a : Nat) (s : State) : FailureCounted a s (reportFailure a s) := by
  intro hlive
  have hentry : (reportFailure a s).entry a = failedEntry s.params.faultLimit (s.entry a) := by
    rw [reportFailure_entry, if_pos ⟨rfl, hlive⟩]
  rw [hentry]
  refine ⟨rfl, fun hidle => ⟨fun hactive hlimit => ⟨?_, fun q hroute => ?_⟩, fun hstays => ?_⟩⟩
  · simp [failedEntry, hactive, hlimit]
  · rcases reportFailure_checks a s with ⟨p, ⟨-, hp, hcensus, -⟩, heq⟩ | ⟨hno, heq⟩
    · obtain rfl := Option.some.inj (hroute.symm.trans hp)
      rw [heq, if_pos hcensus]
      rfl
    · rw [heq, if_neg]
      exact fun hcensus => hno hlive q ⟨⟨hactive, hlimit⟩, hroute, hcensus, hidle q⟩
  · have hnot : ¬((s.entry a).state = .active ∧ s.params.faultLimit ≤ oneMore (s.entry a).failCount) := by
      rintro ⟨hactive, hlimit⟩
      rcases hstays with hs | hs
      · rw [hactive] at hs
        nomatch hs
      · omega
    refine ⟨by simp only [failedEntry, if_neg hnot], ?_⟩
    rcases reportFailure_checks a s with ⟨p, ⟨hyes, -⟩, -⟩ | ⟨-, heq⟩
    · exact absurd hyes hnot
    · exact heq

/-- A counted failure stays so where the fail_count stands and, with the checks IDLE before, state and checks. -/
theorem failureCounted_after (h : FailureCounted a s t)
    (hfail : (u.entry a).failCount = (t.entry a).failCount)
    (hkeeps : (∀ q, (s.checks.get q).state = .idle) →
      (u.entry a).state = (t.entry a).state ∧ u.checks = t.checks) : FailureCounted a s u := by
  intro hlive
  obtain ⟨hcount, hquiet⟩ := h hlive
  refine ⟨hfail.trans hcount, fun hidle => ?_⟩
  obtain ⟨hstate, hchecks⟩ := hkeeps hidle
  rw [hstate, hchecks]
  exact hquiet hidle

/-- Ending and choosing slots keeps a counted failure. -/
theorem failureCounted_requests (h : FailureCounted a s t) (hm : RequestMoves t u) :
    FailureCounted a s u :=
  failureCounted_after h (hm.moves.entry a).1 fun _ => ⟨hm.state a, hm.touches.checks⟩

/-- Settling keeps a counted failure, where checks IDLE before the failure wait after it. -/
theorem failureCounted_settle (h : FailureCounted a s t)
    (hrests : (∀ q, (s.checks.get q).state = .idle) → ∀ x, CheckRests x t) :
    FailureCounted a s (settle t) :=
  failureCounted_after h ((settle_moves t).entry a).1 fun hidle =>
    have hm := (settle_of_rests (hrests hidle)).requests
    ⟨hm.state a, hm.touches.checks⟩

/-! ## A slot decided after a failure report -/

/-- The failure of the exchange with a module is reported, the slots and the follow-up WRITEs aside (R110 parts 1
and 2, R118). -/
def FailureReported (a : Nat) (s t : State) : Prop :=
  t = { reportFailure a s with slots := t.slots, followUps := t.followUps }

/-- The report with slots and follow-ups aside changes roster and checks. -/
theorem FailureReported.frame (h : FailureReported a s t) :
    t = { s with
      roster := (reportFailure a s).roster, checks := (reportFailure a s).checks
      slots := t.slots, followUps := t.followUps } := by
  have hframe := reportFailure_frame a s
  have h' : t = _ := h
  rw [hframe] at h'
  exact h'

theorem FailureReported.roster (h : FailureReported a s t) : t.roster = (reportFailure a s).roster := by
  rw [h.frame]

theorem FailureReported.checks (h : FailureReported a s t) : t.checks = (reportFailure a s).checks := by
  rw [h.frame]

theorem FailureReported.queue (h : FailureReported a s t) : t.completionQueue = s.completionQueue := by
  rw [h.frame]

theorem FailureReported.epoch (h : FailureReported a s t) : t.epoch = s.epoch := by
  rw [h.frame]

theorem FailureReported.census (h : FailureReported a s t) : t.census = s.census := by
  rw [h.frame]

theorem FailureReported.lockHeld (h : FailureReported a s t) : t.lockHeld = s.lockHeld := by
  rw [h.frame]

theorem FailureReported.params (h : FailureReported a s t) : t.params = s.params := by
  rw [h.frame]

theorem FailureReported.entry (h : FailureReported a s t) (b : Nat) :
    t.entry b = (reportFailure a s).entry b := State.entry_eq_of_roster h.roster b

theorem FailureReported.censusRunning (h : FailureReported a s t) :
    t.censusRunning = true ↔ s.census.state ≠ .idle := by
  simp [State.censusRunning, h.census]

theorem FailureReported.rests (h : FailureReported a s t)
    (hidle : ∀ q, (s.checks.get q).state = .idle) (x : Port) : CheckRests x t := by
  have hrests := reportFailure_rests (a := a) hidle x
  unfold CheckRests at hrests ⊢
  rw [h.checks]
  simp only [h.entry]
  exact hrests

/-- Whatever the slot decision, the failure of the module is counted (R46). -/
theorem FailureReported.counted (h : FailureReported a s t) (hm : RequestMoves t u) :
    FailureCounted a s (settle u) := by
  have hreported : FailureCounted a s t :=
    failureCounted_after (reportFailure_counted a s) (by rw [h.entry])
      fun _ => ⟨by rw [h.entry], h.checks⟩
  exact failureCounted_settle (failureCounted_requests hreported hm)
    fun hidle x => (h.rests hidle x).requests hm

/-- A slot that its exchange ends is the first the step completes, and stays as it ended. -/
theorem FailureReported.ends (h : FailureReported a s t) (hu : (t.slot v).unfinished = true)
    (st : Status) :
    Completes v
      (doneWith (t.slot v) st (effectByHistory (t.slot v).kindCode (t.slot v).history) false [] s.epoch)
      s (settle (completeActive v st false [] t)) := by
  have hends := completes_of_moves v (completeActive_completes v st false [] hu) rfl (settle_moves _)
  unfold Completes at hends ⊢
  rw [h.queue, h.epoch] at hends
  exact hends

/-- A slot that waits again with nothing else deciding it waits on through the front checks (R107, R112). -/
theorem FailureReported.waits (h : FailureReported a s t) (hfree : FreeToWait v a s)
    (htarget : (t.slot v).target = some a) (hcode : (t.slot v).kindCode = (s.slot v).kindCode)
    (hbcast : (s.slot v).kindCode ≠ 3) (b : Option Nat) (hu : (t.slot v).unfinished = true) :
    (settle (t.setSlot v { t.slot v with state := .waitingRetry, backoff := b })).slot v
      = { t.slot v with state := .waitingRetry, backoff := b } := by
  obtain ⟨-, hidle, hlive, hlock⟩ := hfree
  have hmoves : RequestMoves t (t.setSlot v { t.slot v with state := .waitingRetry, backoff := b }) :=
    setSlot_moves v (waitingRetry_moves hu b) rfl
  have hstate : (t.entry a).state = .active ∨ (t.entry a).state = .suspect := by
    rw [← live_iff, h.entry]
    exact reportFailure_keeps_live a hlive
  have hfront := settle_of_rests fun x => (h.rests hidle x).requests hmoves
  rw [hfront.passing v, State.slot_setSlot_same]
  refine ⟨?_, frontCheck_passes (a := a) ?_ ?_ (.inl ?_) ?_⟩
  · rw [State.slot_setSlot_same]
    exact not_isBcast_of_code (by rw [← hcode] at hbcast; exact hbcast)
  · rw [State.slot_setSlot_same]
    exact htarget
  · rw [hmoves.state]
    rcases hstate with hs | hs <;> simp [hs]
  · rw [hmoves.state]
    rcases hstate with hs | hs <;> simp [hs]
  · rw [State.slot_setSlot_same, State.setSlot_lockHeld, h.lockHeld]
    show s.lockHeld = false ∨ (t.slot v).kindCode = 1 ∨ (t.slot v).kindCode = 4
    rw [hcode]
    exact hlock

/-! ## Attempts (R112) -/

/-- The slot of an attempt that failed: its last frame drew no reply (R87). -/
def unanswered (x : Slot) : Slot := { x with history := .sentNoReply }

/-- A failed attempt is reported, recorded in the history, and its slot decided (R110, R112). -/
theorem attemptOutcome_fails {o : PortOutcome} (ho : Fails o) (f : Frame) {k : ReqKind}
    (hkind : (s.slot v).kind = some k) (htarget : (s.slot v).target = some a) :
    attemptOutcome v f o s
      = decideSlot v .failed ((reportFailure a s).setSlot v (unanswered (s.slot v))) := by
  have hslot : (reportFailure a s).slot v = s.slot v := by
    rw [reportFailure_frame]
    rfl
  unfold attemptOutcome
  simp only [hkind, htarget, Option.getD_some]
  rcases ho with rfl | rfl | rfl <;>
    simp only [reportAttempt, decisionOf, historyAfter, attemptsAfter, hslot] <;> rfl

/-- A slot whose exchange leaves it to another try ends ROSTER_CHANGED in a census (R65). -/
theorem waitOrFlush_census (b : Option Nat) (h : s.censusRunning = true) :
    waitOrFlush v b s = completeActive v .rosterChanged false [] s := if_pos h

/-- With no census running it is WAITING_RETRY (R112). -/
theorem waitOrFlush_waits (b : Option Nat) (h : ¬s.censusRunning = true) :
    waitOrFlush v b s = s.setSlot v { s.slot v with state := .waitingRetry, backoff := b } := if_neg h

theorem decideSlot_failed_cancelled (h : (s.slot v).cancelRequested = true) :
    decideSlot v .failed s = completeActive v .cancelled false [] s := if_pos h

theorem decideSlot_failed_usedUp (h : (s.slot v).cancelRequested = false)
    (hused : 1 + s.params.retryLimit ≤ (s.slot v).attempts) :
    decideSlot v .failed s = completeActive v .timeout false [] s :=
  (if_neg (by simp [h])).trans (if_neg (Nat.not_lt.2 hused))

theorem decideSlot_failed_again (h : (s.slot v).cancelRequested = false)
    (hleft : (s.slot v).attempts < 1 + s.params.retryLimit) :
    decideSlot v .failed s = waitOrFlush v none s := (if_neg (by simp [h])).trans (if_pos hleft)

theorem decideSlot_failed_moves (h : (s.slot v).unfinished = true) :
    RequestMoves s (decideSlot v .failed s) := by
  cases hcancel : (s.slot v).cancelRequested with
  | true =>
    rw [decideSlot_failed_cancelled hcancel]
    exact completeActive_moves _ _ _ _ _
  | false =>
    rcases Nat.lt_or_ge (s.slot v).attempts (1 + s.params.retryLimit) with hleft | hused
    · rw [decideSlot_failed_again hcancel hleft]
      exact waitOrFlush_moves v h none
    · rw [decideSlot_failed_usedUp hcancel hused]
      exact completeActive_moves _ _ _ _ _

theorem kind_of_targetedCode {x : Slot}
    (h : x.kindCode = 1 ∨ x.kindCode = 2 ∨ x.kindCode = 4 ∨ x.kindCode = 5) :
    (∃ k, x.kind = some k) ∧ x.kindCode ≠ 3 := by
  rcases h with h | h | h | h <;> exact ⟨⟨_, by unfold Slot.kind; rw [h]; rfl⟩, by rw [h]; decide⟩

theorem unfinished_of_active {x : Slot} (h : x.state = .active) : x.unfinished = true := by
  simp [Slot.unfinished, h]

/-- A failed attempt ends, or waits for another, as R99, R112 and R65 say. -/
theorem attempt_fails {o : PortOutcome} (ho : Fails o) (v : Tag) (f : Frame) (s : State) :
    AttemptFails v s (settle (attemptOutcome v f o s)) := by
  intro a htarget hactive hcode
  obtain ⟨⟨k, hkind⟩, hbcast⟩ := kind_of_targetedCode hcode
  rw [attemptOutcome_fails ho f hkind htarget]
  generalize hr : (reportFailure a s).setSlot v (unanswered (s.slot v)) = r
  have hslot : r.slot v = unanswered (s.slot v) := by
    rw [← hr, State.slot_setSlot_same]
  have hreported : FailureReported a s r := by
    rw [← hr]
    rfl
  have hu : (r.slot v).unfinished = true := by
    rw [hslot]
    exact unfinished_of_active hactive
  have hmoves := decideSlot_failed_moves hu
  have hends (st : Status) := hreported.ends hu st
  rw [hslot] at hends
  have hagain (hcancel : (s.slot v).cancelRequested = false)
      (hleft : (s.slot v).attempts < 1 + s.params.retryLimit) :
      decideSlot v .failed r = waitOrFlush v none r :=
    decideSlot_failed_again (by rw [hslot]; exact hcancel)
      (by rw [hslot, hreported.params]; exact hleft)
  refine ⟨fun hcancel => ?_, fun hcancel hused => ?_, fun hcancel hleft => ⟨fun hcensus => ?_,
    fun hfree => ?_⟩, fun hdone hwrite hpresent => ?_, hreported.counted hmoves⟩
  · rw [decideSlot_failed_cancelled (by rw [hslot]; exact hcancel)]
    exact hends .cancelled
  · rw [decideSlot_failed_usedUp (by rw [hslot]; exact hcancel)
      (by rw [hslot, hreported.params]; exact hused)]
    exact hends .timeout
  · rw [hagain hcancel hleft, waitOrFlush_census none (hreported.censusRunning.2 hcensus)]
    exact hends .rosterChanged
  · rw [hagain hcancel hleft, waitOrFlush_waits none (fun hc => hreported.censusRunning.1 hc hfree.1),
      hreported.waits hfree (by rw [hslot]; exact htarget) (by rw [hslot]; rfl) hbcast none hu, hslot]
    rfl
  · refine (hmoves.moves.trans (settle_moves _)).unsure v a ⟨hu, ?_, ?_, ?_⟩ ?_ hdone
    · rw [hslot]; exact hwrite
    · rw [hslot]; exact htarget
    · rw [hslot]; rfl
    · rw [hreported.entry, Ne, reportFailure_vacant]
      exact hpresent

/-! ## The resynchronising PROBE (R118) -/

/-- What a failed resynchronising PROBE makes of its slot: cancelled, or set to wait (R99, R118). -/
def afterFailedResync (v : Tag) (r : State) : State :=
  if (r.slot v).cancelRequested then completeActive v .cancelled false [] r else waitOrFlush v none r

theorem afterFailedResync_cancelled (h : (s.slot v).cancelRequested = true) :
    afterFailedResync v s = completeActive v .cancelled false [] s := if_pos h

theorem afterFailedResync_again (h : (s.slot v).cancelRequested = false) :
    afterFailedResync v s = waitOrFlush v none s := if_neg (by simp [h])

theorem afterFailedResync_touches (v : Tag) (s : State) :
    TouchesRequests s (afterFailedResync v s) := by
  unfold afterFailedResync
  split
  · exact completeActive_touches _ _ _ _ _
  · exact waitOrFlush_touches _ _ _

theorem afterFailedResync_moves (h : (s.slot v).unfinished = true) :
    RequestMoves s (afterFailedResync v s) := by
  unfold afterFailedResync
  split
  · exact completeActive_moves _ _ _ _ _
  · exact waitOrFlush_moves v h none

/-- A failed resynchronising PROBE is reported, its follow-up WRITE dropped, and its slot decided (R118). -/
theorem resyncOutcome_fails {o : PortOutcome} (ho : Fails o) (p : Port) (v : Tag) (s : State) :
    resyncOutcome p v o s
      = afterFailedResync v (clearFollowUp p (reportFailure ((s.slot v).target.getD 0) s)) := by
  rcases ho with rfl | rfl | rfl <;> rfl

/-- A failed resynchronising PROBE leaves its slot as R118 says. -/
theorem resync_fails {o : PortOutcome} (ho : Fails o) (p : Port) (v : Tag) (s : State) :
    ResyncFails p v s (settle (resyncOutcome p v o s)) := by
  intro a htarget hactive hwrite
  have htarget' : (s.slot v).target.getD 0 = a := by rw [htarget, Option.getD_some]
  rw [resyncOutcome_fails ho, htarget']
  generalize hr : clearFollowUp p (reportFailure a s) = r
  have hslot : r.slot v = s.slot v := by
    rw [← hr, reportFailure_frame]
    rfl
  have hreported : FailureReported a s r := by
    rw [← hr]
    rfl
  have hfollow : r.followUps = s.followUps.set p none := by
    rw [← hr, reportFailure_frame]
    rfl
  have hu : (r.slot v).unfinished = true := by
    rw [hslot]
    exact unfinished_of_active hactive
  have hmoves := afterFailedResync_moves hu
  have hends (st : Status) := hreported.ends hu st
  rw [hslot] at hends
  have hagain (hcancel : (s.slot v).cancelRequested = false) :
      afterFailedResync v r = waitOrFlush v none r :=
    afterFailedResync_again (by rw [hslot]; exact hcancel)
  refine ⟨?_, fun hcancel => ?_, fun hcancel => ⟨fun hcensus => ?_, fun hfree => ?_⟩,
    hreported.counted hmoves⟩
  · rw [(settle_touches _).followUps, hmoves.touches.followUps, hfollow]
  · rw [afterFailedResync_cancelled (by rw [hslot]; exact hcancel)]
    exact hends .cancelled
  · rw [hagain hcancel, waitOrFlush_census none (hreported.censusRunning.2 hcensus)]
    exact hends .rosterChanged
  · rw [hagain hcancel, waitOrFlush_waits none (fun hc => hreported.censusRunning.1 hc hfree.1),
      hreported.waits hfree (by rw [hslot]; exact htarget) (by rw [hslot])
        (by rw [hwrite]; decide) none hu, hslot]

/-! ## The sweep's frames (R133, R145) -/

/-- A miss counted for a module ACTIVE or SUSPECT is the one of R133. -/
theorem countMiss_missed (h : (s.entry a).live = true) : Missed a s (countMiss a s) := by
  have ha := address_of_live h
  have hcount : satInc 15 (s.status a).missCount = oneMore (s.status a).missCount := rfl
  unfold Missed countMiss
  simp only [h, if_true, hcount]
  refine ⟨fun hstale hlimit => ?_, fun hstays => ?_⟩
  · rw [if_pos (by simp [hstale, hlimit])]
    refine ⟨(State.status_setStatus_same s ha _).trans ?_, ?_⟩
    · rfl
    · simp [State.raiseModuleStale]
  · have hnot : ¬((s.status a).state ≠ .stale ∧ s.params.staleLimit ≤ oneMore (s.status a).missCount) := by
      rintro ⟨hs, hl⟩
      rcases hstays with h' | h'
      · exact hs h'
      · omega
    rw [if_neg (by simpa using hnot)]
    exact ⟨State.status_setStatus_same s ha _, State.setStatus_sticky _ _ _⟩

theorem countMiss_missCount (h : (s.entry a).live = true) :
    ((countMiss a s).status a).missCount = oneMore (s.status a).missCount := by
  obtain ⟨hlimit, hbelow⟩ := countMiss_missed h
  by_cases hstale : (s.status a).state = .stale
  · rw [(hbelow (.inl hstale)).1]
  · rcases Nat.lt_or_ge (oneMore (s.status a).missCount) s.params.staleLimit with hlt | hge
    · rw [(hbelow (.inr hlt)).1]
    · rw [(hlimit hstale hge).1]

/-- A miss changes mirror and causes only. -/
theorem countMiss_frame (a : Nat) (s : State) :
    countMiss a s = { s with mirror := (countMiss a s).mirror, sticky := (countMiss a s).sticky } := by
  have hset (m : MirrorEntry) : s.setStatus a m = { s with mirror := (s.setStatus a m).mirror } := by
    unfold State.setStatus
    split <;> rfl
  unfold countMiss
  simp only
  split
  · split
    · rw [hset]
      rfl
    · rw [hset]
  · rfl

/-- A failed POLL counts a failure and a miss (R46, R133). -/
theorem poll_fails {o : PortOutcome} (ho : Fails o) (a : Nat) (s : State) :
    PollFails a s (settle (pollOutcome a o s)) := by
  have houtcome : pollOutcome a o s = countMiss a (reportFailure a s) := by
    rcases ho with rfl | rfl | rfl <;> rfl
  rw [houtcome]
  have hstatus : (reportFailure a s).status a = s.status a :=
    State.status_eq_of_mirror (reportFailure_mirror a s) a
  have hcounted : FailureCounted a s (countMiss a (reportFailure a s)) := by
    rw [countMiss_frame]
    exact reportFailure_counted a s
  have hrests (hidle : ∀ q, (s.checks.get q).state = .idle) (x : Port) :
      CheckRests x (countMiss a (reportFailure a s)) := by
    rw [countMiss_frame]
    exact reportFailure_rests hidle x
  refine ⟨failureCounted_settle hcounted hrests, fun hlive => ?_⟩
  have hlive' := reportFailure_keeps_live a hlive
  refine ⟨?_, fun hidle => ?_⟩
  · rw [(settle_moves _).misses, countMiss_missCount hlive', hstatus]
  · have htouches := (settle_of_rests (hrests hidle)).requests.touches
    have hmissed := countMiss_missed hlive'
    unfold Missed at hmissed ⊢
    rw [State.status_eq_of_mirror htouches.mirror, htouches.sticky]
    rw [hstatus] at hmissed
    have hframe := reportFailure_frame a s
    have hsticky : (reportFailure a s).sticky = s.sticky := by rw [hframe]
    have hparams : (reportFailure a s).params = s.params := by rw [hframe]
    rw [hsticky, hparams] at hmissed
    exact hmissed

/-- A failed FETCH counts a failure and releases its port's reservation (R46, R145). -/
theorem fetch_fails {o : PortOutcome} (ho : Fails o) (p : Port) (a : Nat) (s : State) :
    FetchFails p a s (settle (fetchOutcome p a o s)) := by
  have houtcome : fetchOutcome p a o s = release p (reportFailure a s) := by
    rcases ho with rfl | rfl | rfl <;> rfl
  rw [houtcome]
  have hrests (hidle : ∀ q, (s.checks.get q).state = .idle) (x : Port) :
      CheckRests x (release p (reportFailure a s)) := reportFailure_rests hidle x
  refine ⟨failureCounted_settle (reportFailure_counted a s) hrests, ?_, ?_, fun hidle => ?_⟩
  · rw [(settle_touches _).reservations, reportFailure_frame]
    rfl
  · rw [(settle_touches _).notices, reportFailure_frame]
    rfl
  · rw [(settle_of_rests (hrests hidle)).requests.touches.mirror]
    exact reportFailure_mirror a s

end Sys2Proof.Proofs
end

section
/-! What a failed CLAIM does, with the end of both walks and the finish of the census (R72, R74, R75, R77, R78). -/

namespace Sys2Proof.Proofs

-- one theorem after the other: many proofs elaborated at once ask for a stack each
set_option Elab.async false

open Sys2Proof.Machine Sys2Proof.Safety

variable {s t u : State}

/-! ## The fingerprint (R57) -/

/-- The fingerprint covers states and identities of the entries only. -/
theorem computeFingerprint_congr (hstate : ∀ a, (t.entry a).state = (s.entry a).state)
    (hidentity : ∀ a, (t.entry a).identity = (s.entry a).identity) :
    t.computeFingerprint = s.computeFingerprint := by
  have hinput : t.fingerprintInput = s.fingerprintInput := by
    simp only [State.fingerprintInput, hstate, hidentity]
  simp only [State.computeFingerprint, hinput]

/-! ## The finish (R77) -/

/-- The fingerprint differs from the expected one, where one is expected (R54, R58). -/
def mismatch (s : State) : Bool :=
  s.params.expectEnable && decide (s.fingerprint ≠ s.params.expectedFp)

/-- The lock is HELD after a mismatch, which raises LOCK_HELD, and OPEN otherwise (R77 step 3). -/
theorem decideLock_eq (s : State) :
    decideLock s =
      { s with
        lockHeld := mismatch s
        sticky := { s.sticky with lockHeld := s.sticky.lockHeld || mismatch s } } := by
  unfold decideLock
  by_cases hexpect : s.params.expectEnable = true
  · by_cases hmatch : s.fingerprint = s.params.expectedFp
    · simp [mismatch, hexpect, hmatch]
    · simp [mismatch, hexpect, hmatch, State.raiseLockHeld]
  · simp [mismatch, hexpect]

theorem finishCensus_eq (s : State) :
    finishCensus s =
      endCensus (if s.exceeded then .exceeded else .ok) .none
        (decideLock { s with rosterState := .valid, fingerprint := s.computeFingerprint }) := rfl

/-- A census that found no more than 62 modules finishes OK (R77). -/
theorem finishCensus_finishes (h : s.exceeded = false) : Finishes .ok s (finishCensus s) := by
  rw [finishCensus_eq, decideLock_eq, h]
  refine ⟨rfl, rfl, ?_, rfl, rfl⟩
  exact computeFingerprint_congr (fun _ => rfl) (fun _ => rfl)

/-- Only what the end of a walk writes differs: the census, and with a finish roster state, fingerprint, lock and
causes (R74, R75, R77). -/
def TouchesWalkEnd (s t : State) : Prop :=
  t = { s with
    census := t.census, rosterState := t.rosterState, fingerprint := t.fingerprint
    lockHeld := t.lockHeld, sticky := t.sticky }

theorem TouchesWalkEnd.checks (h : TouchesWalkEnd s t) : t.checks = s.checks := by
  have e : t = _ := h
  rw [e]

theorem TouchesWalkEnd.ringState (h : TouchesWalkEnd s t) : t.ringState = s.ringState := by
  have e : t = _ := h
  rw [e]

theorem TouchesWalkEnd.ports (h : TouchesWalkEnd s t) : t.ports = s.ports := by
  have e : t = _ := h
  rw [e]

theorem finishCensus_touchesWalkEnd (s : State) : TouchesWalkEnd s (finishCensus s) := by
  rw [finishCensus_eq, decideLock_eq]
  rfl

/-- The front checks after a finish leave it as it is. -/
theorem finishes_requests {r : CensusResult} (h : Finishes r s t) (hm : RequestMoves t u) :
    Finishes r s u := by
  have hfingerprint : u.computeFingerprint = t.computeFingerprint :=
    computeFingerprint_congr hm.state (fun a => by rw [hm.entry a])
  unfold Finishes at h ⊢
  rw [hm.touches.census, hm.touches.rosterState, hm.touches.fingerprint, hm.touches.lockHeld,
    hm.touches.sticky, hfingerprint]
  exact h

/-! ## A failed CLAIM (R72, R74, R75) -/

/-- Walk A goes on to walk B, finishes, or waits for its stop (R74, R78). -/
theorem endWalkA_touchesWalkEnd (s : State) : TouchesWalkEnd s (endWalkA s) := by
  unfold endWalkA
  split
  · split
    · rfl
    · exact finishCensus_touchesWalkEnd s
  · rfl

/-- Walk B leaves the ring OPEN and finishes, or waits for its stop (R75, R78). -/
theorem endWalkB_touchesWalkEnd (s : State) :
    TouchesWalkEnd { s with ringState := .opened } (endWalkB s) := by
  unfold endWalkB
  simp only
  split
  · exact finishCensus_touchesWalkEnd _
  · rfl

theorem claimOutcomeA_fails {o : PortOutcome} (ho : Fails o) (s : State) :
    claimOutcomeA o s = if s.census.tries = 2 then endWalkA s else s := by
  rcases ho with rfl | rfl | rfl <;> rfl

theorem claimOutcomeB_fails {o : PortOutcome} (ho : Fails o) (s : State) :
    claimOutcomeB o s = if s.census.tries = 2 then endWalkB s else s := by
  rcases ho with rfl | rfl | rfl <;> rfl

/-- With both checks IDLE before and untouched, only the front checks follow. -/
theorem settle_requests_of_idle (hidle : ∀ q, (s.checks.get q).state = .idle)
    (hchecks : t.checks = s.checks) : RequestMoves t (settle t) :=
  (settle_of_rests fun x => checkRests_of_idle (by rw [hchecks]; exact hidle x)).requests

/-- A failed CLAIM leaves the walk to a second try, ends it, or finishes the census (R72, R74, R75). -/
theorem claim_fails {o : PortOutcome} (ho : Fails o) (p : Port) (s : State) :
    ClaimFails s (settle (censusOutcome p o s)) := by
  intro hidle hwalk
  have hquiet {t : State} (h : t.checks = s.checks) := settle_requests_of_idle hidle h
  have hfirst : s.census.tries ≠ 2 → censusOutcome p o s = s := by
    intro htries
    rcases hwalk with h | h
    · simp [censusOutcome, h, claimOutcomeA_fails ho, htries]
    · simp [censusOutcome, h, claimOutcomeB_fails ho, htries]
  refine ⟨fun htries => ?_, fun htries hA => ?_, fun htries hB => ?_⟩
  · rw [hfirst htries]
    exact ⟨(hquiet rfl).touches.census, (hquiet rfl).touches.ringState⟩
  · have hend : censusOutcome p o s = endWalkA s := by
      simp [censusOutcome, hA, claimOutcomeA_fails ho, htries]
    have hm := hquiet (endWalkA_touchesWalkEnd s).checks
    rw [hend]
    refine ⟨hm.touches.ringState.trans (endWalkA_touchesWalkEnd s).ringState, fun hstop => ?_,
      fun hstop hb => ?_, fun hstop hb hexceeded => ?_⟩
    · rw [hm.touches.census, endWalkA, if_neg hstop]
    · rw [hm.touches.census, endWalkA, if_pos hstop, if_pos hb]
      rfl
    · have hfinish : endWalkA s = finishCensus s := by simp [endWalkA, hstop, hb]
      rw [hfinish] at hm ⊢
      exact finishes_requests (finishCensus_finishes hexceeded) hm
  · have hend : censusOutcome p o s = endWalkB s := by
      simp [censusOutcome, hB, claimOutcomeB_fails ho, htries]
    have hm := hquiet (endWalkB_touchesWalkEnd s).checks
    rw [hend]
    refine ⟨hm.touches.ringState.trans (endWalkB_touchesWalkEnd s).ringState, fun hstop => ?_,
      fun hstop hexceeded => ?_⟩
    · have hstopping : endWalkB s = { s with ringState := .opened } := if_neg hstop
      rw [hm.touches.census, hstopping]
    · have hfinish : endWalkB s = finishCensus { s with ringState := .opened } := if_pos hstop
      have hopened : Finishes .ok s (finishCensus { s with ringState := .opened }) :=
        finishCensus_finishes (s := { s with ringState := .opened }) hexceeded
      rw [hfinish] at hm ⊢
      exact finishes_requests hopened hm

/-- A failed exchange of the census sends nothing. -/
theorem censusOutcome_fails_ports {o : PortOutcome} (ho : Fails o) (p : Port) (s : State) :
    (censusOutcome p o s).ports = s.ports := by
  unfold censusOutcome
  split
  · rcases ho with rfl | rfl | rfl <;> rfl
  · rw [claimOutcomeA_fails ho]
    split
    · exact (endWalkA_touchesWalkEnd s).ports
    · rfl
  · rw [claimOutcomeB_fails ho]
    split
    · exact (endWalkB_touchesWalkEnd s).ports
    · rfl
  · rfl

end Sys2Proof.Proofs
end

section
/-! What a failed PROBE of a reach check does: a second try, the break found with the modules beyond it, or the module
LOST; and how REROUTING goes on from there (R160 to R163, R166). -/

namespace Sys2Proof.Proofs

-- one theorem after the other: many proofs elaborated at once ask for a stack each
set_option Elab.async false

open Sys2Proof.Machine Sys2Proof.Safety

variable {s t u r : State} {x : Port} {a b : Nat} {c : Check}

/-! ## A check about to decide -/

/-- The state `t` is `s` with the check of a port about to decide cut-off modules: only what settling may touch
differs, slots and ring state stand, no entry has become VACANT or present, hop counts stand, and of the checks only
the port's differs. -/
structure CheckDecides (x : Port) (c : Check) (s t : State) : Prop where
  touches : TouchesSettling s t
  slots : t.slots = s.slots
  ringState : t.ringState = s.ringState
  vacant : ∀ a, (t.entry a).state = .vacant ↔ (s.entry a).state = .vacant
  hops : ∀ a, (t.entry a).hops = (s.entry a).hops
  checks : t.checks = s.checks.set x c
  rerouting : c.state = .rerouting
  deciding : c.deciding = none

theorem CheckDecides.check (h : CheckDecides x c s t) : t.checks.get x = c := by
  rw [h.checks, Pair.get_set_same]

theorem CheckDecides.other (h : CheckDecides x c s t) :
    t.checks.get x.other = s.checks.get x.other := by
  rw [h.checks, Pair.get_set_other]

theorem checksIdle_eq_false (h : (s.checks.get x).state ≠ .idle) : s.checksIdle = false := by
  cases x <;> simp [State.checksIdle, State.checkRunning, h]

theorem waiting_iff (y : Slot) : y.waiting = true ↔ y.state = .queued ∨ y.state = .waitingRetry := by
  simp [Slot.waiting]

/-- The front checks made while the check still runs leave a slot that is left to it (R107). -/
theorem CheckDecides.slot (h : CheckDecides x c s t) (hm : FrontMoves t r) {v : Tag}
    (hleft : LeftToCheck v b s) : r.slot v = s.slot v := by
  obtain ⟨-, htarget, hcode, hpresent, hlock⟩ := hleft
  have hslot : t.slot v = s.slot v := State.slot_eq_of_slots h.slots v
  rw [hm.passing v, hslot]
  unfold PassesFront
  rw [hslot]
  refine ⟨not_isBcast_of_code hcode, frontCheck_passes htarget ?_ (.inr ?_) ?_⟩
  · rw [Ne, h.vacant]
    exact hpresent
  · refine checksIdle_eq_false (x := x) ?_
    rw [h.check, h.rerouting]
    nofun
  · rw [h.touches.lockHeld]
    exact hlock

/-! ## How REROUTING goes on (R162, R166) -/

/-- The check ends as R166 says, where it stood as `d` just before, the slots left to it waiting as at first. -/
theorem endsAs_endCheck {d : Check} (hchecks : r.checks = s.checks.set x d)
    (hended : endedCheck d = endedCheck c) (hcutOff : d.cutOff = c.cutOff)
    (hring : r.ringState = s.ringState) (hepoch : r.epoch = s.epoch)
    (hslots : ∀ v b, LeftToCheck v b s → r.slot v = s.slot v)
    (hm : FrontMoves (endCheck x r) t) : EndsAs x c s t := by
  have htouches := hm.requests.touches
  have hcheck : r.checks.get x = d := by rw [hchecks, Pair.get_set_same]
  have heq := endCheck_eq x r
  rw [hcheck, hcutOff, hring, hchecks, Pair.set_set, hended] at heq
  refine ⟨?_, ?_, ?_, fun v b hleft hlost => ?_⟩
  · rw [htouches.checks, heq]
  · rw [htouches.sticky, heq]
  · rw [htouches.ringState, heq]
  · have hslot := hslots v b hleft
    obtain ⟨hwaits, htarget, -⟩ := hleft
    have hdone := endCheck_slot (x := x) (s := r) (v := v) (b := b)
      (by rw [hslot]; exact (waiting_iff _).2 hwaits) (by rw [hslot]; exact htarget)
      (by rw [hcheck, hcutOff]; exact hlost)
    rw [hslot, hepoch] at hdone
    rw [(hm.requests.moves.slot v).eq_of_finished (by rw [hdone]; rfl), hdone]

/-- From a check about to decide, settling goes on as R162 says: it ends the check, or takes the lowest PENDING module
that can be probed on the other port. -/
theorem goesOn_settle (h : CheckDecides x c s t) (hother : (s.checks.get x.other).state = .idle) :
    GoesOn x c s (settle t) := by
  obtain ⟨r, hbefore, hafter⟩ := settle_of_otherIdle (s := t) x (by rw [h.other]; exact hother)
  have htouches := hbefore.requests.touches
  have hcheck : r.checks.get x = c := by rw [htouches.checks, h.check]
  have hstate : (r.checks.get x).state = .rerouting := by rw [hcheck]; exact h.rerouting
  have hdeciding : (r.checks.get x).deciding = none := by rw [hcheck]; exact h.deciding
  rw [advanceCheck_rerouting hstate] at hafter
  refine ⟨fun hdecided => ?_, fun b hb hmin hup hhops => ?_⟩
  · have hpending : pendingAddrs (r.checks.get x).cutOff = [] := by
      refine List.eq_nil_iff_forall_not_mem.2 fun b hb => ?_
      rw [hcheck] at hb
      exact hdecided _ (mem_pendingAddrs.1 hb) rfl
    rw [decideModules_ends _ hstate hdeciding hpending] at hafter
    exact endsAs_endCheck (by rw [htouches.checks, h.checks]) rfl rfl
      (htouches.ringState.trans h.ringState) (htouches.epoch.trans h.touches.epoch)
      (fun v b hleft => h.slot hbefore hleft) hafter
  · have hlowest : lowest (pendingAddrs (r.checks.get x).cutOff) = some b := by
      rw [hcheck]
      exact lowest_of_le (mem_pendingAddrs.2 hb) fun m hm => hmin _ (mem_pendingAddrs.1 hm) rfl
    have hotherIdle : (r.checks.get x.other).state = .idle := by
      rw [htouches.checks, h.other]
      exact hother
    have hisUp : r.isUp x.other = true := by
      simp only [State.isUp, State.port, htouches.ports, h.touches.ports]
      simpa [State.port] using hup
    have hprobe : r.losesWithoutProbe x b = false := by
      have hhops' : (((r.entry b).hops.get x.other).isNone) = false := by
        rw [hbefore.requests.hops, h.hops]
        simpa using hhops
      simp [State.losesWithoutProbe, State.checkRunning, hotherIdle, hisUp, hhops']
    rw [decideModules_takes _ hstate hdeciding hlowest hprobe] at hafter
    rw [hafter.requests.touches.checks]
    show r.checks.set x _ = _
    rw [hcheck, htouches.checks, h.checks, Pair.set_set]

/-- From a check that has just cut off modules, settling with the other port not UP makes all of them LOST and ends the
check in the same step (R162, R163, R166, log 30). -/
theorem losesAll_settle {l : List Nat} (h : CheckDecides x c s t)
    (hother : (s.checks.get x.other).state = .idle) (hdown : (s.port x.other).link ≠ .up)
    (hcutOff : c.cutOff = pendingMarks l) (hsorted : l.Pairwise (· < ·))
    (hlive : ∀ b ∈ l, (t.entry b).live = true)
    (hentry : ∀ b, t.entry b = { s.entry b with
      state := (t.entry b).state, failCount := (t.entry b).failCount
      toggle := (t.entry b).toggle })
    (hmirror : t.mirror = s.mirror) :
    (∀ b ∈ l, MadeLost b s (settle t))
      ∧ EndsAs x { c with
          cutOff := l.map fun b => { addr := b, mark := .lost }, lost := c.lost + l.length } s
          (settle t) := by
  obtain ⟨r, hbefore, hafter⟩ := settle_of_otherIdle (s := t) x (by rw [h.other]; exact hother)
  have htouches := hbefore.requests.touches
  have hcheck : r.checks.get x = c := by rw [htouches.checks, h.check]
  have hpending : pendingAddrs (r.checks.get x).cutOff = l := by
    rw [hcheck, hcutOff, pendingAddrs_pendingMarks]
  have hisUp : r.isUp x.other = false := by
    simp only [State.isUp, State.port, htouches.ports, h.touches.ports]
    simpa [State.port] using hdown
  have hlength : l.length < (r.checks.get x).cutOff.length + 1 := by
    rw [hcheck, hcutOff, pendingMarks, List.length_map]
    exact Nat.lt_succ_self _
  have hstate : (r.checks.get x).state = .rerouting := by rw [hcheck]; exact h.rerouting
  rw [advanceCheck_rerouting hstate, decideModules_loses hlength hstate
    (by rw [hcheck]; exact h.deciding) hisUp hpending hsorted] at hafter
  have hall := loseAll_touches x l r
  constructor
  · intro b hb
    have hlost := loseAll_madeLost x (s := r) (hsorted.imp Nat.ne_of_lt)
      (fun d hd => by
        have hd := hlive d hd
        rw [live_iff] at hd ⊢
        rw [hbefore.requests.state]
        exact hd) b hb
    refine madeLost_before (t := r) ?_ ?_ ?_
    · exact madeLost_requests (madeLost_endCheck hlost x) hafter.requests
    · rw [hbefore.requests.entry b, hentry b]
    · rw [State.status_eq_of_mirror htouches.mirror, State.status_eq_of_mirror hmirror]
  · refine endsAs_endCheck (d := { c with
        cutOff := l.map fun b => { addr := b, mark := .lost }, lost := c.lost + l.length })
      ?_ rfl rfl ?_ ?_ (fun v b hleft => ?_) hafter
    · rw [loseAll_checks, hcheck, foldl_checkLoses, hcutOff, foldl_setMark_pending, htouches.checks,
        h.checks, Pair.set_set]
    · rw [loseAll_ringState, htouches.ringState, h.ringState]
    · rw [hall.epoch, htouches.epoch, h.touches.epoch]
    · rw [State.slot_eq_of_slots (loseAll_slots x l r)]
      exact h.slot hbefore hleft

/-! ## Probes of PROBING (R160, R161) -/

/-- The modules at a hop and beyond on a port, ascending (R161). -/
def beyondList (x : Port) (k : Nat) (s : State) : List Nat :=
  (s.routedLive x).filter fun b => decide (k ≤ (s.entry b).hopsOn x)

theorem mem_beyondList (x : Port) (k b : Nat) (s : State) :
    b ∈ beyondList x k s ↔ beyond x k b s := by
  simp only [beyondList, State.routedLive, List.mem_filter, mem_addresses, Bool.and_eq_true,
    beq_iff_eq, decide_eq_true_eq, beyond]
  constructor
  · rintro ⟨⟨-, hlive, hroute⟩, hk⟩
    exact ⟨hlive, hroute, hk⟩
  · rintro ⟨hlive, hroute, hk⟩
    exact ⟨⟨address_of_live hlive, hlive, hroute⟩, hk⟩

theorem beyondList_sorted (x : Port) (k : Nat) (s : State) :
    (beyondList x k s).Pairwise (· < ·) :=
  ((List.pairwise_lt_range' (s := 1) (n := 62)).filter _).filter _

/-- A failure report leaves who is beyond a hop. -/
theorem beyondList_reportFailure (x : Port) (k a : Nat) (s : State) :
    beyondList x k (reportFailure a s) = beyondList x k s := by
  have hlive (b : Nat) : ((reportFailure a s).entry b).live = (s.entry b).live := by
    rw [Bool.eq_iff_iff]
    refine ⟨fun h => ?_, reportFailure_keeps_live a⟩
    rw [reportFailure_entry] at h
    split at h
    · next hb => rw [hb.1]; exact hb.2
    · exact h
  have hroute (b : Nat) : ((reportFailure a s).entry b).route = (s.entry b).route := by
    rw [reportFailure_entry_eq]
  have hhops (b : Nat) : ((reportFailure a s).entry b).hopsOn x = (s.entry b).hopsOn x := by
    rw [reportFailure_entry_eq]
    rfl
  simp only [beyondList, State.routedLive, hlive, hroute, hhops]

/-- The check once it has found the break before a module (R161). -/
def breakCheck (x : Port) (a : Nat) (c : Check) (s : State) : Check :=
  { c with
    breakLocation := (s.entry a).hopsOn x - 1
    cutOff := pendingMarks (beyondList x ((s.entry a).hopsOn x) s)
    result := .brk, state := .rerouting, tries := 0, deciding := none }

/-- Once a failure has been reported, a check that goes to REROUTING is about to decide. -/
theorem reportFailure_decides (a : Nat) (s : State) (d : Check)
    (hchecks : (reportFailure a s).checks = s.checks) :
    CheckDecides x { d with state := .rerouting, deciding := none } s
      ((reportFailure a s).setCheck x { d with state := .rerouting, deciding := none }) where
  touches := (reportFailure_touches a s).trans (setCheck_touches _ _ _)
  slots := by rw [State.setCheck, reportFailure_frame]
  ringState := by rw [State.setCheck, reportFailure_frame]
  vacant b := reportFailure_vacant a b s
  hops b := by
    show ((reportFailure a s).entry b).hops = _
    rw [reportFailure_entry_eq]
  checks := by
    show (reportFailure a s).checks.set x _ = _
    rw [hchecks]
  rerouting := rfl
  deciding := rfl

/-- The second failed probe at a module finds the break before it (R161, log 30). -/
theorem breakFound_settle (hother : (s.checks.get x.other).state = .idle)
    (hlive : (s.entry a).live = true) (hroute : (s.entry a).route = some x)
    (hchecks : (reportFailure a s).checks = s.checks) :
    BreakIsFound x a s (settle (breakFound x a (reportFailure a s))) := by
  have hhops : ((reportFailure a s).entry a).hopsOn x = (s.entry a).hopsOn x := by
    rw [reportFailure_entry_eq]
    rfl
  have hfound : breakFound x a (reportFailure a s)
      = (reportFailure a s).setCheck x (breakCheck x a (s.checks.get x) s) := by
    show (reportFailure a s).setCheck x (breakCheck x a ((reportFailure a s).checks.get x)
      (reportFailure a s)) = _
    unfold breakCheck
    rw [hhops, beyondList_reportFailure, hchecks]
  have hdecides : CheckDecides x (breakCheck x a (s.checks.get x) s) s
      (breakFound x a (reportFailure a s)) := by
    rw [hfound]
    exact reportFailure_decides a s (breakCheck x a (s.checks.get x) s) hchecks
  have hmem (b : Nat) := mem_beyondList x ((s.entry a).hopsOn x) b s
  have hsorted := beyondList_sorted x ((s.entry a).hopsOn x) s
  refine ⟨beyondList x ((s.entry a).hopsOn x) s, hsorted.imp Nat.ne_of_lt, hmem,
    fun hup hreach => ?_, fun hdown => ?_⟩
  · obtain ⟨m, hm, -, hmin⟩ := exists_lowest
      (List.ne_nil_of_mem ((hmem a).2 ⟨hlive, hroute, Nat.le_refl _⟩))
    refine ⟨m, hm, hmin, ?_⟩
    have hpending : ∀ d : CutOff, d ∈ (breakCheck x a (s.checks.get x) s).cutOff →
        d.addr ∈ beyondList x ((s.entry a).hopsOn x) s := by
      intro d hd
      obtain ⟨b, hb, rfl⟩ := List.mem_map.1 hd
      exact hb
    exact (goesOn_settle hdecides hother).2 m (List.mem_map.2 ⟨m, hm, rfl⟩)
      (fun d hd _ => hmin _ (hpending d hd)) hup (hreach m ((hmem m).1 hm))
  · have hentry (b : Nat) : (breakFound x a (reportFailure a s)).entry b
        = (reportFailure a s).entry b := rfl
    refine (losesAll_settle hdecides hother hdown rfl hsorted (fun b hb => ?_) (fun b => ?_) ?_).imp
      id id
    · rw [hentry]
      exact reportFailure_keeps_live a ((hmem b).1 hb).1
    · rw [hentry, reportFailure_entry_eq]
    · exact reportFailure_mirror a s

/-! ## A check's PROBE that fails (R160, R162) -/

/-- The failure is reported first; the check acts on it where it still waits for it (R66, R160, R162). -/
theorem checkOutcome_fails {o : PortOutcome} (ho : Fails o) (q x : Port) (a : Nat) (s : State) :
    checkOutcome q x a o s =
      let c := (reportFailure a s).checks.get x
      if q = x then
        if c.probeTarget = some a then
          if c.tries < 2 then reportFailure a s else breakFound x a (reportFailure a s)
        else reportFailure a s
      else if c.state = .rerouting ∧ c.deciding = some a then
        if c.tries < 2 then reportFailure a s else loseDecided x a (reportFailure a s)
      else reportFailure a s := by
  rcases ho with rfl | rfl | rfl <;> rfl

theorem madeLost_setCheck (h : MadeLost b s t) (x : Port) (c : Check) :
    MadeLost b s (t.setCheck x c) := h

theorem loseDecided_eq (x : Port) (a : Nat) (s : State) :
    loseDecided x a s
      = (loseModule x a s).setCheck x
          { (loseModule x a s).checks.get x with deciding := none } := rfl

theorem loseDecided_slots (x : Port) (a : Nat) (s : State) :
    (loseDecided x a s).slots = s.slots := by
  rw [loseDecided_eq, State.setCheck_slots, loseModule_slots]

theorem loseDecided_ringState (x : Port) (a : Nat) (s : State) :
    (loseDecided x a s).ringState = s.ringState := by
  rw [loseDecided_eq, State.setCheck_ringState, loseModule_ringState]

theorem loseDecided_entry (x : Port) (a b : Nat) (s : State) :
    (loseDecided x a s).entry b = (loseModule x a s).entry b := by
  rw [loseDecided_eq]
  exact State.entry_eq_of_roster (State.setCheck_roster _ _ _) b

theorem loseDecided_hops (x : Port) (a b : Nat) (s : State) :
    ((loseDecided x a s).entry b).hops = (s.entry b).hops := by
  rw [loseDecided_entry, loseModule_entry]
  split <;> rfl

theorem loseDecided_checks (x : Port) (a : Nat) (s : State) :
    (loseDecided x a s).checks
      = s.checks.set x { checkLoses a (s.checks.get x) with deciding := none } := by
  rw [loseDecided_eq, State.setCheck, loseModule_checks, Pair.get_set_same, Pair.set_set]

theorem loseDecided_madeLost (x : Port) (h : (s.entry a).live = true) :
    MadeLost a s (loseDecided x a s) := by
  rw [loseDecided_eq]
  exact madeLost_setCheck (loseModule_madeLost x h) x _

/-- The decided module is LOST and the check may take the next (R162, R163). -/
theorem loseDecided_decides (hstate : (s.checks.get x).state = .rerouting)
    (hchecks : (reportFailure a s).checks = s.checks) :
    CheckDecides x
      { s.checks.get x with
        cutOff := decided a .lost (s.checks.get x).cutOff, lost := (s.checks.get x).lost + 1
        deciding := none } s (loseDecided x a (reportFailure a s)) where
  touches := (reportFailure_touches a s).trans (loseDecided_touches _ _ _)
  slots := by rw [loseDecided_slots, reportFailure_frame]
  ringState := by rw [loseDecided_ringState, reportFailure_frame]
  vacant b := by
    rw [loseDecided_entry, ((loseModule_moves x a _).entry b).2.1]
    exact reportFailure_vacant a b s
  hops b := by
    rw [loseDecided_hops, reportFailure_entry_eq]
  checks := by
    rw [loseDecided_checks, hchecks]
    rfl
  rerouting := hstate
  deciding := rfl

/-- A failed PROBE of a reach check is taken as R160 to R163 say. -/
theorem probe_fails {o : PortOutcome} (ho : Fails o) (q x : Port) (a : Nat) (s : State) :
    ProbeFails q x a s (settle (checkOutcome q x a o s)) := by
  intro hother hlive hroute
  have hroute' : ((reportFailure a s).entry a).route = some x := by
    rw [reportFailure_entry_eq]
    exact hroute
  have hrests (hchecks : (reportFailure a s).checks = s.checks)
      (hx : CheckRests x (reportFailure a s)) :
      (settle (reportFailure a s)).checks = s.checks := by
    have hall (y : Port) : CheckRests y (reportFailure a s) := by
      rcases Port.eq_or_other x y with rfl | rfl
      · exact hx
      · exact checkRests_of_idle (by rw [hchecks]; exact hother)
    rw [(settle_of_rests hall).requests.touches.checks, hchecks]
  rw [checkOutcome_fails ho]
  constructor
  · rintro rfl hstate hbegun htarget
    have hchecks : (reportFailure a s).checks = s.checks :=
      reportFailure_absorbed hroute (by rw [hstate]; nofun)
    have hprobe : (s.checks.get q).probeTarget = some a := by
      rw [Check.probeTarget, if_pos ⟨hstate, hbegun⟩, htarget]
    simp only [hchecks, hprobe, if_true]
    refine ⟨fun htries => ?_, fun htries => ?_⟩
    · rw [if_pos htries]
      refine hrests hchecks ⟨fun _ _ => ⟨a, ?_, hroute'⟩, fun hr => ?_⟩
      · rw [hchecks]; exact htarget
      · rw [hchecks, hstate] at hr
        nomatch hr
    · rw [if_neg (by omega)]
      exact breakFound_settle hother hlive hroute hchecks
  · rintro rfl hstate hdeciding
    have hchecks : (reportFailure a s).checks = s.checks :=
      reportFailure_absorbed hroute (by rw [hstate]; nofun)
    simp only [hchecks, if_neg (Port.other_ne x), if_pos (And.intro hstate hdeciding)]
    refine ⟨fun htries => ?_, fun htries => ?_⟩
    · rw [if_pos htries]
      refine hrests hchecks ⟨fun hp => ?_, fun _ => ?_⟩
      · rw [hchecks, hstate] at hp
        nomatch hp
      · rw [hchecks, hdeciding]
        nofun
    · rw [if_neg (by omega)]
      have hdecides := loseDecided_decides hstate hchecks
      refine ⟨madeLost_settle ?_, goesOn_settle hdecides hother⟩
      exact madeLost_before (loseDecided_madeLost x (reportFailure_keeps_live a hlive))
        (by rw [reportFailure_entry_eq]) (State.status_eq_of_mirror (reportFailure_mirror a s) a)

end Sys2Proof.Proofs
end

section
/-! The end of an exchange by a failure, told to its owner (R38), and the start delimiter, which begins a reception and
ends a frame it falls into (R1, R32, R34, R37; logs 15, 30). -/

namespace Sys2Proof.Proofs

-- one theorem after the other: many proofs elaborated at once ask for a stack each
set_option Elab.async false

open Sys2Proof.Machine Sys2Proof.Safety

variable {s t r : State} {p : Port} {x : Xfer} {o : PortOutcome}

/-! ## A failed exchange, told to its owner (R38) -/

/-- The owner of a failed exchange is told as the rules of its work say. -/
theorem failureTold_settle (ho : Fails o) (p : Port) (x : Xfer) (s : State) :
    FailureTold p x s (settle (applyOutcome p x o s)) := by
  unfold FailureTold
  refine ⟨fun v h => ?_, fun v h => ?_, fun h => ?_, fun q h => ?_, fun a h => ?_, fun a h => ?_⟩
  · simp only [applyOutcome, h]
    exact attempt_fails ho v x.frame s
  · simp only [applyOutcome, h]
    exact resync_fails ho p v s
  · simp only [applyOutcome, h]
    exact claim_fails ho p s
  · simp only [applyOutcome, h]
    exact probe_fails ho p q x.frame.dest s
  · simp only [applyOutcome, h]
    exact poll_fails ho a s
  · simp only [applyOutcome, h]
    exact fetch_fails ho p a s

/-- What a failure makes of the state does not rest on the ports but for their links. -/
theorem failureTold_ports {ps qs : Pair ChainPort}
    (hlinks : ∀ q, (ps.get q).link = (s.port q).link)
    (h : FailureTold p x { s with ports := ps } { t with ports := qs }) : FailureTold p x s t := by
  obtain ⟨hattempt, hresync, hclaim, hprobe, hpoll, hfetch⟩ := h
  refine ⟨hattempt, hresync, hclaim, fun q hq => ?_, hpoll, hfetch⟩
  have hlinks' (q : Port) : (State.port { s with ports := ps } q).link = (s.port q).link := hlinks q
  have hcheck := hprobe q hq
  simp only [ProbeFails, BreakIsFound, GoesOn, hlinks'] at hcheck
  exact hcheck

/-- A failure sends nothing: the ports stand. -/
theorem applyOutcome_fails_ports (ho : Fails o) (p : Port) (x : Xfer) (s : State) :
    (applyOutcome p x o s).ports = s.ports := by
  have hreport (a : Nat) : (reportFailure a s).ports = s.ports := by rw [reportFailure_frame]
  unfold applyOutcome
  split
  · exact censusOutcome_fails_ports ho p s
  · exact (checkOutcome_touches _ _ _ _ _).ports
  · exact (attemptOutcome_touches _ _ _ _).ports
  · rw [resyncOutcome_fails ho]
    exact (afterFailedResync_touches _ _).ports.trans (hreport _)
  · exact (bcastOutcome_touches _ _ _ _).ports
  · exact (pollOutcome_touches _ _ _).ports
  · rcases ho with rfl | rfl | rfl <;> exact hreport _

/-- A failed exchange leaves its port IDLE. -/
theorem endExchange_fails_port (ho : Fails o) (p : Port) (x : Xfer) (s : State) :
    (endExchange p x o s).port p = { s.port p with exch := .idle } := by
  unfold endExchange State.port
  rw [(settle_touches _).ports, applyOutcome_fails_ports ho]
  exact Pair.get_set_same _ _ _

/-- A failed exchange leaves the other port as it is. -/
theorem endExchange_fails_port_other (ho : Fails o) (p : Port) (x : Xfer) (s : State) :
    (endExchange p x o s).port p.other = s.port p.other := by
  unfold endExchange State.port
  rw [(settle_touches _).ports, applyOutcome_fails_ports ho]
  exact Pair.get_set_other _ _ _

/-- A failed exchange is told to its owner, whatever else its end and its begin made of the ports but their links. -/
theorem endExchange_failureTold (ho : Fails o) (p : Port) (x : Xfer) (s : State)
    {ps : Pair ChainPort} (qs : Pair ChainPort) (hlinks : ∀ q, (ps.get q).link = (s.port q).link) :
    FailureTold p x s { endExchange p x o { s with ports := ps } with ports := qs } := by
  have htold : FailureTold p x { s with ports := ps.set p { ps.get p with exch := .idle } }
      (endExchange p x o { s with ports := ps }) :=
    failureTold_settle ho p x (State.setExch { s with ports := ps } p .idle)
  generalize endExchange p x o { s with ports := ps } = t at htold ⊢
  refine failureTold_ports (t := { t with ports := qs }) (qs := t.ports) (fun q => ?_) htold
  rw [← hlinks q]
  rcases Port.eq_or_other p q with rfl | rfl
  · rw [Pair.get_set_same]
  · rw [Pair.get_set_other]

/-! ## The start delimiter (R1, R32, R34, R37) -/

/-- On a port in UP with signal, a start delimiter ends a frame in progress and begins the next. -/
theorem exec_startDelimiterReceived (hreset : s.inReset = false) (hup : (s.port p).link = .up)
    (hsignal : (s.port p).lossTimer = false) :
    exec (.startDelimiterReceived p) s = .next (startFrame p s) := by
  simp [exec, execStartDelimiterReceived, outsideReset, onlyIf, State.signalHere, State.isUp, hreset,
    hup, hsignal]

/-- The standing of a reception that begins, by the exchange it begins in (R32, R34, R37). -/
def begunIn : Exchange → Receiving
  | .awaiting _ _ _ => .ofExchange
  | .idle => .outside
  | _ => .nothing

theorem beginReception_eq (p : Port) (s : State) (h : (s.port p).rx = .nothing) :
    beginReception p s = s.setRx p (begunIn (s.port p).exch) := by
  have hstands : s = s.setRx p .nothing := by
    rw [← h]
    show s = { s with ports := s.ports.set p (s.ports.get p) }
    rw [Pair.set_get]
  unfold beginReception
  cases (s.port p).exch with
  | awaiting y w b => rfl
  | idle => rfl
  | sending y => exact hstands
  | held => exact hstands

/-- In IDLE the reception that begins belongs to no exchange (R37). -/
theorem beginReception_idle (h : (s.port p).exch = .idle) : beginReception p s = s.setRx p .outside := by
  simp [beginReception, h]

/-- The port after a symbol error of the frame it was receiving (R41). -/
def symbolErrorPort (y : ChainPort) : ChainPort :=
  { y with rx := .nothing, symbolErrors := satInc 255 y.symbolErrors }

theorem countSymbolError_eq (p : Port) (s : State) :
    countSymbolError p (s.setRx p .nothing) = s.setPort p (symbolErrorPort (s.port p)) := by
  simp [countSymbolError, State.setRx, State.setPort, State.port, symbolErrorPort]

/-- Outside any window a start delimiter inside a frame is a symbol error of that frame (R37). -/
theorem startFrame_outside (hrx : (s.port p).rx = .outside) (hexch : (s.port p).exch = .idle) :
    startFrame p s = (s.setPort p (symbolErrorPort (s.port p))).setRx p .outside := by
  have hend : endReception p .symbolError s = s.setPort p (symbolErrorPort (s.port p)) := by
    rw [← countSymbolError_eq]
    simp [endReception, hrx, judgeOutside]
  rw [startFrame, hend, beginReception_idle]
  rw [State.port_setPort_same]
  exact hexch

/-- In a window it is a symbol error of that frame, with which the exchange ends (R34). -/
theorem startFrame_inWindow {w : Nat} {b : Bool} (hrx : (s.port p).rx = .ofExchange)
    (hexch : (s.port p).exch = .awaiting x w b) :
    startFrame p s
      = (endExchange p x .symbolError (s.setPort p (symbolErrorPort (s.port p)))).setRx p .outside := by
  have hend : endReception p .symbolError s
      = endExchange p x .symbolError (s.setPort p (symbolErrorPort (s.port p))) := by
    rw [← countSymbolError_eq]
    simp [endReception, hrx, hexch, judgeInWindow]
  rw [startFrame, hend, beginReception_idle]
  rw [endExchange_fails_port (.inr (.inr rfl))]

/-- Settles O38: the frame in progress is judged a symbol error, and the owner of an exchange it ends is told. -/
theorem startDelimiterBeginsReception : Obligations.StartDelimiterBeginsReception := by
  unfold Obligations.StartDelimiterBeginsReception
  intro s p hreset hup hsignal errors
  rw [exec_startDelimiterReceived hreset hup hsignal]
  refine ⟨fun hrx => ?_, fun hrx hexch => ?_, fun x w b hrx hexch => ?_⟩
  · have hend : endReception p .symbolError s = s := by simp [endReception, hrx]
    rw [startFrame, hend, beginReception_eq p s hrx]
    rfl
  · rw [startFrame_outside hrx hexch, State.setRx, State.port_setPort_same, ← hrx]
    exact congrArg Host.Outcome.next
      (congrArg (fun ps => { s with ports := ps }) (Pair.set_set s.ports p _ _))
  · have hfails : Fails .symbolError := .inr (.inr rfl)
    refine ⟨_, rfl, startFrame_touches p s, ?_, ?_, ?_⟩
    · rw [startFrame_inWindow hrx hexch, State.setRx, State.port_setPort_same,
        endExchange_fails_port hfails, State.port_setPort_same]
      rfl
    · rw [startFrame_inWindow hrx hexch, State.setRx, State.port_setPort_other,
        endExchange_fails_port_other hfails, State.port_setPort_other]
    · rw [startFrame_inWindow hrx hexch]
      refine endExchange_failureTold hfails p x s _ (fun q => ?_)
      rcases Port.eq_or_other p q with rfl | rfl
      · rw [Pair.get_set_same]
        rfl
      · rw [Pair.get_set_other]
        rfl

end Sys2Proof.Proofs
end

section
/-! What each command makes of the two chain ports, and the law they keep: HELD exactly while the link is not UP, a
reception only where one can be, the counters in their ranges (section 2.2, R25 to R42). -/

namespace Sys2Proof.Proofs

-- one theorem after the other: many proofs elaborated at once ask for a stack each
set_option Elab.async false

open Sys2Proof.Machine Sys2Proof.Safety

variable {s t : State} {p q : Port} {x : Xfer} {y : ChainPort} {o : PortOutcome}

/-! ## What the end of an exchange makes of its port (R38, R118) -/

/-- The outcomes other than a reply (R38). -/
def NoReply (o : PortOutcome) : Prop := ∀ f, o ≠ .reply f

theorem censusOutcome_ports (p : Port) (o : PortOutcome) (s : State) :
    (censusOutcome p o s).ports = s.ports := by
  have hfail (r : CensusReason) : (failCensus r s).ports = s.ports := by
    unfold failCensus
    split <;> rfl
  have hfinish (r : State) : (finishCensus r).ports = r.ports := (finishCensus_touchesWalkEnd r).ports
  have hclaim (q : Port) (f : Frame) : (afterClaim (takeClaim q f s)).ports = s.ports := by
    have htake : (takeClaim q f s).ports = s.ports := (setEntry_touches _ _ s).ports
    unfold afterClaim
    split
    · exact (hfinish _).trans htake
    · exact htake
  have hA : (claimOutcomeA o s).ports = s.ports := by
    cases o with
    | reply f =>
      unfold claimOutcomeA
      simp only
      split
      · exact hclaim _ _
      · exact hfail _
    | linkLost b => exact hfail _
    | sent => rfl
    | timeout | crcError | symbolError =>
      rw [claimOutcomeA_fails (by simp [Fails])]
      split
      · exact (endWalkA_touchesWalkEnd s).ports
      · rfl
  have hB : (claimOutcomeB o s).ports = s.ports := by
    cases o with
    | reply f =>
      unfold claimOutcomeB
      simp only
      split
      · exact hclaim _ _
      · split
        · unfold closeRing
          simp only
          split
          · exact hfinish _
          · rfl
        · exact hfail _
    | linkLost b => exact hfail _
    | sent => rfl
    | timeout | crcError | symbolError =>
      rw [claimOutcomeB_fails (by simp [Fails])]
      split
      · exact (endWalkB_touchesWalkEnd s).ports
      · rfl
  unfold censusOutcome
  split
  · split
    · rfl
    · exact hfail _
    · rfl
  · exact hA
  · exact hB
  · rfl

/-- Only a reply asks for success (R110). -/
theorem reply_of_decisionOf_success {e : RosterEntry} {st : Status} {data : List Byte}
    (h : decisionOf e o = .success st data) : ∃ f, o = .reply f := by
  cases o with
  | reply f => exact ⟨f, rfl⟩
  | linkLost sent => cases sent <;> nomatch h
  | timeout | crcError | symbolError | sent => nomatch h

/-- After a matching IDENT the follow-up WRITE goes out, or the census flushes its slot (R118). -/
theorem resyncMatched_ports (p : Port) (v : Tag) (s : State) :
    (resyncMatched p v s).ports = s.ports
      ∨ ∃ z, (resyncMatched p v s).ports = s.ports.set p { s.port p with exch := .sending z } := by
  unfold resyncMatched
  split
  · exact .inl (completeActive_touches _ _ _ _ _).ports
  · exact .inr ⟨_, rfl⟩

/-- Only the reply to a resynchronising PROBE sends: the WRITE that follows it (R118). -/
theorem resyncOutcome_ports (p : Port) (v : Tag) (o : PortOutcome) (s : State) :
    (resyncOutcome p v o s).ports = s.ports
      ∨ (∃ f, o = .reply f) ∧ ∃ z, (resyncOutcome p v o s).ports
          = s.ports.set p { s.port p with exch := .sending z } := by
  have hreport : (clearFollowUp p (reportResync ((s.slot v).target.getD 0) o s)).ports = s.ports :=
    (reportProbe_touches _ _ _).ports
  unfold resyncOutcome
  simp only
  generalize clearFollowUp p (reportResync ((s.slot v).target.getD 0) o s) = r at hreport ⊢
  split
  · exact .inl ((completeActive_touches _ _ _ _ _).ports.trans hreport)
  · split
    · exact .inl ((completeActive_touches _ _ _ _ _).ports.trans hreport)
    · next _ hsuccess =>
      rcases resyncMatched_ports p v r with heq | ⟨z, heq⟩
      · exact .inl (heq.trans hreport)
      · refine .inr ⟨reply_of_decisionOf_success hsuccess, z, ?_⟩
        rw [heq, State.port, hreport]
        rfl
    · exact .inl ((completeActive_touches _ _ _ _ _).ports.trans hreport)
    · exact .inl ((busyDecision_touches _ _).ports.trans hreport)
    · exact .inl ((waitOrFlush_touches _ _ _).ports.trans hreport)
    · exact .inl ((waitOrFlush_touches _ _ _).ports.trans hreport)

/-- The notice unit sends nothing. -/
theorem fetchOutcome_ports (p : Port) (a : Nat) (o : PortOutcome) (s : State) :
    (fetchOutcome p a o s).ports = s.ports := by
  have hjudge (f : Frame) (r : State) : (judgeNotice p a f r).ports = r.ports := by
    unfold judgeNotice
    split
    · rfl
    · split
      · exact (setLastSeq_touches _ _ _).ports
      · rfl
  cases o with
  | reply f =>
    unfold fetchOutcome
    simp only
    split
    · exact (hjudge _ _).trans (reportGood_touches _ _).ports
    · exact (setFetchWanted_touches _ _ _).ports.trans (reportGood_touches _ _).ports
  | timeout | crcError | symbolError => exact (reportFailure_touches _ _).ports
  | sent | linkLost => rfl

/-- The owner of an exchange leaves the ports, but for the WRITE that follows a resynchronising PROBE's reply. -/
theorem applyOutcome_ports (p : Port) (x : Xfer) (o : PortOutcome) (s : State) :
    (applyOutcome p x o s).ports = s.ports
      ∨ (∃ f, o = .reply f) ∧ ∃ z, (applyOutcome p x o s).ports
          = s.ports.set p { s.port p with exch := .sending z } := by
  unfold applyOutcome
  split
  · exact .inl (censusOutcome_ports _ _ _)
  · exact .inl (checkOutcome_touches _ _ _ _ _).ports
  · exact .inl (attemptOutcome_touches _ _ _ _).ports
  · exact resyncOutcome_ports _ _ _ _
  · exact .inl (bcastOutcome_touches _ _ _ _).ports
  · exact .inl (pollOutcome_touches _ _ _).ports
  · exact .inl (fetchOutcome_ports _ _ _ _)

theorem applyOutcome_noReply_ports (ho : NoReply o) (p : Port) (x : Xfer) (s : State) :
    (applyOutcome p x o s).ports = s.ports :=
  (applyOutcome_ports p x o s).resolve_right fun ⟨⟨f, hf⟩, _⟩ => ho f hf

theorem endExchange_ports (p : Port) (x : Xfer) (o : PortOutcome) (s : State) :
    (endExchange p x o s).ports = (applyOutcome p x o (s.setExch p .idle)).ports :=
  (settle_touches _).ports

/-- The port whose exchange ends is IDLE, or sends the WRITE that follows (R38, R118). -/
theorem endExchange_port (p : Port) (x : Xfer) (o : PortOutcome) (s : State) :
    (endExchange p x o s).port p = { s.port p with exch := .idle }
      ∨ ∃ z, (endExchange p x o s).port p = { s.port p with exch := .sending z } := by
  unfold State.port
  rw [endExchange_ports]
  rcases applyOutcome_ports p x o (s.setExch p .idle) with heq | ⟨-, z, heq⟩
  · exact .inl (by rw [heq]; exact Pair.get_set_same _ _ _)
  · refine .inr ⟨z, ?_⟩
    rw [heq, Pair.get_set_same, State.setExch, State.port_setPort_same]
    rfl

/-- Without a reply it is IDLE. -/
theorem endExchange_noReply_port (ho : NoReply o) (p : Port) (x : Xfer) (s : State) :
    (endExchange p x o s).port p = { s.port p with exch := .idle } := by
  unfold State.port
  rw [endExchange_ports, applyOutcome_noReply_ports ho]
  exact Pair.get_set_same _ _ _

/-- The end of an exchange leaves the other port. -/
theorem endExchange_port_other (p : Port) (x : Xfer) (o : PortOutcome) (s : State) :
    (endExchange p x o s).port p.other = s.port p.other := by
  unfold State.port
  rw [endExchange_ports]
  rcases applyOutcome_ports p x o (s.setExch p .idle) with heq | ⟨-, z, heq⟩
  · rw [heq]
    exact Pair.get_set_other _ _ _
  · rw [heq, Pair.get_set_other]
    exact Pair.get_set_other _ _ _

/-! ## One port (section 2.2) -/

/-- A port that has an exchange is in UP. -/
theorem up_of_portLaw (h : PortLaw y) (hexch : y.exch ≠ .held) : y.link = .up := by
  obtain ⟨hheld, -⟩ := h
  by_contra hdown
  exact hexch (hheld.2 hdown)

/-- A port receives nothing but in IDLE and in AWAITING. -/
theorem rx_of_portLaw (h : PortLaw y) (hidle : y.exch ≠ .idle) (hawaits : ∀ f w r, y.exch ≠ .awaiting f w r) :
    y.rx = .nothing := by
  obtain ⟨-, -, -, -, -, -, -, houtside, hof, -⟩ := h
  cases hrx : y.rx with
  | nothing => rfl
  | outside => exact absurd (houtside hrx) hidle
  | ofExchange =>
    obtain ⟨f, w, r, hexch⟩ := hof hrx
    exact absurd hexch (hawaits f w r)

/-- A port keeps the law with its counters anywhere in their ranges (R41). -/
theorem portLaw_counters (h : PortLaw y) {crcs symbols timeouts lates strays : Nat} {hold : Byte}
    (hcrcs : crcs ≤ 255) (hsymbols : symbols ≤ 255) (htimeouts : timeouts ≤ 65535)
    (hlates : lates ≤ 255) (hstrays : strays ≤ 255) :
    PortLaw { y with
      crcErrors := crcs, symbolErrors := symbols, timeouts := timeouts, lateReplies := lates
      strayReplies := strays, timeoutsHold := hold } := by
  obtain ⟨hheld, hloss, -, -, -, -, -, hreception⟩ := h
  exact ⟨hheld, hloss, hcrcs, hsymbols, htimeouts, hlates, hstrays, hreception⟩

/-- A port in UP may be in any exchange but HELD, and receive where the exchange lets it (R31 to R37). -/
theorem portLaw_exch (h : PortLaw y) (hup : y.link = .up) {e : Exchange} {rx : Receiving} (he : e ≠ .held)
    (houtside : rx = .outside → e = .idle) (hof : rx = .ofExchange → ∃ f w r, e = .awaiting f w r)
    (hran : ∀ f w, e = .awaiting f w true → rx = .ofExchange) :
    PortLaw { y with exch := e, rx := rx } := by
  obtain ⟨-, hloss, hcrcs, hsymbols, htimeouts, hlates, hstrays, -, -, -, hrun⟩ := h
  exact ⟨⟨fun hheld => absurd hheld he, fun hdown => absurd hup hdown⟩, hloss, hcrcs, hsymbols, htimeouts,
    hlates, hstrays, houtside, hof, hran, hrun⟩

/-- A port may enter UP, with its exchange IDLE (R29). -/
theorem portLaw_enterUp (h : PortLaw y) :
    PortLaw { y with link := .up, idleRun := 64, lossTimer := false, exch := .idle, rx := .nothing } := by
  obtain ⟨-, -, hcrcs, hsymbols, htimeouts, hlates, hstrays, -⟩ := h
  exact ⟨⟨nofun, fun hup => absurd rfl hup⟩, nofun, hcrcs, hsymbols, htimeouts, hlates, hstrays, nofun,
    nofun, nofun, Nat.le_refl _, nofun⟩

/-- A port may leave UP, or move outside UP, with its exchange HELD (R25, R26, R29). -/
theorem portLaw_held (h : PortLaw y) {l : LinkState} {n : Nat} (hl : l ≠ .up) (hn : n ≤ 64)
    (hrun : l = .aligning → n < 64) :
    PortLaw { y with link := l, idleRun := n, lossTimer := false, exch := .held, rx := .nothing } := by
  obtain ⟨-, -, hcrcs, hsymbols, htimeouts, hlates, hstrays, -⟩ := h
  exact ⟨⟨fun _ => hl, fun _ => rfl⟩, nofun, hcrcs, hsymbols, htimeouts, hlates, hstrays, nofun, nofun,
    nofun, hn, hrun⟩

/-- Outside UP a port is HELD, receives nothing and runs no signal-loss timer. -/
theorem held_of_portLaw (h : PortLaw y) (hdown : y.link ≠ .up) :
    y = { y with lossTimer := false, exch := .held, rx := .nothing } := by
  have ⟨hiff, htimer, _⟩ := h
  have hheld : y.exch = .held := hiff.2 hdown
  have hloss : y.lossTimer = false := by
    by_contra hon
    exact hdown (htimer (by simpa using hon))
  have hrx : y.rx = .nothing := rx_of_portLaw h (by rw [hheld]; nofun) (by rw [hheld]; nofun)
  rw [← hheld, ← hloss, ← hrx]

/-- A port outside UP may move anywhere outside UP (R25, R26, R27). -/
theorem portLaw_moves (h : PortLaw y) (hdown : y.link ≠ .up) {l : LinkState} {n : Nat} (hl : l ≠ .up)
    (hn : n ≤ 64) (hrun : l = .aligning → n < 64) : PortLaw { y with link := l, idleRun := n } := by
  rw [held_of_portLaw h hdown]
  exact portLaw_held h hl hn hrun

/-- The signal-loss timer runs in UP only (R28). -/
theorem portLaw_lossTimer (h : PortLaw y) (hup : y.link = .up) (on : Bool) :
    PortLaw { y with lossTimer := on } := by
  obtain ⟨hheld, -, hrest⟩ := h
  exact ⟨hheld, fun _ => hup, hrest⟩

/-- A port keeps the law at SOFT_RESET: its exchange is abandoned, its counters are 0 (R40, R42). -/
theorem portLaw_softReset (h : PortLaw y) : PortLaw (softResetPort y) := by
  have hcounters : PortLaw { y with
      crcErrors := 0, symbolErrors := 0, timeouts := 0, lateReplies := 0, strayReplies := 0
      timeoutsHold := 0 } :=
    portLaw_counters h (Nat.zero_le _) (Nat.zero_le _) (Nat.zero_le _) (Nat.zero_le _) (Nat.zero_le _)
  unfold softResetPort
  by_cases hup : y.link = .up
  · rw [if_pos hup]
    refine portLaw_exch hcounters hup nofun (fun _ => rfl) (fun hof => ?_) nofun
    split at hof <;> nomatch hof
  · have hheld := held_of_portLaw h hup
    rw [if_neg hup, hheld]
    exact held_of_portLaw hcounters hup ▸ hcounters

/-! ## Both ports -/

theorem portsLaw_iff (s : State) : PortsLaw s ↔ ∀ p, PortLaw (s.port p) :=
  ⟨fun h p => by cases p; exacts [h.1, h.2], fun h => ⟨h .a, h .b⟩⟩

theorem portsLaw_port (h : PortsLaw s) (p : Port) : PortLaw (s.port p) := (portsLaw_iff s).1 h p

theorem portsLaw_of_ports (h : PortsLaw s) (hports : t.ports = s.ports) : PortsLaw t := by
  unfold PortsLaw
  rw [hports]
  exact h

/-- Where one port stands, only the other is to be looked at. -/
theorem portsLaw_of_port (h : PortsLaw s) (hp : PortLaw (t.port p))
    (hother : t.port p.other = s.port p.other) : PortsLaw t := by
  rw [portsLaw_iff]
  intro q
  rcases Port.eq_or_other p q with rfl | rfl
  · exact hp
  · rw [hother]
    exact portsLaw_port h _

theorem portsLaw_setPort (h : PortsLaw s) (hy : PortLaw y) : PortsLaw (s.setPort p y) :=
  portsLaw_of_port (p := p) h (by rw [State.port_setPort_same]; exact hy) (State.port_setPort_other _ _ _)

/-- The end of an exchange keeps the law where its port, once IDLE, keeps it and receives nothing. -/
theorem portsLaw_endExchange (h : PortsLaw s) (hy : PortLaw { y with exch := .idle })
    (hrx : y.rx = .nothing) (x : Xfer) (o : PortOutcome) :
    PortsLaw (endExchange p x o (s.setPort p y)) := by
  have hup : y.link = .up := up_of_portLaw (y := { y with exch := .idle }) hy nofun
  refine portsLaw_of_port (p := p) h ?_ ?_
  · rcases endExchange_port p x o (s.setPort p y) with heq | ⟨z, heq⟩
    · rw [heq, State.port_setPort_same]
      exact hy
    · rw [heq, State.port_setPort_same]
      exact portLaw_exch hy hup nofun (by rw [hrx]; nofun) (by rw [hrx]; nofun) nofun
  · rw [endExchange_port_other, State.port_setPort_other]

/-! ## Counting (R41) -/

@[simp] theorem setPort_setPort (s : State) (p : Port) (y z : ChainPort) :
    (s.setPort p y).setPort p z = s.setPort p z := by
  simp [State.setPort]

theorem setPort_self (s : State) (p : Port) : s.setPort p (s.port p) = s := by
  simp [State.setPort, State.port]

@[simp] theorem setRx_setPort (s : State) (p : Port) (y : ChainPort) (r : Receiving) :
    (s.setPort p y).setRx p r = s.setPort p { y with rx := r } := by
  simp [State.setRx]

@[simp] theorem countCrcError_setPort (s : State) (p : Port) (y : ChainPort) :
    countCrcError p (s.setPort p y) = s.setPort p { y with crcErrors := satInc 255 y.crcErrors } := by
  simp [countCrcError]

@[simp] theorem countSymbolError_setPort (s : State) (p : Port) (y : ChainPort) :
    countSymbolError p (s.setPort p y)
      = s.setPort p { y with symbolErrors := satInc 255 y.symbolErrors } := by
  simp [countSymbolError]

@[simp] theorem countTimeout_setPort (s : State) (p : Port) (y : ChainPort) :
    countTimeout p (s.setPort p y) = s.setPort p { y with timeouts := satInc 65535 y.timeouts } := by
  simp [countTimeout]

@[simp] theorem countLate_setPort (s : State) (p : Port) (y : ChainPort) :
    countLate p (s.setPort p y) = s.setPort p { y with lateReplies := satInc 255 y.lateReplies } := by
  simp [countLate]

@[simp] theorem countStray_setPort (s : State) (p : Port) (y : ChainPort) :
    countStray p (s.setPort p y) = s.setPort p { y with strayReplies := satInc 255 y.strayReplies } := by
  simp [countStray]

/-- A port keeps the law with each of its counters one further, or as it was (R41). -/
theorem portLaw_counts (h : PortLaw y) :
    PortLaw { y with crcErrors := satInc 255 y.crcErrors }
      ∧ PortLaw { y with symbolErrors := satInc 255 y.symbolErrors }
      ∧ PortLaw { y with timeouts := satInc 65535 y.timeouts }
      ∧ PortLaw { y with lateReplies := satInc 255 y.lateReplies }
      ∧ PortLaw { y with strayReplies := satInc 255 y.strayReplies } := by
  have ⟨_, _, hcrcs, hsymbols, htimeouts, hlates, hstrays, _⟩ := h
  have hcount {n : Nat} := satInc_le 255 n
  exact ⟨portLaw_counters h hcount hsymbols htimeouts hlates hstrays,
    portLaw_counters h hcrcs hcount htimeouts hlates hstrays,
    portLaw_counters h hcrcs hsymbols (satInc_le _ _) hlates hstrays,
    portLaw_counters h hcrcs hsymbols htimeouts hcount hstrays,
    portLaw_counters h hcrcs hsymbols htimeouts hlates hcount⟩

/-! ## Exchanges and receptions (R31 to R37) -/

/-- A frame of a window has ended, and the exchange with it. -/
theorem portLaw_ended (h : PortLaw y) (hup : y.link = .up) :
    PortLaw { y with exch := .idle, rx := .nothing } :=
  portLaw_exch h hup nofun nofun nofun nofun

/-- A frame of a window has ended, and the window runs on. -/
theorem portLaw_discarded {w : Nat} (h : PortLaw y) (hexch : y.exch = .awaiting x w false) :
    PortLaw { y with rx := .nothing } := by
  have hup : y.link = .up := up_of_portLaw h (by rw [hexch]; nofun)
  have hlaw : PortLaw { y with exch := .awaiting x w false, rx := .nothing } :=
    portLaw_exch h hup nofun nofun nofun nofun
  rw [← hexch] at hlaw
  exact hlaw

/-- A frame of a window ends without deciding the exchange: so does the exchange where the window ran out (R36). -/
theorem portsLaw_afterDiscard {b : Bool} (h : PortsLaw s) (hended : PortLaw { y with exch := .idle })
    (hrx : y.rx = .nothing) (hruns : b = false → PortLaw y) (x : Xfer) :
    PortsLaw (afterDiscard p x b (s.setPort p y)) := by
  unfold afterDiscard
  split
  · obtain ⟨-, -, htimeouts, -⟩ := portLaw_counts hended
    unfold timeoutExchange
    rw [countTimeout_setPort]
    exact portsLaw_endExchange (y := { y with timeouts := satInc 65535 y.timeouts }) h htimeouts hrx x _
  · next hb => exact portsLaw_setPort h (hruns (by simpa using hb))

/-- Judging a frame of a window keeps the law (R34). -/
theorem portsLaw_judgeInWindow {w : Nat} {b : Bool} (h : PortsLaw s)
    (hexch : (s.port p).exch = .awaiting x w b) (r : Reception) :
    PortsLaw (judgeInWindow p x b r (s.setRx p .nothing)) := by
  have hy := portsLaw_port h p
  have hended := portLaw_ended hy (up_of_portLaw hy (by rw [hexch]; nofun))
  obtain ⟨hcrcs, hsymbols, -, -, hstrays⟩ := portLaw_counts hended
  have hruns (hb : b = false) : PortLaw { s.port p with rx := .nothing } :=
    portLaw_discarded hy (hexch.trans (by rw [hb]))
  unfold judgeInWindow State.setRx
  split
  · rw [countSymbolError_setPort]
    exact portsLaw_endExchange h hsymbols rfl x _
  · split
    · rw [countCrcError_setPort]
      exact portsLaw_endExchange h hcrcs rfl x _
    · exact portsLaw_afterDiscard h hended rfl hruns x
    · split
      · exact portsLaw_endExchange h hended rfl x _
      · rw [countStray_setPort]
        refine portsLaw_afterDiscard h hstrays rfl (fun hb => ?_) x
        obtain ⟨-, -, -, -, hstrays'⟩ := portLaw_counts (hruns hb)
        exact hstrays'

/-- A frame of no window has ended (R37). -/
theorem portsLaw_judgeOutside (h : PortsLaw (s.setRx p .nothing)) (r : Reception) :
    PortsLaw (judgeOutside p r (s.setRx p .nothing)) := by
  obtain ⟨hcrcs, hsymbols, -, hlates, -⟩ := portLaw_counts (portsLaw_port h p)
  unfold judgeOutside
  split
  · exact portsLaw_setPort h hsymbols
  · split
    · exact portsLaw_setPort h hcrcs
    · exact h
    · exact portsLaw_setPort h hlates

/-- With no window run out, a reception may end (R31, R37). -/
theorem portLaw_rxNothing (h : PortLaw y) (hran : ∀ f w, y.exch ≠ .awaiting f w true) :
    PortLaw { y with rx := .nothing } := by
  have ⟨⟨hdown, _⟩, _⟩ := h
  by_cases hup : y.link = .up
  · have hheld : y.exch ≠ .held := fun hheld => hdown hheld hup
    exact portLaw_exch (e := y.exch) h hup hheld nofun nofun fun f w hexch => absurd hexch (hran f w)
  · have hnothing : y = { y with rx := .nothing } := by
      conv => lhs; rw [held_of_portLaw h hup]
      conv => rhs; rw [held_of_portLaw h hup]
    rw [← hnothing]
    exact h

theorem portsLaw_endReception (h : PortsLaw s) (r : Reception) : PortsLaw (endReception p r s) := by
  have hy := portsLaw_port h p
  unfold endReception
  split
  · exact h
  · next hrx =>
    refine portsLaw_judgeOutside (portsLaw_setPort h (portLaw_rxNothing hy fun f w hexch => ?_)) r
    obtain ⟨-, -, -, -, -, -, -, houtside, -⟩ := hy
    exact nomatch hexch.symm.trans (houtside hrx)
  · split
    · next hexch => exact portsLaw_judgeInWindow h hexch r
    · next hexch =>
      exact portsLaw_setPort h (portLaw_rxNothing hy fun f w hawaits => hexch _ _ _ hawaits)

/-- Signal lost with a reception in progress (R31, log 14). -/
theorem portsLaw_loseReception (h : PortsLaw s) : PortsLaw (loseReception p s) := by
  have hy := portsLaw_port h p
  unfold loseReception
  split
  · next _ hexch =>
    have hended := portLaw_ended hy (up_of_portLaw hy (by rw [hexch]; nofun))
    exact portsLaw_afterDiscard h hended rfl
      (fun hb => portLaw_discarded hy (hexch.trans (by rw [hb]))) _
  · next hno =>
    refine portsLaw_setPort h (portLaw_rxNothing hy fun f w hexch => ?_)
    obtain ⟨-, -, -, -, -, -, -, -, -, hran, -⟩ := hy
    exact hno f w true (hran f w hexch) hexch

/-- A start delimiter begins a reception where the port can receive (R32, R34, R37). -/
theorem portsLaw_beginReception (h : PortsLaw s) : PortsLaw (beginReception p s) := by
  have hy := portsLaw_port h p
  have hup (he : (s.port p).exch ≠ .held) := up_of_portLaw hy he
  unfold beginReception
  split
  · next hexch =>
    have he : (s.port p).exch ≠ .held := by rw [hexch]; nofun
    exact portsLaw_setPort h (portLaw_exch (e := (s.port p).exch) hy (hup he) he nofun
      (fun _ => ⟨_, _, _, hexch⟩) fun _ _ _ => rfl)
  · next hexch =>
    have he : (s.port p).exch ≠ .held := by rw [hexch]; nofun
    exact portsLaw_setPort h (portLaw_exch (e := (s.port p).exch) hy (hup he) he (fun _ => hexch) nofun
      (by rw [hexch]; nofun))
  · exact h

theorem portsLaw_windowRunsOut (h : PortsLaw s) : PortsLaw (windowRunsOut p s) := by
  have hy := portsLaw_port h p
  unfold windowRunsOut
  split
  · next x w hexch =>
    have hup : (s.port p).link = .up := up_of_portLaw hy (by rw [hexch]; nofun)
    split
    · next hrx =>
      exact portsLaw_setPort h (portLaw_exch (rx := (s.port p).rx) hy hup nofun (by rw [hrx]; nofun)
        (fun _ => ⟨_, _, _, rfl⟩) fun _ _ _ => hrx)
    · next hrx =>
      have hnothing : (s.port p).rx = .nothing := by
        obtain ⟨-, -, -, -, -, -, -, houtside, -⟩ := hy
        cases hr : (s.port p).rx with
        | nothing => rfl
        | outside => exact nomatch hexch.symm.trans (houtside hr)
        | ofExchange => exact absurd hr hrx
      have hidle : PortLaw { s.port p with exch := .idle } :=
        portLaw_exch (rx := (s.port p).rx) hy hup nofun (fun _ => rfl) (by rw [hnothing]; nofun) nofun
      obtain ⟨-, -, htimeouts, -⟩ := portLaw_counts hidle
      exact portsLaw_endExchange
        (y := { s.port p with timeouts := satInc 65535 (s.port p).timeouts }) h htimeouts hnothing x _
  · exact h

/-- The end delimiter of a frame goes out (R32). -/
theorem portsLaw_finishSending (h : PortsLaw s) : PortsLaw (finishSending p s) := by
  have hy := portsLaw_port h p
  unfold finishSending
  split
  · next x hexch =>
    have hup : (s.port p).link = .up := up_of_portLaw hy (by rw [hexch]; nofun)
    have hrx : (s.port p).rx = .nothing := rx_of_portLaw hy (by rw [hexch]; nofun) (by rw [hexch]; nofun)
    unfold frameGone
    split
    · have hidle : PortLaw { s.port p with exch := .idle } :=
        portLaw_exch (rx := (s.port p).rx) hy hup nofun (by rw [hrx]; nofun) (by rw [hrx]; nofun) nofun
      have hlaw := portsLaw_endExchange (p := p) h hidle hrx x .sent
      rwa [setPort_self] at hlaw
    · exact portsLaw_setPort h (portLaw_exch (rx := (s.port p).rx) hy hup nofun (by rw [hrx]; nofun)
        (by rw [hrx]; nofun) (by nofun))
  · exact h

/-! ## The arbiter (R103, R104) -/

/-- The ports stand, or the port sends what it was handed. -/
def HandsAtMost (p : Port) (s t : State) : Prop :=
  t.ports = s.ports ∨ ∃ z, t.ports = s.ports.set p { s.port p with exch := .sending z }

theorem handsAtMost_refl (p : Port) (s : State) : HandsAtMost p s s := .inl rfl

theorem handsAtMost_handFrame {p : Port} {s r : State} (x : Xfer) (h : r.ports = s.ports) :
    HandsAtMost p s (handFrame p x r) := by
  refine .inr ⟨x, ?_⟩
  unfold handFrame State.setExch State.setPort State.port
  rw [h]

theorem handsAtMost_handCensus (p : Port) (s : State) : HandsAtMost p s (handCensus p s) := by
  unfold handCensus
  split
  · split
    · exact handsAtMost_handFrame _ rfl
    · exact handsAtMost_refl _ _
  · split
    · exact handsAtMost_handFrame _ rfl
    · exact handsAtMost_refl _ _
  · split
    · exact handsAtMost_handFrame _ rfl
    · exact handsAtMost_refl _ _
  · exact handsAtMost_refl _ _

theorem handsAtMost_startSweep (p : Port) (c : SweepChoice) (s : State) :
    HandsAtMost p s (startSweep p c (setMarker p .sweep s)) := by
  unfold startSweep
  split
  · exact handsAtMost_handFrame _ rfl
  · exact handsAtMost_handFrame _ rfl
  · exact .inl rfl

theorem handsAtMost_startHost (p : Port) (f : HostFrame) (s : State) :
    HandsAtMost p s (startHost p f s) := by
  unfold startHost
  split
  · exact handsAtMost_handFrame _ rfl
  · unfold startSlot
    split
    · exact handsAtMost_handFrame _ rfl
    · split
      · exact handsAtMost_handFrame _ rfl
      · exact .inl rfl

theorem handsAtMost_handShared (p : Port) (s : State) : HandsAtMost p s (handShared p s) := by
  unfold handShared
  split
  · exact handsAtMost_refl _ _
  · exact handsAtMost_startSweep _ _ _
  · exact handsAtMost_startHost _ _ _
  · split
    · exact handsAtMost_startSweep _ _ _
    · exact handsAtMost_startHost _ _ _

theorem handsAtMost_arbitrate (p : Port) (s : State) : HandsAtMost p s (arbitrate p s) := by
  have hbacklog : (testBacklog p s).ports = s.ports := by
    unfold testBacklog
    split <;> rfl
  have hshared : HandsAtMost p s (handShared p (testBacklog p s)) := by
    have h := handsAtMost_handShared p (testBacklog p s)
    unfold HandsAtMost State.port at h ⊢
    rw [hbacklog] at h
    exact h
  unfold arbitrate
  split
  · exact handsAtMost_handCensus _ _
  · split
    · split
      · exact handsAtMost_handFrame _ rfl
      · split
        · exact handsAtMost_handFrame _ rfl
        · exact handsAtMost_refl _ _
    · split
      · exact handsAtMost_handFrame _ rfl
      · exact hshared

/-- A port that can be handed a frame is IDLE and receives nothing (R31, R103). -/
theorem portsLaw_arbitrate (h : PortsLaw s) (hcan : s.canHand p = true) : PortsLaw (arbitrate p s) := by
  simp only [State.canHand, Bool.and_eq_true, beq_iff_eq, State.isUp] at hcan
  obtain ⟨⟨hup, hidle⟩, hrx⟩ := hcan
  rcases handsAtMost_arbitrate p s with heq | ⟨z, heq⟩
  · exact portsLaw_of_ports h heq
  · refine portsLaw_of_ports (portsLaw_setPort (p := p) h ?_) heq
    exact portLaw_exch (rx := (s.port p).rx) (portsLaw_port h p) hup nofun (by rw [hrx]; nofun)
      (by rw [hrx]; nofun) nofun

/-! ## Links (R25 to R29) -/

theorem noReply_lostOutcome (e : Exchange) (n : Nat) : NoReply (lostOutcome e n) := by
  intro f
  unfold lostOutcome
  split <;> nofun

theorem tellLinkLost_ports (p : Port) (e : Exchange) (n : Nat) (s : State) :
    (tellLinkLost p e n s).ports = s.ports := by
  unfold tellLinkLost
  split
  · exact applyOutcome_noReply_ports (noReply_lostOutcome e n) _ _ _
  · rfl

theorem tellChecks_ports (p : Port) (s : State) : (tellChecks p s).ports = s.ports := by
  unfold tellChecks
  split
  · rfl
  · exact (ownPortLeft_touches _ _).ports.trans (otherPortLeft_touches _ _).ports

theorem censusPortLeft_ports (p : Port) (s : State) : (censusPortLeft p s).ports = s.ports := by
  have hfail : (failCensus .portLost s).ports = s.ports := by
    unfold failCensus
    split <;> rfl
  unfold censusPortLeft
  split
  · split
    · exact hfail
    · rfl
  · split
    · exact hfail
    · rfl
  · split
    · exact hfail
    · rfl
  · rfl

/-- A port that leaves UP is HELD, and everything that is told of it leaves the ports (R29, R39). -/
theorem leaveUp_ports (p : Port) (l : LinkState) (s : State) :
    (leaveUp p l s).ports = s.ports.set p
      { s.port p with link := l, idleRun := 0, lossTimer := false, exch := .held, rx := .nothing } := by
  have htraffic : (endTraffic p l s).ports = (dropLink p l s).ports := by
    unfold endTraffic
    rw [(frontPass_touches _).ports, (bcastPortGoneAll_touches _ _).ports, tellLinkLost_ports]
  have hsettled : (leaveUp p l s).ports = (tellChecks p (censusPortLeft p (endTraffic p l s))).ports :=
    (settleFrom_touches _ _).ports
  rw [hsettled, tellChecks_ports, censusPortLeft_ports, htraffic]
  rfl

theorem portsLaw_leaveUp (h : PortsLaw s) {l : LinkState} (hl : l ≠ .up) (hrun : l ≠ .aligning) :
    PortsLaw (leaveUp p l s) :=
  portsLaw_of_ports
    (portsLaw_setPort (p := p) h
      (portLaw_held (portsLaw_port h p) hl (Nat.zero_le _) (fun ha => absurd ha hrun)))
    (leaveUp_ports p l s)

theorem portsLaw_enterUp (h : PortsLaw s) : PortsLaw (enterUp p s) :=
  portsLaw_of_ports (portsLaw_setPort (p := p) h (portLaw_enterUp (portsLaw_port h p))) rfl

/-- One idle symbol keeps the run of a port in ALIGNING below 64 (R27). -/
theorem portsLaw_hearIdle (h : PortsLaw s) : PortsLaw (hearIdle p s) := by
  by_cases haligning : (s.port p).link = .aligning
  · rcases Nat.lt_or_ge (s.port p).idleRun 63 with hrun | hrun
    · rw [hearIdle_counts p s haligning hrun]
      refine portsLaw_setPort h (portLaw_moves (portsLaw_port h p) ?_ ?_ (by omega) fun _ => by omega)
      · rw [haligning]; nofun
      · rw [haligning]; nofun
    · rw [hearIdle_last p s haligning hrun]
      exact portsLaw_enterUp h
  · rw [hearIdle_elsewhere p s haligning]
    exact h

theorem portsLaw_idleSymbols (h : PortsLaw s) : PortsLaw (idleSymbols s) := by
  unfold idleSymbols outsideReset
  split
  · exact h
  · exact portsLaw_hearIdle (portsLaw_hearIdle h)

theorem portsLaw_moveLink (h : PortsLaw s) (hdown : (s.port p).link ≠ .up) {l : LinkState} (hl : l ≠ .up) :
    PortsLaw (moveLink p l s) :=
  portsLaw_setPort h (portLaw_moves (portsLaw_port h p) hdown hl (Nat.zero_le _) fun _ => by omega)

theorem portsLaw_writePortEnable (h : PortsLaw s) (p : Port) (on : Bool) :
    PortsLaw (writePortEnable p on s) := by
  have hy := portsLaw_port h p
  unfold writePortEnable
  split
  · unfold enablePort
    split
    · next hlink =>
      have hdown : (s.port p).link ≠ .up := by rw [hlink]; nofun
      obtain ⟨-, -, -, -, -, -, -, -, -, -, hrun, -⟩ := id hy
      exact portsLaw_setPort h (portLaw_moves hy hdown nofun hrun nofun)
    · exact h
  · unfold disablePort
    split
    · exact portsLaw_leaveUp h nofun nofun
    · exact h
    · next hup _ => exact portsLaw_setPort h (portLaw_moves hy hup nofun (Nat.zero_le _) nofun)

theorem portsLaw_writeControl (h : PortsLaw s) (v : Byte) : PortsLaw (writeControl v s) := by
  unfold writeControl
  refine portsLaw_writePortEnable (portsLaw_writePortEnable ?_ _ _) _ _
  exact portsLaw_of_ports h rfl

/-! ## Commands that leave the ports -/

theorem stopCensus_ports (c : StopCause) (s : State) : (stopCensus c s).ports = s.ports := by
  unfold stopCensus
  simp only
  rw [(startCheckIfDown_touches _ _).ports, (startCheckIfDown_touches _ _).ports,
    (frontPass_touches _).ports]
  rfl

theorem makeClear_ports (s : State) : (makeClear s).ports = s.ports := by
  have hclear : (clearCensus s).ports = s.ports := by
    show (flushQueued s).ports = s.ports
    exact (flushQueued_touches s).ports
  have hafter (r : State) : (afterClear r).ports = r.ports := by
    unfold afterClear
    split
    · exact stopCensus_ports _ _
    · split <;> rfl
  unfold makeClear
  rw [(settle_touches _).ports, hafter, hclear]

theorem endSettle_ports (s : State) : (endSettle s).ports = s.ports := by
  unfold endSettle
  simp only
  split <;> rfl

theorem makeStop_ports (s : State) : (makeStop s).ports = s.ports := by
  unfold makeStop
  split
  · rw [(settle_touches _).ports, stopCensus_ports]
  · rfl

theorem takeSlot_ports (v : Tag) (s : State) : (takeSlot v s).ports = s.ports := by
  have hvalidate (r : State) : (validateTarget v r).ports = r.ports := by
    unfold validateTarget
    split
    · rfl
    · split
      · split
        · exact (finish_touches _ _ _).ports
        · split
          · exact (finish_touches _ _ _).ports
          · rfl
      · rfl
  unfold takeSlot
  simp only
  split
  · exact hvalidate _
  · exact (finish_touches _ _ _).ports

theorem startCensus_ports (s : State) : (startCensus s).ports = s.ports := by
  unfold startCensus
  simp only
  rw [(abandonCheck_touches _ _).ports, (abandonCheck_touches _ _).ports, (flushAll_touches _).ports]

theorem cancelSlot_ports {v : Tag} (h : cancelSlot v s = .taken t) : t.ports = s.ports := by
  unfold cancelSlot at h
  split at h
  · rw [← Answer.taken.inj h, (settle_touches _).ports, (finish_touches _ _ _).ports]
  · rw [← Answer.taken.inj h, (settle_touches _).ports, (finish_touches _ _ _).ports]
  · split at h
    · rw [← Answer.taken.inj h, (settle_touches _).ports, (cancelActive_touches _ _).ports]
    · rw [← Answer.taken.inj h, (cancelActive_touches _ _).ports]
  · nomatch h
  · nomatch h

theorem submitAnswer_ports (h : submitAnswer s = .taken t) : t.ports = s.ports := by
  unfold submitAnswer at h
  split at h
  · rw [← Answer.taken.inj h, (settle_touches _).ports, takeSlot_ports]
  · rw [← Answer.taken.inj h]

theorem popAnswers_ports (h : popCompletionAnswer s = .taken t ∨ popNoticeAnswer s = .taken t) :
    t.ports = s.ports := by
  unfold popCompletionAnswer popNoticeAnswer at h
  rcases h with h | h
  · split at h
    · nomatch h
    · rw [← Answer.taken.inj h]
      rfl
  · split at h
    · nomatch h
    · rw [← Answer.taken.inj h]

theorem censusAnswers_ports (h : startCensusAnswer s = .taken t ∨ abortCensusAnswer s = .taken t) :
    t.ports = s.ports := by
  unfold startCensusAnswer abortCensusAnswer at h
  rcases h with h | h
  · split at h
    · nomatch h
    · rw [← Answer.taken.inj h, startCensus_ports]
  · split at h
    · rw [← Answer.taken.inj h]
      rfl
    · nomatch h

theorem acceptRosterAnswer_ports (h : acceptRosterAnswer s = .taken t) : t.ports = s.ports := by
  unfold acceptRosterAnswer at h
  split at h
  · rw [← Answer.taken.inj h]
  · rw [← Answer.taken.inj h]
  · nomatch h
  · nomatch h

/-- A command taken leaves the ports, but for SOFT_RESET (R172, R173). -/
theorem commandAnswer_ports {code : Byte} (h : commandAnswer code s = .taken t) :
    t.ports = s.ports ∨ t = softReset s := by
  unfold commandAnswer at h
  split at h
  · exact .inl (submitAnswer_ports h)
  · unfold cancelAnswer at h
    split at h
    · exact .inl (cancelSlot_ports h)
    · nomatch h
  · exact .inl (popAnswers_ports (.inl h))
  · exact .inl (popAnswers_ports (.inr h))
  · exact .inl (censusAnswers_ports (.inl h))
  · exact .inl (censusAnswers_ports (.inr h))
  · exact .inl (acceptRosterAnswer_ports h)
  · refine .inl ?_
    rw [← Answer.taken.inj h]
    rfl
  · exact .inr (Answer.taken.inj h).symm
  · nomatch h

theorem portsLaw_writeCmd (h : PortsLaw s) (code : Byte) : PortsLaw (writeCmd code s) := by
  unfold writeCmd answerCommand
  split
  · next t htaken =>
    refine portsLaw_of_ports (s := t) ?_ rfl
    rcases commandAnswer_ports htaken with hports | rfl
    · exact portsLaw_of_ports h hports
    · exact ⟨portLaw_softReset h.1, portLaw_softReset h.2⟩
  · exact portsLaw_of_ports h rfl

theorem writeMirrorCtrl_ports (code : Byte) (s : State) : (writeMirrorCtrl code s).ports = s.ports :=
  (setStatus_touches _ _ s).ports

/-- A byte written to any register keeps the law (R170). -/
theorem portsLaw_writeRegister (h : PortsLaw s) (a : RegAddr) (v : Byte) :
    PortsLaw (writeRegister a v s) := by
  have hstands {r : State} (hr : r.ports = s.ports) : PortsLaw r := portsLaw_of_ports h hr
  unfold writeRegister
  repeat' split
  · exact portsLaw_writeCmd h v
  · exact hstands rfl
  · exact hstands rfl
  · exact hstands rfl
  · exact hstands rfl
  · exact portsLaw_writeControl h v
  · exact hstands rfl
  · exact hstands rfl
  · exact hstands rfl
  · exact hstands rfl
  · exact hstands (writeMirrorCtrl_ports v s)
  · exact hstands rfl

/-! ## The statement -/

theorem portsLaw_hostWrite {a : RegAddr} {f : State → State} (h : PortsLaw s) (hf : PortsLaw (f s)) :
    PortsLaw (hostWrite a f s) := by
  rcases hostWrite_cases a f s with ⟨-, heq⟩ | heq
  · rw [heq]
    exact portsLaw_of_ports hf rfl
  · rw [heq]
    exact h

theorem portsLaw_hostRead {a : RegAddr} {f : State → State} (h : PortsLaw s) (hf : PortsLaw (f s)) :
    PortsLaw (hostRead a f s) := by
  rcases hostRead_cases a f s with ⟨-, heq⟩ | heq
  · rw [heq]
    exact portsLaw_of_ports hf rfl
  · rw [heq]
    exact h

theorem portsLaw_outsideReset {f : State → State} (h : PortsLaw s) (hf : PortsLaw (f s)) :
    PortsLaw (outsideReset f s) := by
  unfold outsideReset
  split
  · exact h
  · exact hf

theorem portsLaw_onlyIf {c : State → Bool} {f : State → State} (h : PortsLaw s)
    (hf : c s = true → PortsLaw (f s)) : PortsLaw (onlyIf c f s) := by
  unfold onlyIf
  split
  · next hc => exact hf hc
  · exact h

/-- An event that acts outside reset where its condition holds keeps the law where its effect does. -/
theorem portsLaw_event {c : State → Bool} {f : State → State} (h : PortsLaw s)
    (hf : c s = true → PortsLaw (f s)) : PortsLaw (outsideReset (onlyIf c f) s) :=
  portsLaw_outsideReset h (portsLaw_onlyIf h hf)

/-- A command of CMD is the byte of its code written there (R172). -/
theorem portsLaw_command {f : State → State} (h : PortsLaw s) (code : Byte) (hf : f s = writeCmd code s) :
    PortsLaw (hostWrite Reg.cmd f s) :=
  portsLaw_hostWrite h (hf ▸ portsLaw_writeCmd h code)

theorem portsLaw_hardwareReset (s : State) : PortsLaw (hardwareReset s) := by
  refine portsLaw_of_ports (s := State.reset) ?_ rfl
  have hreset : PortLaw ChainPort.reset :=
    ⟨⟨fun _ => nofun, fun _ => rfl⟩, nofun, by decide, by decide, by decide, by decide, by decide, nofun,
      nofun, nofun, by decide, nofun⟩
  exact ⟨hreset, hreset⟩

theorem portLaw_clearCounter (h : PortLaw y) (c : ByteCounter) : PortLaw (y.clearCounter c) := by
  have ⟨_, _, hcrcs, hsymbols, htimeouts, hlates, hstrays, _⟩ := h
  have hzero := Nat.zero_le 255
  cases c with
  | crcErrors => exact portLaw_counters h hzero hsymbols htimeouts hlates hstrays
  | symbolErrors => exact portLaw_counters h hcrcs hzero htimeouts hlates hstrays
  | lateReplies => exact portLaw_counters h hcrcs hsymbols htimeouts hzero hstrays
  | strayReplies => exact portLaw_counters h hcrcs hsymbols htimeouts hlates hzero

theorem portLaw_takeTimeouts (h : PortLaw y) : PortLaw y.takeTimeouts := by
  have ⟨_, _, hcrcs, hsymbols, _, hlates, hstrays, _⟩ := h
  exact portLaw_counters h hcrcs hsymbols (Nat.zero_le _) hlates hstrays

/-- Every command keeps the law. -/
theorem portsLaw_exec (c : Instr) (h : PortsLaw s) (hexec : exec c s = .next t) : PortsLaw t := by
  have hstands {r : State} (hr : r.ports = s.ports) : PortsLaw r := portsLaw_of_ports h hr
  have hcontrol (v : Byte) : PortsLaw (hostWrite Reg.control (writeControl v) s) :=
    portsLaw_hostWrite h (portsLaw_writeControl h v)
  have hmirror (v : Byte) : PortsLaw (hostWrite Reg.mirrorCtrl (writeMirrorCtrl v) s) :=
    portsLaw_hostWrite h (hstands (writeMirrorCtrl_ports v s))
  have hlink {p : Port} {l m : LinkState} (hl : l ≠ .up) (hm : m ≠ .up) :
      PortsLaw (outsideReset (onlyIf (fun t => t.linkIs p l) (moveLink p m)) s) :=
    portsLaw_event h fun hc => portsLaw_moveLink h (by rw [eq_of_beq hc]; exact hl) hm
  cases c <;> cases hexec
  case submit => exact portsLaw_command h 0x01 rfl
  case cancel => exact portsLaw_command h 0x02 rfl
  case popCompletion => exact portsLaw_command h 0x03 rfl
  case popNotice => exact portsLaw_command h 0x04 rfl
  case startCensus => exact portsLaw_command h 0x10 rfl
  case abortCensus => exact portsLaw_command h 0x11 rfl
  case acceptRoster => exact portsLaw_command h 0x12 rfl
  case clearAllChanged => exact portsLaw_command h 0x20 rfl
  case softReset => exact portsLaw_command h 0x5A rfl
  case unknownCommand code => exact portsLaw_command h code rfl
  case setWatch => exact hmirror _
  case clearWatch => exact hmirror _
  case clearChanged => exact hmirror _
  case mirrorCtrlUndefinedAction code => exact hmirror _
  case rosterSelWrite v => exact portsLaw_hostWrite h (hstands rfl)
  case mirrorSelWrite v => exact portsLaw_hostWrite h (hstands rfl)
  case causeClear w v => exact portsLaw_hostWrite h (hstands rfl)
  case enableWrite w v => exact portsLaw_hostWrite h (hstands rfl)
  case portEnableSet p v => exact hcontrol v
  case portEnableClear p v => exact hcontrol v
  case sweepEnableOn v => exact hcontrol v
  case sweepEnableOff v => exact hcontrol v
  case replyBaseLowWrite v => exact portsLaw_hostWrite h (hstands rfl)
  case replyBaseHighWrite v => exact portsLaw_hostWrite h (hstands rfl)
  case registerWrite a v => exact portsLaw_hostWrite h (portsLaw_writeRegister h a v)
  case counterRead p c =>
    exact portsLaw_hostRead h (portsLaw_setPort h (portLaw_clearCounter (portsLaw_port h p) c))
  case timeoutsLowRead p =>
    exact portsLaw_hostRead h (portsLaw_setPort h (portLaw_takeTimeouts (portsLaw_port h p)))
  case msecTimerLowRead => exact portsLaw_hostRead h (hstands rfl)
  case dupNoticesRead => exact portsLaw_hostRead h (hstands rfl)
  case csnFall =>
    unfold csnFalls
    split
    · split <;> exact hstands rfl
    · exact h
  case headerComplete v => exact portsLaw_event h fun _ => hstands rfl
  case csnRise =>
    unfold csnRises
    split
    · exact h
    · split <;> exact hstands rfl
  case resetnLow => exact portsLaw_of_ports (portsLaw_hardwareReset s) rfl
  case resetnHigh =>
    unfold leaveReset
    split
    · exact portsLaw_hardwareReset s
    · exact h
  case signalDetected p => exact hlink nofun nofun
  case idleRunComplete p =>
    refine portsLaw_event h fun hc => ?_
    rw [completeRun_aligning p s (eq_of_beq hc)]
    exact portsLaw_enterUp h
  case aligningSignalLoss p => exact hlink nofun nofun
  case signalAbsent p =>
    refine portsLaw_event h fun hc => portsLaw_loseReception (portsLaw_setPort h ?_)
    simp only [State.signalHere, State.isUp, Bool.and_eq_true, beq_iff_eq] at hc
    exact portLaw_lossTimer (portsLaw_port h p) hc.1 true
  case signalReturn p =>
    refine portsLaw_event h fun hc => portsLaw_setPort h ?_
    simp only [State.signalGone, State.isUp, Bool.and_eq_true, beq_iff_eq] at hc
    exact portLaw_lossTimer (portsLaw_port h p) hc.1 false
  case signalLossTimerExpiry p => exact portsLaw_event h fun _ => portsLaw_leaveUp h nofun nofun
  case arbiterHand p => exact portsLaw_event h fun hc => portsLaw_arbitrate h hc
  case frameSent p => exact portsLaw_outsideReset h (portsLaw_finishSending h)
  case replyWindowExpiry p => exact portsLaw_outsideReset h (portsLaw_windowRunsOut h)
  case frameReceived p r => exact portsLaw_event h fun _ => portsLaw_endReception h r
  case lateFrame p r => exact portsLaw_event h fun _ => portsLaw_endReception h r
  case censusClear => exact portsLaw_event h fun _ => hstands (makeClear_ports s)
  case releaseSettleExpiry => exact portsLaw_event h fun _ => hstands (endSettle_ports s)
  case censusStop => exact portsLaw_outsideReset h (hstands (makeStop_ports s))
  case backoffExpiry v => exact portsLaw_event h fun _ => hstands rfl
  case msecTick => exact portsLaw_outsideReset h (hstands rfl)
  case probingBegin p => exact portsLaw_event h fun _ => hstands (startProbing_touches p s).ports
  case startDelimiterReceived p =>
    exact portsLaw_event h fun _ => portsLaw_beginReception (portsLaw_endReception h _)
  case idleRunReset p => exact hlink nofun nofun

/-- Settles O55: every command keeps the law, and so do the read byte and the idle symbols of a step without one. -/
theorem stepKeepsPortsLaw : Obligations.StepKeepsPortsLaw := by
  unfold Obligations.StepKeepsPortsLaw
  intro s t h hstep
  unfold step at hstep
  split at hstep
  · cases hstep
    refine portsLaw_idleSymbols ?_
    rcases plainReadByte_cases s with heq | heq
    · rw [heq]
      exact portsLaw_of_ports h rfl
    · rw [heq]
      exact h
  · next rest _ =>
    have hrest : PortsLaw { s with pending := rest } := h
    exact portsLaw_exec _ hrest hstep

end Sys2Proof.Proofs
end

section
/-! How a frame of the exchange, or of none, and the reply window's end are counted, and what an exchange that fails
leaves of its port (R34 to R38, R41). -/

namespace Sys2Proof.Proofs

-- one theorem after the other: many proofs elaborated at once ask for a stack each
set_option Elab.async false

open Sys2Proof.Machine Sys2Proof.Safety

variable {s t : State} {p : Port} {x : Xfer} {y : ChainPort} {o : PortOutcome} {w : Nat} {r : Bool}
  {bytes : List Byte}

/-! ## An exchange that fails (R38) -/

/-- The exchange of `x` on the port ends in a failure, its owner told, and leaves the port as `y`, but IDLE. -/
def FailedEnd (p : Port) (x : Xfer) (y : ChainPort) (s t : State) : Prop :=
  TouchesOutcome s t ∧ t.port p = { y with exch := .idle } ∧ t.port p.other = s.port p.other
    ∧ FailureTold p x s t

theorem endExchange_failedEnd (ho : Fails o) (x : Xfer) (hlink : y.link = (s.port p).link) :
    FailedEnd p x y s (endExchange p x o (s.setPort p y)) := by
  have hlinks (q : Port) : ((s.ports.set p y).get q).link = (s.port q).link := by
    rcases Port.eq_or_other p q with rfl | rfl
    · rw [Pair.get_set_same, hlink]
    · rw [Pair.get_set_other]
      rfl
  have htold : FailureTold p x s
      { endExchange p x o (s.setPort p y) with ports := (endExchange p x o (s.setPort p y)).ports } :=
    endExchange_failureTold ho p x s _ hlinks
  refine ⟨(setPort_touches _ _ _).trans (endExchange_touches _ _ _ _), ?_, ?_, ?_⟩
  · rw [endExchange_fails_port ho, State.port_setPort_same]
  · rw [endExchange_fails_port_other ho, State.port_setPort_other]
  · generalize endExchange p x o (s.setPort p y) = t at htold ⊢
    exact htold

/-! ## The reply window (R36) -/

theorem exec_replyWindowExpiry (hreset : s.inReset = false) :
    exec (.replyWindowExpiry p) s = .next (windowRunsOut p s) := by
  simp [exec, execReplyWindowExpiry, outsideReset, hreset]

/-- TIMEOUT counts one in TIMEOUTS and fails the exchange (R36, R41). -/
theorem timeoutExchange_failedEnd (x : Xfer) (hlink : y.link = (s.port p).link) :
    FailedEnd p x { y with timeouts := satInc 65535 y.timeouts } s
      (timeoutExchange p x (s.setPort p y)) := by
  unfold timeoutExchange
  rw [countTimeout_setPort]
  exact endExchange_failedEnd (y := { y with timeouts := satInc 65535 y.timeouts }) (.inl rfl) x hlink

theorem windowRunsOut_receiving (hexch : (s.port p).exch = .awaiting x w false)
    (hrx : (s.port p).rx = .ofExchange) : windowRunsOut p s = s.setExch p (.awaiting x w true) := by
  simp [windowRunsOut, hexch, hrx]

theorem windowRunsOut_silent (hexch : (s.port p).exch = .awaiting x w false)
    (hrx : (s.port p).rx ≠ .ofExchange) : windowRunsOut p s = timeoutExchange p x s := by
  simp [windowRunsOut, hexch, hrx]

/-- Settles O37: the window's end ends the exchange, unless one of its frames is being received. -/
theorem replyWindowRunsOut : Obligations.ReplyWindowRunsOut := by
  unfold Obligations.ReplyWindowRunsOut
  intro s p x w hreset hexch
  rw [exec_replyWindowExpiry hreset]
  refine ⟨fun hrx => ?_, fun hrx => ?_⟩
  · rw [windowRunsOut_receiving hexch hrx]
    rfl
  · have hend : FailedEnd p x _ s (timeoutExchange p x (s.setPort p (s.port p))) :=
      timeoutExchange_failedEnd x rfl
    rw [setPort_self] at hend
    rw [windowRunsOut_silent hexch hrx]
    exact ⟨_, rfl, hend⟩

/-! ## A frame of the exchange (R34, R35) -/

theorem exec_frameReceived (hreset : s.inReset = false) (hrx : (s.port p).rx = .ofExchange)
    (hexch : (s.port p).exch = .awaiting x w r) (c : Reception) :
    exec (.frameReceived p c) s
      = .next (judgeInWindow p x r c (s.setPort p { s.port p with rx := .nothing })) := by
  simp [exec, execFrameReceived, outsideReset, onlyIf, State.receiving, endReception, State.setRx,
    hreset, hrx, hexch]

theorem judgeInWindow_symbolError (x : Xfer) (r : Bool) :
    judgeInWindow p x r .symbolError s = endExchange p x .symbolError (countSymbolError p s) := rfl

theorem judgeInWindow_damaged (hj : judge bytes = .damaged) (x : Xfer) (r : Bool) :
    judgeInWindow p x r (.content bytes) s = endExchange p x .crcError (countCrcError p s) := by
  simp [judgeInWindow, hj]

theorem judgeInWindow_headKind (hj : judge bytes = .headKind) (x : Xfer) (r : Bool) :
    judgeInWindow p x r (.content bytes) s = afterDiscard p x r s := by
  simp [judgeInWindow, hj]

theorem judgeInWindow_stray {f : Frame} (hj : judge bytes = .good f)
    (hstray : acceptsReply x.frame f = false) (r : Bool) :
    judgeInWindow p x r (.content bytes) s = afterDiscard p x r (countStray p s) := by
  simp [judgeInWindow, hj, hstray]

theorem afterDiscard_ranOut (p : Port) (x : Xfer) (s : State) :
    afterDiscard p x true s = timeoutExchange p x s := rfl

/-- Settles O40: the damage is counted and the exchange fails. -/
theorem damagedFrameEndsExchange : Obligations.DamagedFrameEndsExchange := by
  unfold Obligations.DamagedFrameEndsExchange
  intro s p x w r hreset hrx hexch
  refine ⟨?_, fun bytes hj => ?_⟩
  · rw [exec_frameReceived hreset hrx hexch, judgeInWindow_symbolError, countSymbolError_setPort]
    exact ⟨_, rfl, endExchange_failedEnd (.inr (.inr rfl)) x rfl⟩
  · rw [exec_frameReceived hreset hrx hexch, judgeInWindow_damaged hj, countCrcError_setPort]
    exact ⟨_, rfl, endExchange_failedEnd (.inr (.inl rfl)) x rfl⟩

/-! ## A frame of no exchange (R37) -/

theorem exec_lateFrame (hreset : s.inReset = false) (hrx : (s.port p).rx = .outside) (c : Reception) :
    exec (.lateFrame p c) s
      = .next (judgeOutside p c (s.setPort p { s.port p with rx := .nothing })) := by
  simp [exec, execLateFrame, outsideReset, onlyIf, State.receiving, endReception, State.setRx,
    hreset, hrx]

/-- Settles O39: an undeciding frame is counted, and ends the exchange whose window has run out. -/
theorem undecidingFramesCounted : Obligations.UndecidingFramesCounted := by
  unfold Obligations.UndecidingFramesCounted
  intro s p hreset q count
  refine ⟨fun x w hrx hexch => ⟨fun bytes hj => ?_, fun bytes f hj hstray => ?_⟩,
    fun x w bytes strays hrx hexch hbytes => ?_,
    fun hrx => ⟨?_, fun bytes hj => ?_, fun bytes hj => ?_, fun bytes f hj => ?_⟩⟩
  · rw [exec_frameReceived hreset hrx hexch, judgeInWindow_headKind hj]
    rfl
  · rw [exec_frameReceived hreset hrx hexch, judgeInWindow_stray hj hstray, countStray_setPort]
    rfl
  · rcases hbytes with ⟨hj, rfl⟩ | ⟨f, hj, hstray, rfl⟩
    · rw [exec_frameReceived hreset hrx hexch, judgeInWindow_headKind hj, afterDiscard_ranOut]
      exact ⟨_, rfl, timeoutExchange_failedEnd x rfl⟩
    · rw [exec_frameReceived hreset hrx hexch, judgeInWindow_stray hj hstray, countStray_setPort,
        afterDiscard_ranOut]
      exact ⟨_, rfl, timeoutExchange_failedEnd x rfl⟩
  · rw [exec_lateFrame hreset hrx, judgeOutside, countSymbolError_setPort]
    rfl
  · rw [exec_lateFrame hreset hrx]
    simp only [judgeOutside, hj]
    rw [countCrcError_setPort]
    rfl
  · rw [exec_lateFrame hreset hrx]
    simp only [judgeOutside, hj]
    rfl
  · rw [exec_lateFrame hreset hrx]
    simp only [judgeOutside, hj]
    rw [countLate_setPort]
    rfl

end Sys2Proof.Proofs
end

section
/-! The end delimiter of a frame: its reply window, or the end of an exchange without reply (R32, R33, R69, R121). -/

namespace Sys2Proof.Proofs

-- one theorem after the other: many proofs elaborated at once ask for a stack each
set_option Elab.async false

open Sys2Proof.Machine Sys2Proof.Safety

variable {s t u : State} {p : Port} {v : Tag}

/-! ## What settling leaves of a slot that does not wait (R107, R166) -/

/-- Every slot that neither is QUEUED nor waits to be tried again stands. -/
def OnlyWaitingMove (s t : State) : Prop := ∀ v, (s.slot v).waiting = false → t.slot v = s.slot v

theorem OnlyWaitingMove.refl (s : State) : OnlyWaitingMove s s := fun _ _ => rfl

theorem OnlyWaitingMove.trans (h : OnlyWaitingMove s t) (k : OnlyWaitingMove t u) :
    OnlyWaitingMove s u := fun v hv =>
  (k v (by rw [h v hv]; exact hv)).trans (h v hv)

theorem OnlyWaitingMove.of_slots (h : t.slots = s.slots) : OnlyWaitingMove s t :=
  fun v _ => State.slot_eq_of_slots h v

theorem frontStep_onlyWaiting (v : Tag) (s : State) : OnlyWaitingMove s (frontStep v s) := by
  intro w hw
  by_cases hwv : w = v
  · subst hwv
    simp [frontStep, hw]
  · exact frontStep_slot_ne v hwv s

theorem frontPass_onlyWaiting (s : State) : OnlyWaitingMove s (frontPass s) :=
  foldl_relates OnlyWaitingMove.refl OnlyWaitingMove.trans (fun s v => frontStep_onlyWaiting v s) _ s

theorem completeLost_onlyWaiting (c : Check) (v : Tag) (s : State) :
    OnlyWaitingMove s (completeLost c v s) := by
  intro w hw
  by_cases hwv : w = v
  · subst hwv
    unfold completeLost
    split <;> simp [hw]
  · exact completeLost_slot_ne hwv c s

theorem endCheck_onlyWaiting (x : Port) (s : State) : OnlyWaitingMove s (endCheck x s) := by
  have hrequests : OnlyWaitingMove s (endRequests x s) :=
    foldl_relates OnlyWaitingMove.refl OnlyWaitingMove.trans
      (fun s v => completeLost_onlyWaiting _ v s) _ s
  rw [endCheck_eq]
  exact OnlyWaitingMove.trans hrequests (OnlyWaitingMove.of_slots rfl)

theorem decideModules_onlyWaiting (x : Port) (n : Nat) (s : State) :
    OnlyWaitingMove s (decideModules x n s) := by
  induction n generalizing s with
  | zero => exact OnlyWaitingMove.refl s
  | succ n ih =>
    unfold decideModules
    simp only
    split
    · split
      · exact endCheck_onlyWaiting x s
      · split
        · exact OnlyWaitingMove.trans (OnlyWaitingMove.of_slots (loseModule_slots _ _ _)) (ih _)
        · exact OnlyWaitingMove.of_slots rfl
    · exact OnlyWaitingMove.refl s

theorem advanceProbing_onlyWaiting (x : Port) (s : State) : OnlyWaitingMove s (advanceProbing x s) := by
  unfold advanceProbing
  simp only
  split
  · split
    · refine OnlyWaitingMove.trans ?_ (endCheck_onlyWaiting x _)
      exact OnlyWaitingMove.of_slots rfl
    · split
      · exact OnlyWaitingMove.refl s
      · exact OnlyWaitingMove.of_slots rfl
  · exact OnlyWaitingMove.refl s

theorem advanceAndFront_onlyWaiting (x : Port) (s : State) : OnlyWaitingMove s (advanceAndFront x s) :=
  OnlyWaitingMove.trans
    (OnlyWaitingMove.trans (advanceProbing_onlyWaiting x s) (decideModules_onlyWaiting x _ _))
    (frontPass_onlyWaiting _)

theorem settleFrom_onlyWaiting (x : Port) (s : State) : OnlyWaitingMove s (settleFrom x s) :=
  OnlyWaitingMove.trans
    (OnlyWaitingMove.trans (frontPass_onlyWaiting s) (advanceAndFront_onlyWaiting x _))
    (advanceAndFront_onlyWaiting x.other _)

theorem settle_onlyWaiting (s : State) : OnlyWaitingMove s (settle s) := settleFrom_onlyWaiting .a s

/-! ## Settling in a census (R64, R107) -/

/-- In a census no slot stands at the front (R105). -/
theorem frontPass_of_census (h : s.censusRunning = true) : frontPass s = s :=
  List.foldl_fixed' (fun v => by simp [frontStep, State.atFront, h]) _

theorem settle_of_census (hcensus : s.censusRunning = true) (hidle : ∀ q, (s.checks.get q).state = .idle) :
    settle s = s := by
  have hcheck (q : Port) : advanceCheck q s = s := advanceCheck_rests (checkRests_of_idle (hidle q))
  rw [settle_eq, frontPass_of_census hcensus, hcheck, frontPass_of_census hcensus, hcheck,
    frontPass_of_census hcensus]

/-! ## A frame without reply has gone out (R32) -/

theorem exec_frameSent {y : Xfer} (hreset : s.inReset = false) (hexch : (s.port p).exch = .sending y) :
    exec (.frameSent p) s = .next (frameGone p y s) := by
  simp [exec, execFrameSent, outsideReset, finishSending, hreset, hexch]

theorem noReply_iff (k : Kind) : k.noReply = true ↔ k = .release ∨ k = .bcastWrite := by
  cases k <;> decide

theorem noReply_sent : NoReply .sent := nofun

/-- The RELEASE of a port is recorded, and after the last one the settle starts (R69, R78). -/
theorem endExchange_release {y : Xfer} (howner : y.owner = .census) (hcensus : s.census.state = .releasing)
    (hidle : ∀ q, (s.checks.get q).state = .idle) :
    endExchange p y .sent s = releaseSent p (s.setExch p .idle) := by
  have hrelease : applyOutcome p y .sent (s.setExch p .idle) = releaseSent p (s.setExch p .idle) := by
    have hcensus' : (s.setExch p .idle).census.state = .releasing := hcensus
    simp [applyOutcome, howner, censusOutcome, hcensus']
  unfold endExchange
  rw [hrelease]
  refine settle_of_census ?_ hidle
  have hrunning : (releaseSent p (s.setExch p .idle)).census.state = .releasing := hcensus
  simp [State.censusRunning, hrunning]

theorem releaseSent_eq (p : Port) (s : State) :
    releaseSent p (s.setExch p .idle) =
      { s with
        census := { s.census with
          released := s.census.released.set p true
          settleTimer := decide (s.census.stopPending = none)
            && (!s.census.ports.a || (s.census.released.set p true).a)
            && (!s.census.ports.b || (s.census.released.set p true).b) }
        ports := s.ports.set p { s.port p with exch := .idle } } := by
  have hstop : decide (s.census.stopPending = none) = s.census.stopPending.isNone := by
    cases s.census.stopPending <;> rfl
  rw [hstop, Bool.and_assoc]
  rfl

/-! ## The broadcast frame (R94, R121) -/

/-- A broadcast's slot after its frame has gone out on a port (R121). -/
def bcastCarried (p : Port) (y : Slot) : Slot :=
  { y with bcastPorts := y.bcastPorts.set p false, bcastSent := true, history := .sentNoReply }

theorem endExchange_bcast {y : Xfer} (howner : y.owner = .bcast v) :
    endExchange p y .sent s
      = settle (bcastMaybeDone v ((s.setExch p .idle).setSlot v (bcastCarried p (s.slot v)))) := by
  unfold endExchange applyOutcome
  rw [howner]
  rfl

/-- A port that has left a set leaves the other alone to be in it. -/
theorem or_of_left {ps : Pair Bool} (h : ps.get p = false) : (ps.a || ps.b) = ps.get p.other := by
  cases p
  · exact (congrArg (· || ps.b) h).trans (Bool.false_or _)
  · exact (congrArg (ps.a || ·) h).trans (Bool.or_false _)

/-- While another port is still to carry it, the broadcast goes on. -/
theorem bcastMaybeDone_goesOn {z : Slot} (hleft : z.bcastPorts.get p = false)
    (hother : z.bcastPorts.get p.other = true) : bcastMaybeDone v (s.setSlot v z) = s.setSlot v z := by
  have hcarry : (z.bcastPorts.a || z.bcastPorts.b) = true := (or_of_left hleft).trans hother
  unfold bcastMaybeDone
  simp only [State.slot_setSlot_same, hcarry, if_true]

/-- With no port left the broadcast is completed by its status. -/
theorem bcastMaybeDone_done {z : Slot} (hleft : z.bcastPorts.get p = false)
    (hother : z.bcastPorts.get p.other = false) :
    bcastMaybeDone v (s.setSlot v z) = finish v (bcastStatus s z) (s.setSlot v z) := by
  have hcarry : (z.bcastPorts.a || z.bcastPorts.b) = false := (or_of_left hleft).trans hother
  unfold bcastMaybeDone
  simp only [State.slot_setSlot_same, hcarry]
  rfl

theorem bcastStatus_eq (s : State) (y : Slot) :
    bcastStatus s y = if y.cancelRequested = true then .cancelled
      else if s.census.state = .idle then .ok else .rosterChanged := by
  unfold bcastStatus State.censusRunning
  cases y.cancelRequested <;> cases s.census.state <;> rfl

/-- With no port left the broadcast is DONE, its effect by its history (R94, R121). -/
theorem bcastDone_completes {z : Slot} (st : Status) (hactive : z.state = .active) :
    Completes v (doneWith z st (effectByHistory z.kindCode z.history) false [] s.epoch) s
      (finish v st (s.setSlot v z)) := by
  have hslot : (s.setSlot v z).slot v = z := State.slot_setSlot_same _ _ _
  have hu : ((s.setSlot v z).slot v).unfinished = true := by
    rw [hslot]
    exact unfinished_of_active hactive
  refine ⟨?_, [], complete_queue v st false [] hu⟩
  unfold finish
  rw [complete_slot v st false [] hu, if_pos rfl, doneSlot_eq, hslot]
  rfl

theorem bcastCarried_left (p : Port) (y : Slot) : (bcastCarried p y).bcastPorts.get p = false :=
  Pair.get_set_same _ _ _

theorem bcastCarried_other (p : Port) (y : Slot) :
    (bcastCarried p y).bcastPorts.get p.other = y.bcastPorts.get p.other := Pair.get_set_other _ _ _

/-- Settles O36: the frame's kind decides between a window and the end, the owner what the end does. -/
theorem frameSentOpensWindowOrEnds : Obligations.FrameSentOpensWindowOrEnds := by
  unfold Obligations.FrameSentOpensWindowOrEnds
  intro s p x hreset hexch
  rw [exec_frameSent hreset hexch]
  refine ⟨fun hrelease hbcast => ?_, fun hkind => ⟨_, rfl, frameGone_touches p x s, ?_⟩⟩
  · have hreply : ¬x.frame.kind.noReply = true := by
      rw [noReply_iff]
      exact fun h => h.elim hrelease hbcast
    rw [frameGone, if_neg hreply]
    rfl
  · rw [frameGone, if_pos ((noReply_iff _).2 hkind)]
    refine ⟨endExchange_noReply_port noReply_sent p x s, endExchange_port_other p x _ s,
      fun howner hcensus hidle => ?_, fun tag howner hactive hcode => ⟨fun hother => ?_, fun hother => ?_⟩⟩
    · rw [endExchange_release howner hcensus hidle]
      exact releaseSent_eq p s
    · have hslot : ((s.setExch p .idle).setSlot tag (bcastCarried p (s.slot tag))).slot tag
          = bcastCarried p (s.slot tag) := State.slot_setSlot_same _ _ _
      have hactive' : (bcastCarried p (s.slot tag)).state = .active := hactive
      rw [endExchange_bcast howner,
        bcastMaybeDone_goesOn (bcastCarried_left p _) ((bcastCarried_other p _).trans hother),
        settle_onlyWaiting _ tag (by rw [hslot, Slot.waiting, hactive']; rfl), hslot]
      rfl
    · have heffect : effectByHistory (s.slot tag).kindCode .sentNoReply = .unknown := by
        rw [hcode]
        rfl
      have hdone := bcastDone_completes (s := s.setExch p .idle) (v := tag)
        (z := bcastCarried p (s.slot tag)) (bcastStatus s (s.slot tag)) hactive
      rw [endExchange_bcast howner,
        bcastMaybeDone_done (bcastCarried_left p _) ((bcastCarried_other p _).trans hother),
        ← bcastStatus_eq, ← heffect]
      exact completes_of_moves tag hdone rfl (settle_moves _)

end Sys2Proof.Proofs
end

section
/-! Idle symbols, the link and the reads with an effect: a step with no command waiting, what signal does to a port,
and what a read byte shows and clears (R26 to R29, R42, R149, R169 to R171). -/

namespace Sys2Proof.Proofs

-- one theorem after the other: many proofs elaborated at once ask for a stack each
set_option Elab.async false

open Sys2Proof.Machine Sys2Proof.Safety

variable {s : State} {p : Port} {a : RegAddr}

/-! ## One idle symbol on each line (R27, R29) -/

theorem hearIdle_eq (p : Port) (s : State) :
    hearIdle p s = { s with
      ports := s.ports.set p (heardIdle (s.port p))
      sticky := { s.sticky with portChange := s.sticky.portChange || lastOfRun (s.port p) } } := by
  by_cases hlink : (s.port p).link = .aligning
  · by_cases hrun : (s.port p).idleRun < 63
    · have hlast : lastOfRun (s.port p) = false := by simp [lastOfRun, hrun]
      rw [hearIdle_counts p s hlink hrun, heardIdle, hlast, Bool.or_false, if_neg (by simp), if_pos hlink]
      rfl
    · have hlast : lastOfRun (s.port p) = true := by simp [lastOfRun, hlink, Nat.le_of_not_lt hrun]
      rw [hearIdle_last p s hlink (Nat.le_of_not_lt hrun), heardIdle, hlast, Bool.or_true, if_pos rfl]
      rfl
  · have hlast : lastOfRun (s.port p) = false := by simp [lastOfRun, hlink]
    rw [hearIdle_elsewhere p s hlink, heardIdle, hlast, Bool.or_false, if_neg (by simp), if_neg hlink]
    exact (setPort_self s p).symm

/-- Outside reset each line carries its symbol. -/
theorem idleSymbols_eq (h : s.inReset = false) : idleSymbols s = linesIdle s := by
  have hboth : idleSymbols s = hearIdle .b (hearIdle .a s) := if_neg (by simp [h])
  rw [hboth, hearIdle_eq .a, hearIdle_eq .b]
  rfl

theorem linesIdle_port (p : Port) (s : State) : (linesIdle s).port p = heardIdle (s.port p) := by
  cases p <;> rfl

/-- The idle symbol that takes a port to UP raises PORT_CHANGE (R29). -/
theorem linesIdle_portChange (h : lastOfRun (s.port p) = true) : (linesIdle s).sticky.portChange = true := by
  cases p
  · show (_ || lastOfRun (s.port .a) || _) = true
    simp [h]
  · show (_ || _ || lastOfRun (s.port .b)) = true
    simp [h]

/-! ## A step with no command waiting (R170, logs 1, 5, 24) -/

theorem mem_effectReads_iff (a : RegAddr) : a ∈ effectReads ↔ a ∈ Reg.readEffects :=
  have ⟨hleft, hright⟩ : effectReads ⊆ Reg.readEffects ∧ Reg.readEffects ⊆ effectReads := by decide +kernel
  ⟨fun h => hleft h, fun h => hright h⟩

theorem step_waitingNone (h : s.pending = []) : step s = .next (idleSymbols (plainReadByte s)) := by
  simp [step, h]

/-- No read byte is taken in reset, outside a read, or at a register with a side effect. -/
theorem plainReadByte_stands (h : s.inReset = true ∨ s.spi ≠ .data true ∨ s.addrCounter ∈ effectReads) :
    plainReadByte s = s := by
  rw [mem_effectReads_iff] at h
  rcases h with h | h | h <;> simp [plainReadByte, State.readOpen, h]

/-- In a read, at a register without side effect, the next byte is taken (R170, log 5). -/
theorem plainReadByte_reads (h : ReadingAt s a) (hplain : a ∉ effectReads) :
    plainReadByte s = { s with addrCounter := a + 1, sdoByte := s.regRead a } := by
  rw [mem_effectReads_iff] at hplain
  obtain ⟨hreset, hspi, rfl⟩ := h
  have hopen : (s.readOpen && !Reg.readEffects.contains s.addrCounter) = true := by
    simp [State.readOpen, hreset, hspi, hplain]
  rw [plainReadByte, if_pos hopen]
  rfl

/-- A read byte leaves ports and pins. -/
theorem plainReadByte_ports (s : State) :
    (plainReadByte s).ports = s.ports ∧ (plainReadByte s).inReset = s.inReset := by
  rcases plainReadByte_cases s with h | h <;> rw [h] <;> exact ⟨rfl, rfl⟩

/-- Settles O1: the front command, or one idle symbol on each line. -/
theorem stepRunsFrontCommand : Obligations.StepRunsFrontCommand := by
  unfold Obligations.StepRunsFrontCommand
  intro c rest s
  refine ⟨rfl, fun hreset => ?_, fun hreset hplain => ?_⟩
  · have hstands := plainReadByte_stands (s := { s with pending := [] }) (.inl hreset)
    have hidles : idleSymbols { s with pending := [] } = { s with pending := [] } := if_pos hreset
    rw [step_waitingNone rfl, hstands, hidles]
  · have hstands := plainReadByte_stands (s := { s with pending := [] }) (.inr hplain)
    have hidles := idleSymbols_eq (s := { s with pending := [] }) hreset
    rw [step_waitingNone rfl, hstands, hidles]

/-! ## The link (R26 to R29, R31) -/

/-- An event at a port outside reset acts where its condition holds. -/
theorem event_acts {c : State → Bool} {f : State → State} (hreset : s.inReset = false) (hc : c s = true) :
    outsideReset (onlyIf c f) s = f s := by
  simp [outsideReset, onlyIf, hreset, hc]

theorem linkIs_of_link {l : LinkState} (h : (s.port p).link = l) : s.linkIs p l = true := by
  simp [State.linkIs, h]

/-- A link moved to where it is starts its idle run again (R27). -/
theorem moveLink_same {l : LinkState} (h : (s.port p).link = l) :
    moveLink p l s = { s with ports := s.ports.set p { s.port p with idleRun := 0 } } := by
  subst h
  rfl

/-- The loss of signal ends a frame of no exchange, unjudged (R31, log 14). -/
theorem loseSignal_eq (h : (s.port p).rx ≠ .ofExchange) :
    loseSignal p s
      = { s with ports := s.ports.set p { s.port p with lossTimer := true, rx := .nothing } } := by
  have hrx : ((setLossTimer p true s).port p).rx ≠ .ofExchange := by
    rw [setLossTimer, State.port_setPort_same]
    exact h
  have hlost : loseReception p (setLossTimer p true s) = (setLossTimer p true s).setRx p .nothing := by
    unfold loseReception
    split
    · next hof _ => exact absurd hof hrx
    · rfl
  unfold loseSignal
  rw [hlost, setLossTimer, setRx_setPort]
  rfl

/-- Settles O28: each row of the link by its condition, and the idle run by its symbols. -/
theorem linkFollowsSignal : Obligations.LinkFollowsSignal := by
  unfold Obligations.LinkFollowsSignal
  intro s p hreset
  refine ⟨fun hlink => ?_, fun hlink => ⟨?_, ?_, ?_, fun hpending => ?_⟩, fun hup htimer hrx => ?_,
    fun hup htimer => ?_⟩
  · exact congrArg Host.Outcome.next (event_acts hreset (linkIs_of_link hlink))
  · have hrun := (event_acts (c := fun t => t.linkIs p .aligning) hreset (linkIs_of_link hlink)).trans
      (moveLink_same hlink)
    exact congrArg Host.Outcome.next hrun
  · exact congrArg Host.Outcome.next (event_acts hreset (linkIs_of_link hlink))
  · have hup := (event_acts (c := fun t => t.linkIs p .aligning) hreset (linkIs_of_link hlink)).trans
      (completeRun_aligning p s hlink)
    exact congrArg Host.Outcome.next hup
  · obtain ⟨hports, hreset'⟩ := plainReadByte_ports s
    have hport : (plainReadByte s).port p = s.port p := congrArg (Pair.get · p) hports
    refine ⟨_, step_waitingNone hpending, ?_⟩
    rw [idleSymbols_eq (hreset'.trans hreset)]
    refine ⟨fun hrun => ?_, fun hrun => ?_⟩
    · have hlast : lastOfRun (s.port p) = false := by simp [lastOfRun, hrun]
      rw [linesIdle_port, hport, heardIdle, hlast, if_neg (by simp), if_pos hlink]
    · have hlast : lastOfRun (s.port p) = true := by simp [lastOfRun, hlink, hrun]
      refine ⟨linesIdle_portChange (by rw [hport]; exact hlast), ?_⟩
      rw [linesIdle_port, hport, heardIdle, if_pos hlast]
  · have hhere : s.signalHere p = true := by simp [State.signalHere, State.isUp, hup, htimer]
    exact congrArg Host.Outcome.next ((event_acts hreset hhere).trans (loseSignal_eq hrx))
  · have hgone : s.signalGone p = true := by simp [State.signalGone, State.isUp, hup, htimer]
    exact congrArg Host.Outcome.next (event_acts hreset hgone)

/-! ## Reads with an effect (R42, R149, R171) -/

/-- The value of a one-byte counter of a port (R41). -/
def counterValue (y : ChainPort) : ByteCounter → Nat
  | .crcErrors => y.crcErrors
  | .symbolErrors => y.symbolErrors
  | .lateReplies => y.lateReplies
  | .strayReplies => y.strayReplies

theorem regRead_counter (s : State) (p : Port) (c : ByteCounter) :
    s.regRead (Reg.counter p c) = BitVec.ofNat 8 (counterValue (s.port p) c) := by
  cases p <;> cases c <;> rfl

theorem regRead_timeoutsLow (s : State) (p : Port) :
    s.regRead (Reg.timeoutsLow p) = BitVec.ofNat 8 (s.port p).timeouts := by
  cases p <;> rfl

theorem regRead_msecTimerLow (s : State) :
    s.regRead Reg.msecTimerLow = BitVec.ofNat 8 s.msecTimer.toNat := by
  have hlow : s.regRead Reg.msecTimerLow = s.msecTimer.extractLsb' 0 8 := rfl
  rw [hlow]
  exact BitVec.eq_of_toNat_eq (by simp)

/-- The high byte of a 16-bit count (R171). -/
theorem highByte_eq (x : BitVec 16) : x.extractLsb' 8 8 = BitVec.ofNat 8 (x.toNat / 256) :=
  BitVec.eq_of_toNat_eq (by simp [Nat.shiftRight_eq_div_pow])

/-- A row does nothing where the address counter is elsewhere (log 4). -/
theorem hostRead_elsewhere {b : RegAddr} (f : State → State) (h : ReadingAt s a) (hne : a ≠ b) :
    hostRead b f s = s := by
  obtain ⟨-, -, rfl⟩ := h
  have hat : ¬s.readAt b = true := by simp [State.readAt, hne]
  exact if_neg hat

/-- A one-byte counter goes to SDO and is cleared (R42). -/
theorem exec_counterRead {c : ByteCounter} {next : RegAddr} (hnext : Reg.counter p c + 1 = next)
    (h : ReadingAt s (Reg.counter p c)) :
    exec (.counterRead p c) s = .next { s with
      addrCounter := next, sdoByte := BitVec.ofNat 8 (counterValue (s.port p) c)
      ports := s.ports.set p ((s.port p).clearCounter c) } := by
  rw [← hnext, ← regRead_counter]
  exact congrArg Host.Outcome.next (hostRead_reading _ h)

theorem exec_counterRead_elsewhere {c : ByteCounter} (h : ReadingAt s a) (hne : a ≠ Reg.counter p c) :
    exec (.counterRead p c) s = .next s :=
  congrArg Host.Outcome.next (hostRead_elsewhere _ h hne)

/-- The TIMEOUTS low byte clears the counter and holds its high byte (R42, R171). -/
theorem exec_timeoutsLowRead (h : ReadingAt s (Reg.timeoutsLow p)) :
    exec (.timeoutsLowRead p) s = .next { s with
      addrCounter := Reg.timeoutsLow p + 1, sdoByte := BitVec.ofNat 8 (s.port p).timeouts
      ports := s.ports.set p { s.port p with
        timeouts := 0, timeoutsHold := BitVec.ofNat 8 ((s.port p).timeouts / 256) } } := by
  rw [← regRead_timeoutsLow]
  exact congrArg Host.Outcome.next (hostRead_reading _ h)

/-- The MSEC_TIMER low byte holds the high byte of the same count (R171). -/
theorem exec_msecTimerLowRead (h : ReadingAt s 0x0030) :
    exec .msecTimerLowRead s = .next { s with
      addrCounter := 0x0031, sdoByte := BitVec.ofNat 8 s.msecTimer.toNat
      msecHold := BitVec.ofNat 8 (s.msecTimer.toNat / 256) } := by
  rw [← regRead_msecTimerLow, ← highByte_eq]
  exact congrArg Host.Outcome.next (hostRead_reading _ h)

/-- Settles O24: the rows by their registers, and the byte with no row. -/
theorem readsWithEffect : Obligations.ReadsWithEffect := by
  unfold Obligations.ReadsWithEffect
  intro s p base
  have hbase : base = Reg.portState p := by cases p <;> rfl
  clear_value base
  subst hbase
  refine ⟨exec_counterRead (c := .crcErrors) ?_, exec_counterRead (c := .symbolErrors) ?_,
    exec_counterRead (c := .lateReplies) ?_, exec_counterRead (c := .strayReplies) ?_, fun h => ?_,
    exec_msecTimerLowRead, fun h => congrArg Host.Outcome.next (hostRead_reading _ h), fun a h =>
      ⟨fun hne => exec_counterRead_elsewhere h hne, fun hne => exec_counterRead_elsewhere h hne,
        fun hne => exec_counterRead_elsewhere h hne, fun hne => exec_counterRead_elsewhere h hne,
        fun hne => congrArg Host.Outcome.next (hostRead_elsewhere _ h hne),
        fun hne => congrArg Host.Outcome.next (hostRead_elsewhere _ h hne),
        fun hne => congrArg Host.Outcome.next (hostRead_elsewhere _ h hne), fun hplain hpending => ?_⟩⟩
  · cases p <;> rfl
  · cases p <;> rfl
  · cases p <;> rfl
  · cases p <;> rfl
  · have hnext : Reg.portState p + 4 = Reg.timeoutsLow p + 1 := by cases p <;> rfl
    rw [hnext]
    exact exec_timeoutsLowRead h
  · have ⟨hreset, _, _⟩ := h
    have hidles := idleSymbols_eq (s := { s with addrCounter := a + 1, sdoByte := s.regRead a }) hreset
    rw [step_waitingNone hpending, plainReadByte_reads h hplain, hidles]

end Sys2Proof.Proofs
end

section
/-! SOFT_RESET, and a CONTROL byte that takes no port out of UP (R25, R173, R174, R182). -/

namespace Sys2Proof.Proofs

-- one theorem after the other: many proofs elaborated at once ask for a stack each
set_option Elab.async false

open Sys2Proof.Machine Sys2Proof.Safety

variable {s : State} {p q : Port} {v : Byte}

/-! ## SOFT_RESET (R173) -/

/-- SOFT_RESET leaves of a state what stands outside the blocks' starting values. -/
theorem softReset_eq (s : State) :
    softReset s =
      { State.reset with
        inReset := s.inReset, csnHigh := s.csnHigh, spi := s.spi, addrCounter := s.addrCounter
        sdoByte := s.sdoByte, cmd := s.cmd, cmdResult := s.cmdResult, params := s.params
        replyBaseHold := BitVec.ofNat 8 s.params.replyBase, enables := s.enables
        epoch := s.epoch + 1, ports := (softReset s).ports, freeCount := s.freeCount
        pending := s.pending } := by
  unfold softReset softResetHost softResetChain softResetMirror softResetRequests softResetRoster State.reset
  rfl

theorem softReset_port (p : Port) (s : State) : (softReset s).port p = softResetPort (s.port p) := by
  cases p <;> rfl

/-- Settles O14: the command is taken, and each block answers for its values. -/
theorem softResetValues : Obligations.SoftResetValues := by
  unfold Obligations.SoftResetValues
  intro s h
  have ⟨hreset, _, _⟩ := h
  refine ⟨_, (exec_softReset h).trans (congrArg Host.Outcome.next (answerCommand_taken _ _ _)), ?_, fun p => ?_⟩
  · rw [softReset_eq s, hreset]
    rfl
  · exact (softReset_port p s).trans rfl

/-! ## CONTROL (R25, R174, R182) -/

/-- A port after a CONTROL byte that leaves it in UP or does not find it there (R25). -/
def portAfterControl (v : Byte) (p : Port) (y : ChainPort) : ChainPort :=
  if controlPort v p = true ∧ y.link = .disabled then { y with link := .down }
  else if controlPort v p = false ∧ y.link ≠ .disabled then { y with link := .disabled, idleRun := 0 }
  else y

/-- A port enable that does not take its port out of UP moves that port only, and raises nothing (R25). -/
theorem writePortEnable_eq (h : (s.port p).link = .up → controlPort v p = true) :
    writePortEnable p (controlPort v p) s = s.setPort p (portAfterControl v p (s.port p)) := by
  unfold writePortEnable
  split
  · next hon =>
    unfold enablePort
    split
    · next hdisabled => simp [portAfterControl, hon, hdisabled]
    · next hlink => simp [portAfterControl, hon, hlink, setPort_self]
  · next hoff =>
    unfold disablePort
    split
    · next hup => exact absurd (h hup) hoff
    · next hdisabled => simp [portAfterControl, hoff, hdisabled, setPort_self]
    · next hdisabled =>
      have hlink : (s.port p).link ≠ .disabled := hdisabled
      simp [portAfterControl, hoff, hlink]

/-- A CONTROL byte that takes no port out of UP (R25, R174). -/
theorem writeControl_eq (h : ∀ q, (s.port q).link = .up → controlPort v q = true) :
    writeControl v s =
      { s with
        ports := { a := portAfterControl v .a (s.port .a), b := portAfterControl v .b (s.port .b) }
        params := { s.params with sweepEnable := v.getLsbD 0, expectEnable := v.getLsbD 3 } } := by
  have ha := writePortEnable_eq (s := writeControlParams v s) (h .a)
  unfold writeControl
  rw [ha]
  have hb := writePortEnable_eq (v := v) (p := .b)
    (s := (writeControlParams v s).setPort .a (portAfterControl v .a ((writeControlParams v s).port .a)))
    (h .b)
  rw [hb]
  rfl

/-- Settles O19: each of the four commands is a write of CONTROL. -/
theorem controlByteTakesEffect : Obligations.ControlByteTakesEffect := by
  unfold Obligations.ControlByteTakesEffect
  intro s p v c hat hup hc moved
  have hexec : exec c s = .next (counterPast 0x0020 (writeControl v s)) := by
    rcases hc with ⟨rfl, -⟩ | ⟨rfl, -⟩ | ⟨rfl, -⟩ | ⟨rfl, -⟩
    · exact exec_portEnableSet hat
    · exact exec_portEnableClear hat
    · exact exec_sweepEnableOn hat
    · exact exec_sweepEnableOff hat
  rw [hexec, writeControl_eq hup]
  rfl

end Sys2Proof.Proofs
end

section
/-! What follows in the step in which a port leaves UP: the fate of slots, entries and mirror entries while broadcasts
lose the port, the front checks are made and the reach checks decide (R29, R107, R121, R162 to R166). -/

namespace Sys2Proof.Proofs

-- one theorem after the other: many proofs elaborated at once ask for a stack each
set_option Elab.async false

open Sys2Proof.Machine Sys2Proof.Safety

variable {s t u : State} {x y : Port} {a b : Nat} {v : Tag} {e f g : RosterEntry}

/-! ## The fate of an entry -/

/-- An entry stands but for its toggle, or was ACTIVE or SUSPECT and is LOST (R50, R91). -/
def EntryFate (e f : RosterEntry) : Prop :=
  f = { e with toggle := f.toggle } ∨ (e.live = true ∧ f = { lostEntry e with toggle := f.toggle })

/-- What a LOST entry shows of it (R50). -/
def Gone (e : RosterEntry) : Prop := e.state = .lost ∧ e.route = none ∧ e.lostMark = true

theorem EntryFate.refl (e : RosterEntry) : EntryFate e e := .inl rfl

/-- A LOST entry stands. -/
theorem EntryFate.of_lost (h : EntryFate e f) (hlost : e.state = .lost) :
    f = { e with toggle := f.toggle } :=
  h.resolve_right fun ⟨hlive, _⟩ => by simp [RosterEntry.live, hlost] at hlive

theorem EntryFate.trans (h : EntryFate e f) (k : EntryFate f g) : EntryFate e g := by
  rcases h with h | ⟨hlive, h⟩
  · rcases k with k | ⟨hlive, k⟩
    · refine .inl ?_
      rw [k, h]
    · refine .inr ⟨?_, ?_⟩
      · rw [h] at hlive
        exact hlive
      · rw [k, h]
        rfl
  · have hlost : f.state = .lost := by
      rw [h]
      rfl
    refine .inr ⟨hlive, ?_⟩
    rw [k.of_lost hlost, h]

theorem EntryFate.gone (h : EntryFate e f) (hgone : Gone e) : Gone f := by
  obtain ⟨hstate, hroute, hmark⟩ := hgone
  rw [h.of_lost hstate]
  exact ⟨hstate, hroute, hmark⟩

/-- An entry ACTIVE or SUSPECT stays so or is LOST. -/
theorem EntryFate.live_or_gone (h : EntryFate e f) (hlive : e.live = true) : f.live = true ∨ Gone f := by
  rcases h with h | ⟨-, h⟩
  · refine .inl ?_
    rw [h]
    exact hlive
  · refine .inr ?_
    rw [h]
    exact ⟨rfl, rfl, rfl⟩

/-! ## What follows a change -/

/-- What the broadcasts, the front checks and the reach checks leave of a state: slots, queue and entries move, an
entry stands or is LOST, the mirror entry of a module that is not LOST stands, PORT_CHANGE stays pending. -/
structure Aftermath (s t : State) : Prop where
  moves : Moves s t
  fate : ∀ a, EntryFate (s.entry a) (t.entry a)
  status : ∀ a, (t.entry a).state ≠ .lost → t.status a = s.status a
  portChange : s.sticky.portChange = true → t.sticky.portChange = true

theorem Aftermath.refl (s : State) : Aftermath s s :=
  ⟨.refl s, fun _ => .refl _, fun _ _ => rfl, id⟩

theorem Aftermath.trans (h : Aftermath s t) (k : Aftermath t u) : Aftermath s u where
  moves := h.moves.trans k.moves
  fate a := (h.fate a).trans (k.fate a)
  status a hno := by
    refine (k.status a hno).trans (h.status a fun hlost => hno ?_)
    rw [(k.fate a).of_lost hlost]
    exact hlost
  portChange hs := k.portChange (h.portChange hs)

theorem Aftermath.of_requests (h : RequestMoves s t) : Aftermath s t where
  moves := h.moves
  fate a := .inl (h.entry a)
  status a _ := State.status_eq_of_mirror h.touches.mirror a
  portChange hs := by
    rw [h.touches.sticky]
    exact hs

/-- A change of neither slots, queue, roster nor mirror that takes no cause away. -/
theorem Aftermath.of_eq (hslots : t.slots = s.slots) (hqueue : t.completionQueue = s.completionQueue)
    (hroster : t.roster = s.roster) (hmirror : t.mirror = s.mirror)
    (hcause : s.sticky.portChange = true → t.sticky.portChange = true) : Aftermath s t where
  moves := .of_eq hslots hqueue hroster hmirror
  fate a := by
    rw [State.entry_eq_of_roster hroster]
    exact .refl _
  status a _ := State.status_eq_of_mirror hmirror a
  portChange := hcause

theorem setCheck_aftermath (x : Port) (c : Check) (s : State) : Aftermath s (s.setCheck x c) :=
  .of_eq rfl rfl rfl rfl id

theorem frontPass_aftermath (s : State) : Aftermath s (frontPass s) :=
  .of_requests (frontPass_moves s).requests

/-- Losing a module adds MODULE_LOST and MODULE_STALE at most. -/
theorem loseModule_portChange (x : Port) (a : Nat) (s : State) :
    (loseModule x a s).sticky.portChange = s.sticky.portChange := by
  unfold loseModule
  simp only
  split
  · rw [markStatusLost_eq]
    simp [State.raiseModuleLost, State.setCheck]
  · rfl

theorem loseModule_aftermath (x : Port) (a : Nat) (s : State) : Aftermath s (loseModule x a s) where
  moves := loseModule_moves x a s
  fate b := by
    rw [loseModule_entry]
    split
    · next h => exact .inr ⟨by rw [h.1]; exact h.2, rfl⟩
    · exact .refl _
  status b hno := by
    have hb : ¬(b = a ∧ (s.entry a).live = true) := fun h => by
      rw [loseModule_entry, if_pos h] at hno
      exact hno rfl
    rw [loseModule_status, if_neg hb]
  portChange hs := (loseModule_portChange x a s).trans hs

theorem loseAll_aftermath (x : Port) (l : List Nat) (s : State) : Aftermath s (loseAll x l s) :=
  foldl_relates .refl .trans (fun s a => loseModule_aftermath x a s) l s

theorem endCheck_aftermath (x : Port) (s : State) : Aftermath s (endCheck x s) := by
  rw [endCheck_eq]
  refine .trans (.of_requests (endRequests_moves x s)) (.of_eq rfl rfl rfl rfl fun hs => ?_)
  rw [(endRequests_moves x s).touches.sticky] at hs
  exact hs

theorem decideModules_aftermath (x : Port) (n : Nat) (s : State) : Aftermath s (decideModules x n s) := by
  induction n generalizing s with
  | zero => exact .refl s
  | succ n ih =>
    unfold decideModules
    simp only
    split
    · split
      · exact endCheck_aftermath x s
      · split
        · exact (loseModule_aftermath _ _ _).trans (ih _)
        · exact setCheck_aftermath _ _ _
    · exact .refl s

theorem advanceProbing_aftermath (x : Port) (s : State) : Aftermath s (advanceProbing x s) := by
  unfold advanceProbing
  simp only
  split
  · split
    · exact (setCheck_aftermath _ _ _).trans (endCheck_aftermath _ _)
    · split
      · exact .refl s
      · exact setCheck_aftermath _ _ _
  · exact .refl s

theorem advanceCheck_aftermath (x : Port) (s : State) : Aftermath s (advanceCheck x s) :=
  (advanceProbing_aftermath x s).trans (decideModules_aftermath _ _ _)

theorem advanceAndFront_aftermath (x : Port) (s : State) : Aftermath s (advanceAndFront x s) :=
  (advanceCheck_aftermath x s).trans (frontPass_aftermath _)

theorem settleFrom_aftermath (x : Port) (s : State) : Aftermath s (settleFrom x s) :=
  ((frontPass_aftermath s).trans (advanceAndFront_aftermath x _)).trans (advanceAndFront_aftermath _ _)

/-! ## The turn of one check (R107, log 33) -/

theorem frontPass_checks (s : State) : (frontPass s).checks = s.checks := (frontPass_touches s).checks

theorem advanceAndFront_other (x : Port) (s : State) :
    (advanceAndFront x s).checks.get x.other = s.checks.get x.other := by
  rw [advanceAndFront, frontPass_checks, advanceCheck_other]

/-- Whichever check settles first, the check of a port has its turn once, as it stood before, and stands after it as it
left itself. -/
theorem settleFrom_turn (x y : Port) (s : State) :
    ∃ r, Aftermath s r ∧ r.ports = s.ports ∧ r.checks.get x = s.checks.get x
      ∧ Aftermath (advanceCheck x r) (settleFrom y s)
      ∧ (settleFrom y s).checks.get x = (advanceCheck x r).checks.get x := by
  have hports : (frontPass s).ports = s.ports := (frontPass_touches s).ports
  rcases Port.eq_or_other x y with hy | hy <;> rw [hy]
  · refine ⟨frontPass s, frontPass_aftermath s, hports, by rw [frontPass_checks],
      (frontPass_aftermath _).trans (advanceAndFront_aftermath _ _), ?_⟩
    have hlast := advanceAndFront_other x.other (advanceAndFront x (frontPass s))
    rw [Port.other_other] at hlast
    rw [settleFrom, hlast, advanceAndFront, frontPass_checks]
  · have hfirst := advanceAndFront_other x.other (frontPass s)
    rw [Port.other_other, frontPass_checks] at hfirst
    refine ⟨advanceAndFront x.other (frontPass s),
      (frontPass_aftermath s).trans (advanceAndFront_aftermath _ _), ?_, hfirst, ?_, ?_⟩
    · exact (advanceAndFront_touches _ _).ports.trans hports
    · rw [settleFrom, Port.other_other]
      exact frontPass_aftermath _
    · rw [settleFrom, Port.other_other, advanceAndFront, frontPass_checks]

/-- Where the other check is IDLE, only front checks are made before the turn of a check and after it. -/
theorem settleFrom_of_otherIdle (x y : Port) (h : (s.checks.get x.other).state = .idle) :
    ∃ r, FrontMoves s r ∧ FrontMoves (advanceCheck x r) (settleFrom y s) := by
  have hrests {r : State} (hr : r.checks.get x.other = s.checks.get x.other) : advanceCheck x.other r = r :=
    advanceCheck_rests (checkRests_of_idle (by rw [hr]; exact h))
  rcases Port.eq_or_other x y with hy | hy <;> rw [hy]
  · have hidle := hrests (r := advanceAndFront x (frontPass s))
      (by rw [advanceAndFront_other, frontPass_checks])
    refine ⟨frontPass s, frontPass_moves s, ?_⟩
    rw [settleFrom, advanceAndFront.eq_1 x.other, hidle]
    exact (frontPass_moves _).trans (frontPass_moves _)
  · have hidle := hrests (r := frontPass s) (by rw [frontPass_checks])
    refine ⟨frontPass (frontPass s), (frontPass_moves s).trans (frontPass_moves _), ?_⟩
    rw [settleFrom, Port.other_other, advanceAndFront.eq_1 x.other, hidle]
    exact frontPass_moves _

end Sys2Proof.Proofs
end

section
/-! What the reach checks make of a port that leaves UP (R29, R156, R162 to R166). -/

namespace Sys2Proof.Proofs

-- one theorem after the other: many proofs elaborated at once ask for a stack each
set_option Elab.async false

open Sys2Proof.Machine Sys2Proof.Safety

variable {s t u : State} {x y : Port} {a b n : Nat} {v : Tag} {l : List Nat}

/-! ## The turn of a check that runs (R162, R166) -/

/-- Break location, trigger and result stand. -/
def KeepsBreak (c d : Check) : Prop :=
  d.breakLocation = c.breakLocation ∧ d.trigger = c.trigger ∧ d.result = c.result

theorem KeepsBreak.trans {c d e : Check} (h : KeepsBreak c d) (k : KeepsBreak d e) : KeepsBreak c e := by
  obtain ⟨hbreak, htrigger, hresult⟩ := h
  obtain ⟨kbreak, ktrigger, kresult⟩ := k
  exact ⟨kbreak.trans hbreak, ktrigger.trans htrigger, kresult.trans hresult⟩

/-- Deciding modules and ending leave where the break is and who triggered the check (R162, R166). -/
theorem decideModules_keepsBreak (x : Port) (n : Nat) (s : State) :
    KeepsBreak (s.checks.get x) ((decideModules x n s).checks.get x) := by
  induction n generalizing s with
  | zero => exact ⟨rfl, rfl, rfl⟩
  | succ n ih =>
    unfold decideModules
    simp only
    split
    · split
      · rw [endCheck_eq, Pair.get_set_same]
        exact ⟨rfl, rfl, rfl⟩
      · split
        · refine .trans ?_ (ih _)
          rw [loseModule_checks, Pair.get_set_same]
          exact ⟨rfl, rfl, rfl⟩
        · unfold State.setCheck
          rw [Pair.get_set_same]
          exact ⟨rfl, rfl, rfl⟩
    · exact ⟨rfl, rfl, rfl⟩

theorem advanceCheck_of_notProbing (h : (s.checks.get x).state ≠ .probing) :
    advanceCheck x s = decideModules x ((s.checks.get x).cutOff.length + 1) s := by
  have hprobe : advanceProbing x s = s := by simp [advanceProbing, h]
  simp only [advanceCheck, hprobe]

theorem settleFrom_keepsBreak (y : Port) (h : (s.checks.get x).state ≠ .probing) :
    KeepsBreak (s.checks.get x) ((settleFrom y s).checks.get x) := by
  obtain ⟨r, -, -, hcheck, -, hturn⟩ := settleFrom_turn x y s
  rw [hturn, ← hcheck, advanceCheck_of_notProbing (by rw [hcheck]; exact h)]
  exact decideModules_keepsBreak _ _ _

theorem settleFrom_idle (y : Port) (h : (s.checks.get x).state = .idle) :
    ((settleFrom y s).checks.get x).state = .idle := by
  obtain ⟨r, -, -, hcheck, -, hturn⟩ := settleFrom_turn x y s
  rw [← hcheck] at h
  rw [hturn, advanceCheck_rests (checkRests_of_idle h), h]

theorem endCheck_idle (x : Port) (s : State) : ((endCheck x s).checks.get x).state = .idle := by
  rw [endCheck_eq, Pair.get_set_same]
  rfl

/-- REROUTING with no module PENDING ends where it settles (R166). -/
theorem settleFrom_ends (y : Port) (hstate : (s.checks.get x).state = .rerouting)
    (hdeciding : (s.checks.get x).deciding = none) (hpending : pendingAddrs (s.checks.get x).cutOff = []) :
    ((settleFrom y s).checks.get x).state = .idle := by
  obtain ⟨r, -, -, hcheck, -, hturn⟩ := settleFrom_turn x y s
  rw [← hcheck] at hstate hdeciding hpending
  rw [hturn, advanceCheck_rerouting hstate, decideModules_ends _ hstate hdeciding hpending]
  exact endCheck_idle x r

/-- Modules lost in the order of a list are LOST, those among them that were LOST before too. -/
theorem loseAll_gone (x : Port) (hb : b ∈ l) (h : (s.entry b).live = true ∨ Gone (s.entry b)) :
    Gone ((loseAll x l s).entry b) := by
  induction l generalizing s with
  | nil => nomatch hb
  | cons a l ih =>
    have hstep := (loseModule_aftermath x a s).fate b
    have hrest := (loseAll_aftermath x l (loseModule x a s)).fate b
    show Gone ((loseAll x l (loseModule x a s)).entry b)
    rcases h with hlive | hgone
    · by_cases hba : b = a
      · refine hrest.gone ?_
        rw [loseModule_entry, if_pos ⟨hba, by rw [← hba]; exact hlive⟩]
        exact ⟨rfl, rfl, rfl⟩
      · exact ih ((List.mem_cons.1 hb).resolve_left hba) (hstep.live_or_gone hlive)
    · exact hrest.gone (hstep.gone hgone)

/-- With the other port not UP, REROUTING makes each of its PENDING modules LOST and ends where it settles (R162,
R166, log 30). -/
theorem settleFrom_losesAll (y : Port) (hstate : (s.checks.get x).state = .rerouting)
    (hdeciding : (s.checks.get x).deciding = none) (hdown : s.isUp x.other = false)
    (hpending : pendingAddrs (s.checks.get x).cutOff = l) (hsorted : l.Pairwise (· < ·)) :
    ((settleFrom y s).checks.get x).state = .idle
      ∧ ∀ b ∈ l, (s.entry b).live = true → Gone ((settleFrom y s).entry b) := by
  obtain ⟨r, hbefore, hports, hcheck, hafter, hturn⟩ := settleFrom_turn x y s
  rw [← hcheck] at hstate hdeciding hpending
  have hdown' : r.isUp x.other = false := by
    simp only [State.isUp, State.port, hports] at hdown ⊢
    exact hdown
  have hlength : l.length < (r.checks.get x).cutOff.length + 1 := by
    rw [← hpending, pendingAddrs, List.length_map]
    exact Nat.lt_succ_of_le (List.length_filter_le _ _)
  have hloses : advanceCheck x r = endCheck x (loseAll x l r) := by
    rw [advanceCheck_rerouting hstate, decideModules_loses hlength hstate hdeciding hdown' hpending hsorted]
  rw [hloses] at hafter hturn
  refine ⟨by rw [hturn]; exact endCheck_idle _ _, fun b hb hlive => ?_⟩
  have hgone := loseAll_gone (s := r) x hb ((hbefore.fate b).live_or_gone hlive)
  exact (hafter.fate b).gone (((endCheck_aftermath x _).fate b).gone hgone)

/-! ## The check of the other port (R165) -/

/-- With enough rounds, losing what is PENDING loses every PENDING module. -/
theorem losePending_eq (x : Port) (hn : (pendingAddrs (s.checks.get x).cutOff).length ≤ n) :
    ∃ l, losePending x n s = loseAll x l s ∧ pendingAddrs (s.checks.get x).cutOff ⊆ l := by
  induction n generalizing s with
  | zero =>
    rw [Nat.le_zero, List.length_eq_zero_iff] at hn
    exact ⟨[], rfl, by rw [hn]; exact List.nil_subset _⟩
  | succ n ih =>
    by_cases hnil : pendingAddrs (s.checks.get x).cutOff = []
    · exact ⟨[], by simp [losePending, hnil, lowest, loseAll], by rw [hnil]; exact List.nil_subset _⟩
    · obtain ⟨a, ha, hlow, -⟩ := exists_lowest hnil
      have hrest : pendingAddrs ((loseModule x a s).checks.get x).cutOff
          = (pendingAddrs (s.checks.get x).cutOff).filter (· ≠ a) := by
        rw [loseModule_checks, Pair.get_set_same]
        exact pendingAddrs_setMark_lost a _
      have hfewer : (pendingAddrs ((loseModule x a s).checks.get x).cutOff).length ≤ n := by
        have hlt := List.length_filter_lt_length_iff_exists (p := fun c => decide (c ≠ a)).2
          ⟨a, ha, by simp⟩
        rw [hrest]
        omega
      obtain ⟨l, hl, hsub⟩ := ih hfewer
      refine ⟨a :: l, ?_, fun c hc => ?_⟩
      · rw [losePending, hlow]
        exact hl
      · by_cases hca : c = a
        · exact hca ▸ List.mem_cons_self
        · exact List.mem_cons_of_mem _ (hsub (by rw [hrest]; simp [hc, hca]))

/-- Once every PENDING module of a check is lost none is PENDING. -/
theorem pendingAddrs_loseAll (x : Port) (hl : pendingAddrs (s.checks.get x).cutOff ⊆ l) :
    pendingAddrs ((loseAll x l s).checks.get x).cutOff = [] := by
  rw [loseAll_checks, Pair.get_set_same, foldl_checkLoses]
  refine List.eq_nil_iff_forall_not_mem.2 fun c hc => ?_
  have hmem := mem_pendingAddrs.1 hc
  rw [foldl_setMark_mem, List.mem_map] at hmem
  obtain ⟨d, hd, heq⟩ := hmem
  split at heq
  · cases heq
  · next hno =>
    rw [heq] at hd hno
    exact hno (hl (mem_pendingAddrs.2 hd))

/-- The other port leaves UP under a check in REROUTING: its PENDING modules are LOST and it has none left to decide
(R165). -/
theorem otherPortLeft_rerouting (h : (s.checks.get x).state = .rerouting) :
    ((otherPortLeft x s).checks.get x).state = .rerouting
      ∧ ((otherPortLeft x s).checks.get x).deciding = none
      ∧ pendingAddrs ((otherPortLeft x s).checks.get x).cutOff = []
      ∧ ∀ b ∈ pendingAddrs (s.checks.get x).cutOff, (s.entry b).live = true →
          Gone ((otherPortLeft x s).entry b) := by
  obtain ⟨l, hl, hsub⟩ := losePending_eq x (n := (s.checks.get x).cutOff.length)
    (by rw [pendingAddrs, List.length_map]; exact List.length_filter_le _ _)
  have hleft : otherPortLeft x s
      = (loseAll x l s).setCheck x { (loseAll x l s).checks.get x with deciding := none } := by
    simp only [otherPortLeft, h, if_true, hl]
  have hcheck : (otherPortLeft x s).checks.get x = { (loseAll x l s).checks.get x with deciding := none } := by
    rw [hleft, State.setCheck, Pair.get_set_same]
  have hstate : ((loseAll x l s).checks.get x).state = .rerouting := by
    rw [loseAll_checks, Pair.get_set_same, foldl_checkLoses]
    exact h
  refine ⟨?_, ?_, ?_, fun b hb hlive => ?_⟩
  · rw [hcheck]
    exact hstate
  · rw [hcheck]
  · rw [hcheck]
    exact pendingAddrs_loseAll x hsub
  · rw [hleft]
    exact loseAll_gone x (hsub hb) (.inl hlive)

theorem losePending_aftermath (x : Port) (n : Nat) (s : State) : Aftermath s (losePending x n s) := by
  induction n generalizing s with
  | zero => exact .refl s
  | succ n ih =>
    unfold losePending
    split
    · exact .refl s
    · exact (loseModule_aftermath _ _ _).trans (ih _)

theorem losePending_other (x : Port) (n : Nat) (s : State) :
    (losePending x n s).checks.get x.other = s.checks.get x.other := by
  induction n generalizing s with
  | zero => rfl
  | succ n ih =>
    unfold losePending
    split
    · rfl
    · rw [ih, loseModule_checks, Pair.get_set_other]

theorem otherPortLeft_aftermath (x : Port) (s : State) : Aftermath s (otherPortLeft x s) := by
  unfold otherPortLeft
  simp only
  split
  · exact (losePending_aftermath _ _ _).trans (setCheck_aftermath _ _ _)
  · exact .refl s

theorem otherPortLeft_other (x : Port) (s : State) :
    (otherPortLeft x s).checks.get x.other = s.checks.get x.other := by
  unfold otherPortLeft
  simp only
  split
  · rw [State.setCheck, Pair.get_set_other, losePending_other]
  · rfl

theorem otherPortLeft_idle (h : (s.checks.get x).state = .idle) : otherPortLeft x s = s := by
  simp [otherPortLeft, h]

/-! ## The check of the port itself (R29, R156, R164) -/

theorem ownPortLeft_aftermath (x : Port) (s : State) : Aftermath s (ownPortLeft x s) := by
  unfold ownPortLeft
  simp only
  split
  · split
    · exact setCheck_aftermath _ _ _
    · exact .refl s
  · exact setCheck_aftermath _ _ _
  · exact setCheck_aftermath _ _ _

theorem ownPortLeft_other (x : Port) (s : State) :
    (ownPortLeft x s).checks.get x.other = s.checks.get x.other := by
  unfold ownPortLeft
  simp only
  split
  · split
    · exact Pair.get_set_other _ _ _
    · rfl
  · exact Pair.get_set_other _ _ _
  · exact Pair.get_set_other _ _ _

theorem ownPortLeft_unrouted (h : (s.checks.get x).state = .idle) (hno : s.anyRouted x = false) :
    ownPortLeft x s = s := by
  simp [ownPortLeft, h, hno]

theorem ownPortLeft_starts (h : (s.checks.get x).state = .idle) (hrouted : s.anyRouted x = true) :
    ownPortLeft x s = startCutOff x s := by
  simp [ownPortLeft, h, hrouted]

theorem joinPending_nil (l : List Nat) : joinPending l [] = pendingMarks l := by
  simp [joinPending, listed]

/-- A check that runs has the break at hop 0 from here on; PROBING has found it (R164). -/
theorem ownPortLeft_running (h : (s.checks.get x).state ≠ .idle) :
    ((ownPortLeft x s).checks.get x).state = .rerouting
      ∧ ((ownPortLeft x s).checks.get x).breakLocation = 0
      ∧ ((ownPortLeft x s).checks.get x).trigger = (s.checks.get x).trigger
      ∧ ((s.checks.get x).state = .probing →
          ((ownPortLeft x s).checks.get x).result = .brk
            ∧ ((ownPortLeft x s).checks.get x).deciding = none
            ∧ ((s.checks.get x).cutOff = [] →
                ((ownPortLeft x s).checks.get x).cutOff = pendingMarks (s.routedLive x))) := by
  unfold ownPortLeft
  simp only
  split
  · next hidle => exact absurd hidle h
  · rw [State.setCheck, Pair.get_set_same]
    refine ⟨rfl, rfl, rfl, fun _ => ⟨rfl, rfl, fun hnil => ?_⟩⟩
    show joinPending _ (s.checks.get x).cutOff = _
    rw [hnil, joinPending_nil]
  · next hrerouting =>
    rw [State.setCheck, Pair.get_set_same]
    refine ⟨hrerouting, rfl, rfl, fun hprobing => ?_⟩
    rw [hrerouting] at hprobing
    nomatch hprobing

theorem routedLive_sorted (x : Port) (s : State) : (s.routedLive x).Pairwise (· < ·) :=
  (List.pairwise_lt_range' (s := 1) (n := 62)).filter _

theorem mem_routedLive (x : Port) (s : State) :
    b ∈ s.routedLive x ↔ (s.entry b).live = true ∧ (s.entry b).route = some x := by
  simp only [State.routedLive, List.mem_filter, mem_addresses, Bool.and_eq_true, beq_iff_eq]
  exact ⟨fun h => h.2, fun h => ⟨address_of_live h.1, h⟩⟩

theorem anyRouted_of_route (h : (s.entry b).route = some x) : s.anyRouted x = true := by
  have hb : 1 ≤ b ∧ b ≤ 62 := by
    by_contra hout
    rw [State.entry_outside s hout] at h
    nomatch h
  simp only [State.anyRouted, List.any_eq_true, beq_iff_eq]
  exact ⟨b, mem_addresses.2 hb, h⟩

/-! ## Both checks, and what follows (R29, R162 to R166) -/

/-- What the checks make of a port that leaves UP, and what follows in the same step (R29). -/
def checksTold (p y : Port) (n : Nat) (s : State) : State :=
  settleFrom y { tellChecks p s with freeCount := n }

theorem tellChecks_of_census {p : Port} (h : s.censusRunning = true) : tellChecks p s = s := if_pos h

theorem tellChecks_eq {p : Port} (h : s.censusRunning = false) :
    tellChecks p s = ownPortLeft p (otherPortLeft p.other s) := if_neg (by simp [h])

theorem tellChecks_aftermath (p : Port) (s : State) : Aftermath s (tellChecks p s) := by
  unfold tellChecks
  split
  · exact .refl s
  · exact (otherPortLeft_aftermath _ _).trans (ownPortLeft_aftermath _ _)

theorem freeCount_aftermath (n : Nat) (s : State) : Aftermath s { s with freeCount := n } :=
  .of_eq rfl rfl rfl rfl id

/-- The count of free choices is no part of what settling leaves. -/
theorem settleFrom_freeCount (y : Port) (n : Nat) (s : State) :
    Aftermath s (settleFrom y { s with freeCount := n }) :=
  (freeCount_aftermath n s).trans (settleFrom_aftermath y { s with freeCount := n })

theorem checksTold_aftermath (p y : Port) (n : Nat) (s : State) : Aftermath s (checksTold p y n s) :=
  (tellChecks_aftermath p s).trans (settleFrom_freeCount y n _)

section
variable {p : Port}

theorem otherPortLeft_own (p : Port) (s : State) :
    (otherPortLeft p.other s).checks.get p = s.checks.get p := by
  have h := otherPortLeft_other p.other s
  rwa [Port.other_other] at h

/-- The check of the port has the break at hop 0 (R164). -/
theorem checksTold_breakLocation (y : Port) (n : Nat) (hcensus : s.censusRunning = false)
    (hruns : (s.checks.get p).state ≠ .idle) :
    ((checksTold p y n s).checks.get p).breakLocation = 0
      ∧ ((checksTold p y n s).checks.get p).trigger = (s.checks.get p).trigger
      ∧ ((s.checks.get p).state = .probing → ((checksTold p y n s).checks.get p).result = .brk) := by
  have hown := otherPortLeft_own p s
  obtain ⟨hstate, hbreak, htrigger, hprobing⟩ := ownPortLeft_running (by rw [hown]; exact hruns)
  rw [hown] at htrigger hprobing
  have hkeeps : KeepsBreak ((ownPortLeft p (otherPortLeft p.other s)).checks.get p)
      ((checksTold p y n s).checks.get p) := by
    unfold checksTold
    rw [tellChecks_eq hcensus]
    refine settleFrom_keepsBreak y ?_
    show ((ownPortLeft p (otherPortLeft p.other s)).checks.get p).state ≠ .probing
    rw [hstate]
    nofun
  obtain ⟨hbreak', htrigger', hresult'⟩ := hkeeps
  refine ⟨hbreak'.trans hbreak, htrigger'.trans htrigger, fun h => ?_⟩
  obtain ⟨hresult, -⟩ := hprobing h
  exact hresult'.trans hresult

/-- An IDLE check starts with the break at hop 0 where a module is routed on the port (R29, R156). -/
theorem checksTold_starts (y : Port) (n : Nat) (hcensus : s.censusRunning = false)
    (hidle : (s.checks.get p).state = .idle) (hother : (s.checks.get p.other).state = .idle)
    (hrouted : s.anyRouted p = true) :
    ((checksTold p y n s).checks.get p).result = .brk
      ∧ ((checksTold p y n s).checks.get p).breakLocation = 0
      ∧ ((checksTold p y n s).checks.get p).trigger = 0 := by
  have hcheck : ((startCutOff p s).checks.get p) = { Check.reset with
      state := .rerouting, result := .brk, cutOff := pendingMarks (s.routedLive p) } :=
    Pair.get_set_same _ _ _
  have hkeeps : KeepsBreak ((startCutOff p s).checks.get p) ((checksTold p y n s).checks.get p) := by
    unfold checksTold
    rw [tellChecks_eq hcensus, otherPortLeft_idle hother, ownPortLeft_starts hidle hrouted]
    refine settleFrom_keepsBreak (s := { startCutOff p s with freeCount := n }) y ?_
    show ((startCutOff p s).checks.get p).state ≠ .probing
    rw [hcheck]
    nofun
  rw [hcheck] at hkeeps
  obtain ⟨hbreak, htrigger, hresult⟩ := hkeeps
  exact ⟨hresult, hbreak, htrigger⟩

/-- With the other port not UP, a check that has cut off just what is routed on the port makes all of it LOST (R162,
R163, R166, log 30). -/
theorem cutOff_losesAll (y : Port) (n : Nat) (hstate : (t.checks.get p).state = .rerouting)
    (hdeciding : (t.checks.get p).deciding = none) (hdown : t.isUp p.other = false)
    (hcutOff : (t.checks.get p).cutOff = pendingMarks (u.routedLive p))
    (hentry : t.roster = u.roster) :
    ((settleFrom y { t with freeCount := n }).checks.get p).state = .idle
      ∧ ∀ b, (u.entry b).live = true → (u.entry b).route = some p →
          Gone ((settleFrom y { t with freeCount := n }).entry b) := by
  obtain ⟨hidle, hgone⟩ := settleFrom_losesAll (s := { t with freeCount := n }) (l := u.routedLive p) y
    hstate hdeciding hdown (by
      show pendingAddrs (t.checks.get p).cutOff = _
      rw [hcutOff, pendingAddrs_pendingMarks]) (routedLive_sorted p u)
  refine ⟨hidle, fun b hlive hroute => hgone b ((mem_routedLive p u).2 ⟨hlive, hroute⟩) ?_⟩
  show (t.entry b).live = true
  rw [State.entry_eq_of_roster hentry]
  exact hlive

/-- With the other port not UP, the check of a port that leaves UP makes every module routed on it LOST and ends, where
it was IDLE or had cut off none (R162, R163, R166, log 30). -/
theorem checksTold_losesAll (y : Port) (n : Nat) (hcensus : s.censusRunning = false)
    (hcheck : (s.checks.get p).state = .idle
      ∨ ((s.checks.get p).state = .probing ∧ (s.checks.get p).cutOff = []))
    (hdown : s.isUp p.other = false) :
    ((checksTold p y n s).checks.get p).state = .idle
      ∧ ∀ b, (s.entry b).live = true → (s.entry b).route = some p →
          Gone ((checksTold p y n s).entry b) := by
  unfold checksTold
  rw [tellChecks_eq hcensus]
  generalize hu : otherPortLeft p.other s = u
  have hfate : Aftermath s u := hu ▸ otherPortLeft_aftermath p.other s
  have hports : u.ports = s.ports := hu ▸ (otherPortLeft_touches p.other s).ports
  have hown : u.checks.get p = s.checks.get p := hu ▸ otherPortLeft_own p s
  rw [← hown] at hcheck
  have hdown' (r : State) (hr : r.ports = u.ports) : r.isUp p.other = false := by
    simp only [State.isUp, State.port, hr, hports] at hdown ⊢
    exact hdown
  -- a module routed on the port is so still, or the other check has just made it LOST
  have hstill {b : Nat} (hlive : (s.entry b).live = true) (hroute : (s.entry b).route = some p) :
      ((u.entry b).live = true ∧ (u.entry b).route = some p) ∨ Gone (u.entry b) := by
    rcases hfate.fate b with h | ⟨-, h⟩
    · rw [h]
      exact .inl ⟨hlive, hroute⟩
    · rw [h]
      exact .inr ⟨rfl, rfl, rfl⟩
  have hafter : Aftermath u (settleFrom y { ownPortLeft p u with freeCount := n }) :=
    (ownPortLeft_aftermath p u).trans (settleFrom_freeCount y n _)
  have hall (hloses : ((settleFrom y { ownPortLeft p u with freeCount := n }).checks.get p).state = .idle
      ∧ ∀ b, (u.entry b).live = true → (u.entry b).route = some p →
          Gone ((settleFrom y { ownPortLeft p u with freeCount := n }).entry b)) :
      ((settleFrom y { ownPortLeft p u with freeCount := n }).checks.get p).state = .idle
        ∧ ∀ b, (s.entry b).live = true → (s.entry b).route = some p →
            Gone ((settleFrom y { ownPortLeft p u with freeCount := n }).entry b) := by
    obtain ⟨hidle, hlost⟩ := hloses
    refine ⟨hidle, fun b hlive hroute => ?_⟩
    rcases hstill hlive hroute with ⟨hlive', hroute'⟩ | hgone
    · exact hlost b hlive' hroute'
    · exact (hafter.fate b).gone hgone
  refine hall ?_
  rcases hcheck with hidle | ⟨hprobing, hnil⟩
  · by_cases hrouted : u.anyRouted p = true
    · have hstarted : (startCutOff p u).checks.get p = { Check.reset with
          state := .rerouting, result := .brk, cutOff := pendingMarks (u.routedLive p) } :=
        Pair.get_set_same _ _ _
      rw [ownPortLeft_starts hidle hrouted]
      exact cutOff_losesAll y n (by rw [hstarted]) (by rw [hstarted]; rfl) (hdown' _ rfl)
        (by rw [hstarted]) rfl
    · rw [ownPortLeft_unrouted hidle (by simpa using hrouted)]
      exact ⟨settleFrom_idle (s := { u with freeCount := n }) y hidle,
        fun b _ hroute => absurd (anyRouted_of_route hroute) hrouted⟩
  · obtain ⟨hstate, -, -, hcut⟩ := ownPortLeft_running (by rw [hprobing]; nofun)
    obtain ⟨-, hdeciding, hcutOff⟩ := hcut hprobing
    refine cutOff_losesAll y n hstate hdeciding (hdown' _ (ownPortLeft_touches p u).ports) (hcutOff hnil) ?_
    simp [ownPortLeft, hprobing, State.setCheck]

/-- The check of the other port in REROUTING makes what is PENDING LOST and ends (R165). -/
theorem checksTold_otherEnds (y : Port) (n : Nat) (hcensus : s.censusRunning = false)
    (hrerouting : (s.checks.get p.other).state = .rerouting) :
    ((checksTold p y n s).checks.get p.other).state = .idle
      ∧ ∀ b, { addr := b, mark := .pending } ∈ (s.checks.get p.other).cutOff →
          (s.entry b).live = true → Gone ((checksTold p y n s).entry b) := by
  unfold checksTold
  rw [tellChecks_eq hcensus]
  obtain ⟨hstate, hdeciding, hpending, hgone⟩ := otherPortLeft_rerouting hrerouting
  generalize otherPortLeft p.other s = u at hstate hdeciding hpending hgone ⊢
  have hcheck : (ownPortLeft p u).checks.get p.other = u.checks.get p.other := ownPortLeft_other p u
  rw [← hcheck] at hstate hdeciding hpending
  refine ⟨settleFrom_ends (s := { ownPortLeft p u with freeCount := n }) y hstate hdeciding hpending,
    fun b hb hlive => ?_⟩
  have hafter : Aftermath u (settleFrom y { ownPortLeft p u with freeCount := n }) :=
    (ownPortLeft_aftermath p u).trans (settleFrom_freeCount y n _)
  exact (hafter.fate b).gone (hgone b (mem_pendingAddrs.2 hb) hlive)

end

end Sys2Proof.Proofs
end

section
/-! A slot set to wait while its port leaves UP: it waits on, or is UNREACHABLE with its module (R113, R118, R166). -/

namespace Sys2Proof.Proofs

-- one theorem after the other: many proofs elaborated at once ask for a stack each
set_option Elab.async false

open Sys2Proof.Machine Sys2Proof.Safety

variable {s t u : State} {x y p : Port} {a b n : Nat} {v : Tag}

/-! ## A module that a check does not lose (R162) -/

/-- The check of a port has not lost a module, and loses it without a probe in no case. -/
def Spares (x : Port) (a : Nat) (s : State) : Prop :=
  { addr := a, mark := .lost } ∉ (s.checks.get x).cutOff
    ∧ ({ addr := a, mark := .pending } ∈ (s.checks.get x).cutOff → s.losesWithoutProbe x a = false)

/-- The requests to a module stand. -/
def RequestsStand (a : Nat) (s t : State) : Prop := ∀ v, (s.slot v).target = some a → t.slot v = s.slot v

theorem RequestsStand.refl (a : Nat) (s : State) : RequestsStand a s s := fun _ _ => rfl

theorem RequestsStand.trans (h : RequestsStand a s t) (k : RequestsStand a t u) : RequestsStand a s u :=
  fun v hv => (k v (by rw [h v hv]; exact hv)).trans (h v hv)

/-- The end of a check completes no request to a module it has not lost (R166 step 1). -/
theorem completeLost_requestsStand {c : Check} (h : c.madeLost a = false) (v : Tag) (s : State) :
    RequestsStand a s (completeLost c v s) := by
  intro w hw
  by_cases hwv : w = v
  · subst hwv
    simp [completeLost, hw, h]
  · exact completeLost_slot_ne hwv c s

theorem madeLost_eq_false {c : Check} (h : { addr := a, mark := .lost } ∉ c.cutOff) :
    c.madeLost a = false := by
  refine Bool.eq_false_iff.2 fun hlost => h ?_
  simp only [Check.madeLost, List.any_eq_true, Bool.and_eq_true, beq_iff_eq] at hlost
  obtain ⟨⟨addr, mark⟩, hm, rfl, rfl⟩ := hlost
  exact hm

theorem endCheck_requestsStand (h : { addr := a, mark := .lost } ∉ (s.checks.get x).cutOff) :
    RequestsStand a s (endCheck x s) := by
  have hends : RequestsStand a s (endRequests x s) :=
    foldl_relates (.refl a) .trans (fun s v => completeLost_requestsStand (madeLost_eq_false h) v s) _ s
  rw [endCheck_eq]
  exact fun v hv => hends v hv

/-- Losing another module spares this one. -/
theorem spares_loseModule (h : Spares x a s) (hne : a ≠ b) : Spares x a (loseModule x b s) := by
  obtain ⟨hlost, hprobe⟩ := h
  have hmem (m : Mark) : { addr := a, mark := m } ∈ ((loseModule x b s).checks.get x).cutOff ↔
      { addr := a, mark := m } ∈ (s.checks.get x).cutOff := by
    rw [loseModule_checks, Pair.get_set_same]
    simp only [checkLoses, setMark, List.mem_map]
    constructor
    · rintro ⟨c, hc, heq⟩
      split at heq
      · next hb =>
        have haddr : c.addr = a := congrArg CutOff.addr heq
        exact absurd (haddr.symm.trans hb) hne
      · rw [← heq]
        exact hc
    · exact fun hm => ⟨_, hm, if_neg hne⟩
  have hother : (loseModule x b s).checks.get x.other = s.checks.get x.other := by
    rw [loseModule_checks, Pair.get_set_other]
  have hentry : (loseModule x b s).entry a = s.entry a := by
    rw [loseModule_entry, if_neg fun hab => hne hab.1]
  refine ⟨fun hm => hlost ((hmem _).1 hm), fun hm => ?_⟩
  have hsame : (loseModule x b s).losesWithoutProbe x a = s.losesWithoutProbe x a := by
    simp only [State.losesWithoutProbe, State.checkRunning, hother, loseModule_isUp, hentry]
  rw [hsame]
  exact hprobe ((hmem _).1 hm)

/-- Deciding modules leaves the requests and the entry of one that it spares, but for the toggle (R162, R166). -/
theorem decideModules_spares (n : Nat) (h : Spares x a s) :
    RequestsStand a s (decideModules x n s)
      ∧ (decideModules x n s).entry a
        = { s.entry a with toggle := ((decideModules x n s).entry a).toggle } := by
  induction n generalizing s with
  | zero => exact ⟨.refl a s, rfl⟩
  | succ n ih =>
    unfold decideModules
    simp only
    split
    · split
      · refine ⟨endCheck_requestsStand h.1, ?_⟩
        rw [endCheck_eq]
        exact (endRequests_moves x s).entry a
      · next b hlow =>
        have hb : { addr := b, mark := .pending } ∈ (s.checks.get x).cutOff := by
          have hne : pendingAddrs (s.checks.get x).cutOff ≠ [] := fun hnil => by
            rw [hnil] at hlow
            nomatch hlow
          obtain ⟨m, hm, hlow', -⟩ := exists_lowest hne
          rw [hlow] at hlow'
          exact mem_pendingAddrs.1 (Option.some.inj hlow' ▸ hm)
        split
        · next hloses =>
          have hne : a ≠ b := fun hab => by
            subst hab
            rw [h.2 hb] at hloses
            nomatch hloses
          obtain ⟨hstand, hentry⟩ := ih (spares_loseModule h hne)
          have hsame : (loseModule x b s).entry a = s.entry a := by
            rw [loseModule_entry, if_neg fun hab => hne hab.1]
          refine ⟨.trans (fun v _ => State.slot_eq_of_slots (loseModule_slots x b s) v) hstand, ?_⟩
          rw [hsame] at hentry
          exact hentry
        · exact ⟨.refl a s, rfl⟩
    · exact ⟨.refl a s, rfl⟩

/-! ## A slot that waits (R106, R107) -/

/-- A request to a module ACTIVE or SUSPECT whose kind the lock lets pass. -/
structure MayWait (v : Tag) (a : Nat) (s : State) : Prop where
  target : (s.slot v).target = some a
  code : (s.slot v).kindCode ≠ 3
  live : (s.entry a).live = true
  lock : s.lockHeld = false ∨ (s.slot v).kindCode = 1 ∨ (s.slot v).kindCode = 4

/-- The front checks leave such a request as it is. -/
theorem MayWait.passes (h : MayWait v a s) : PassesFront v s := by
  have hlive := (live_iff _).1 h.live
  refine ⟨not_isBcast_of_code h.code, frontCheck_passes h.target ?_ (.inl ?_) h.lock⟩
  · rcases hlive with hs | hs <;> rw [hs] <;> nofun
  · rcases hlive with hs | hs <;> rw [hs] <;> nofun

theorem MayWait.frontMoves (h : MayWait v a s) (hm : FrontMoves s t) :
    MayWait v a t ∧ t.slot v = s.slot v := by
  have hslot := hm.passing v h.passes
  obtain ⟨htarget, hcode, hlive, hlock⟩ := h
  refine ⟨⟨?_, ?_, ?_, ?_⟩, hslot⟩
  · rw [hslot]; exact htarget
  · rw [hslot]; exact hcode
  · rw [live_iff] at hlive ⊢
    rw [hm.requests.state]
    exact hlive
  · rw [hslot, hm.requests.touches.lockHeld]
    exact hlock

/-- A request to a module that the port's check spares waits on while the check settles. -/
theorem settleFrom_spares (y : Port) (h : MayWait v a s) (hother : (s.checks.get x.other).state = .idle)
    (hstate : (s.checks.get x).state ≠ .probing)
    (hspares : ∀ r, FrontMoves s r → Spares x a r) : (settleFrom y s).slot v = s.slot v := by
  obtain ⟨r, hbefore, hafter⟩ := settleFrom_of_otherIdle x y hother
  obtain ⟨hmay, hslot⟩ := h.frontMoves hbefore
  have hstate' : (r.checks.get x).state ≠ .probing := by
    rw [hbefore.requests.touches.checks]
    exact hstate
  rw [advanceCheck_of_notProbing hstate'] at hafter
  obtain ⟨hstand, hentry⟩ := decideModules_spares ((r.checks.get x).cutOff.length + 1) (hspares r hbefore)
  have hslot' := hstand v hmay.target
  have hmay' : MayWait v a (decideModules x ((r.checks.get x).cutOff.length + 1) r) := by
    obtain ⟨htarget, hcode, hlive, hlock⟩ := hmay
    refine ⟨?_, ?_, ?_, ?_⟩
    · rw [hslot']; exact htarget
    · rw [hslot']; exact hcode
    · rw [hentry]; exact hlive
    · rw [hslot', (decideModules_touches _ _ _).lockHeld]
      exact hlock
  rw [(hmay'.frontMoves hafter).2, hslot', hslot]

theorem MayWait.of_eq (h : MayWait v a s) (hslots : t.slots = s.slots) (hroster : t.roster = s.roster)
    (hlock : t.lockHeld = s.lockHeld) : MayWait v a t := by
  obtain ⟨htarget, hcode, hlive, hlocked⟩ := h
  have hslot := State.slot_eq_of_slots hslots v
  refine ⟨?_, ?_, ?_, ?_⟩
  · rw [hslot]; exact htarget
  · rw [hslot]; exact hcode
  · rw [State.entry_eq_of_roster hroster]; exact hlive
  · rw [hslot, hlock]; exact hlocked

/-- The state `t` is `s` with the check of the port started at hop 0 and the other check IDLE (R156). -/
structure CutsOff (p : Port) (s t : State) : Prop where
  slots : t.slots = s.slots
  roster : t.roster = s.roster
  ports : t.ports = s.ports
  lockHeld : t.lockHeld = s.lockHeld
  epoch : t.epoch = s.epoch
  check : t.checks.get p = { Check.reset with
    state := .rerouting, result := .brk, cutOff := pendingMarks (s.routedLive p) }
  other : (t.checks.get p.other).state = .idle

theorem startCutOff_cutsOff (n : Nat) (hother : (s.checks.get p.other).state = .idle) :
    CutsOff p s { startCutOff p s with freeCount := n } where
  slots := rfl
  roster := rfl
  ports := rfl
  lockHeld := rfl
  epoch := rfl
  check := Pair.get_set_same _ _ _
  other := by
    have hsame : (startCutOff p s).checks.get p.other = s.checks.get p.other := Pair.get_set_other _ _ _
    show ((startCutOff p s).checks.get p.other).state = .idle
    rw [hsame]
    exact hother

/-- The check that starts spares a module not routed on its port, and one that can be probed on the other (R162). -/
theorem CutsOff.spares (h : CutsOff p s t) (hm : FrontMoves t u)
    (hway : (s.entry a).route ≠ some p
      ∨ (s.isUp p.other = true ∧ ((s.entry a).hops.get p.other).isSome = true)) : Spares p a u := by
  have htouches := hm.requests.touches
  have hcutOff : (u.checks.get p).cutOff = pendingMarks (s.routedLive p) := by
    rw [htouches.checks, h.check]
  unfold Spares
  rw [hcutOff]
  refine ⟨fun hmem => ?_, fun hmem => ?_⟩
  · obtain ⟨c, -, heq⟩ := List.mem_map.1 hmem
    nomatch congrArg CutOff.mark heq
  · obtain ⟨c, hc, heq⟩ := List.mem_map.1 hmem
    have hca : c = a := congrArg CutOff.addr heq
    rw [hca, mem_routedLive] at hc
    obtain ⟨-, hroute⟩ := hc
    obtain ⟨hup, hhops⟩ := hway.resolve_left fun hno => hno hroute
    have hrunning : u.checkRunning p.other = false := by
      unfold State.checkRunning
      rw [htouches.checks, h.other]
      rfl
    have hup' : u.isUp p.other = true := by
      simp only [State.isUp, State.port, htouches.ports, h.ports] at hup ⊢
      exact hup
    have hhops' : ((u.entry a).hops.get p.other).isNone = false := by
      rw [hm.requests.hops, State.entry_eq_of_roster h.roster]
      simpa using hhops
    simp [State.losesWithoutProbe, hrunning, hup', hhops']

/-- The check that starts makes every module routed on its port LOST where the other port is not UP (R162, log 30). -/
theorem CutsOff.losesAll (h : CutsOff p s t) (hm : FrontMoves t u) (hdown : s.isUp p.other = false) :
    advanceCheck p u = endCheck p (loseAll p (s.routedLive p) u)
      ∧ ((loseAll p (s.routedLive p) u).checks.get p).cutOff
        = (s.routedLive p).map fun b => { addr := b, mark := .lost } := by
  have htouches := hm.requests.touches
  have hcheck : u.checks.get p = _ := (congrArg (Pair.get · p) htouches.checks).trans h.check
  have hpending : pendingAddrs (u.checks.get p).cutOff = s.routedLive p := by
    rw [hcheck, pendingAddrs_pendingMarks]
  have hlength : (s.routedLive p).length < (u.checks.get p).cutOff.length + 1 := by
    rw [hcheck, pendingMarks, List.length_map]
    exact Nat.lt_succ_self _
  have hdown' : u.isUp p.other = false := by
    simp only [State.isUp, State.port, htouches.ports, h.ports] at hdown ⊢
    exact hdown
  have hstate : (u.checks.get p).state = .rerouting := by rw [hcheck]
  constructor
  · rw [advanceCheck_rerouting hstate, decideModules_loses hlength hstate (by rw [hcheck]; rfl) hdown'
      hpending (routedLive_sorted p s)]
  · rw [loseAll_checks, Pair.get_set_same, foldl_checkLoses, hcheck, foldl_setMark_pending]

/-- A request waits on where its module is not routed on the port that leaves UP, or can be probed on the other
(R113, R118, R162). -/
theorem checksTold_waitsOn (y : Port) (n : Nat) (h : MayWait v a s) (hcensus : s.censusRunning = false)
    (hidle : ∀ q, (s.checks.get q).state = .idle)
    (hway : (s.entry a).route ≠ some p
      ∨ (s.isUp p.other = true ∧ ((s.entry a).hops.get p.other).isSome = true)) :
    (checksTold p y n s).slot v = s.slot v := by
  unfold checksTold
  rw [tellChecks_eq hcensus, otherPortLeft_idle (hidle _)]
  by_cases hrouted : s.anyRouted p = true
  · have hcut := startCutOff_cutsOff n (hidle p.other)
    rw [ownPortLeft_starts (hidle p) hrouted]
    generalize ({ startCutOff p s with freeCount := n } : State) = u at hcut ⊢
    rw [settleFrom_spares y (h.of_eq hcut.slots hcut.roster hcut.lockHeld) hcut.other
      (by rw [hcut.check]; nofun) fun r hr => hcut.spares hr hway]
    exact State.slot_eq_of_slots hcut.slots v
  · rw [ownPortLeft_unrouted (hidle p) (by simpa using hrouted)]
    obtain ⟨r, hbefore, hafter⟩ :=
      settleFrom_of_otherIdle (s := { s with freeCount := n }) p y (hidle _)
    have hrest : advanceCheck p r = r := by
      refine advanceCheck_rests (checkRests_of_idle ?_)
      rw [hbefore.requests.touches.checks]
      exact hidle p
    rw [hrest] at hafter
    have hmay : MayWait v a { s with freeCount := n } := h.of_eq rfl rfl rfl
    exact (hbefore.trans hafter).passing v hmay.passes

/-- A request is UNREACHABLE where its module loses its last port (R166, log 30). -/
theorem checksTold_unreachable (y : Port) (n : Nat) (h : MayWait v a s)
    (hwaits : (s.slot v).waiting = true) (hcensus : s.censusRunning = false)
    (hidle : ∀ q, (s.checks.get q).state = .idle) (hroute : (s.entry a).route = some p)
    (hdown : s.isUp p.other = false) :
    (checksTold p y n s).slot v = doneWith (s.slot v) .unreachable
      (effectByHistory (s.slot v).kindCode (s.slot v).history) false [] s.epoch := by
  have hcut := startCutOff_cutsOff n (hidle p.other)
  unfold checksTold
  rw [tellChecks_eq hcensus, otherPortLeft_idle (hidle _),
    ownPortLeft_starts (hidle p) (anyRouted_of_route hroute)]
  generalize ({ startCutOff p s with freeCount := n } : State) = u at hcut ⊢
  obtain ⟨r, hbefore, hafter⟩ := settleFrom_of_otherIdle p y hcut.other
  obtain ⟨hloses, hcutOff⟩ := hcut.losesAll hbefore hdown
  rw [hloses] at hafter
  have hslot : (loseAll p (s.routedLive p) r).slot v = s.slot v := by
    rw [State.slot_eq_of_slots (loseAll_slots _ _ _),
      ((h.of_eq hcut.slots hcut.roster hcut.lockHeld).frontMoves hbefore).2,
      State.slot_eq_of_slots hcut.slots]
  have hepoch : (loseAll p (s.routedLive p) r).epoch = s.epoch := by
    rw [(loseAll_touches _ _ _).epoch, hbefore.requests.touches.epoch, hcut.epoch]
  have hdone := endCheck_slot (x := p) (b := a) (by rw [hslot]; exact hwaits)
    (by rw [hslot]; exact h.target)
    (by rw [hcutOff]; exact List.mem_map.2 ⟨a, (mem_routedLive p s).2 ⟨h.live, hroute⟩, rfl⟩)
  rw [hslot, hepoch] at hdone
  rw [(hafter.requests.moves.slot v).eq_of_finished (by rw [hdone]; rfl), hdone]

end Sys2Proof.Proofs
end

section
/-! What the broadcasts and the census make of a port that leaves UP, and what follows once the owner of its exchange
has been told (R29, R70, R80, R113, R118, R121). -/

namespace Sys2Proof.Proofs

-- one theorem after the other: many proofs elaborated at once ask for a stack each
set_option Elab.async false

open Sys2Proof.Machine Sys2Proof.Safety

variable {s t u : State} {p y : Port} {a n : Nat} {v w : Tag} {z : Slot}

/-! ## Broadcasts that wait for the port (R121) -/

/-- A broadcast's slot once the port has left its set (R121). -/
def bcastWithout (p : Port) (x : Slot) : Slot := { x with bcastPorts := x.bcastPorts.set p false }

theorem bcastWithout_left (p : Port) (x : Slot) : (bcastWithout p x).bcastPorts.get p = false :=
  Pair.get_set_same _ _ _

/-- An ACTIVE broadcast that the port is still to carry loses it. -/
theorem bcastPortGone_carried (hcode : (s.slot v).isBcast = true) (hactive : (s.slot v).state = .active)
    (hcarries : (s.slot v).bcastPorts.get p = true) :
    bcastPortGone p v s = bcastMaybeDone v (s.setSlot v (bcastWithout p (s.slot v))) := by
  simp [bcastPortGone, bcastWithout, hcode, hactive, hcarries]

theorem bcastPortGone_else (h : ((s.slot v).isBcast && (s.slot v).state == .active
    && (s.slot v).bcastPorts.get p) = false) : bcastPortGone p v s = s := by
  simp only [bcastPortGone, h]
  rfl

theorem bcastMaybeDone_slot_ne (h : w ≠ v) (s : State) : (bcastMaybeDone v s).slot w = s.slot w := by
  unfold bcastMaybeDone
  simp only
  split
  · rfl
  · exact complete_slot_ne _ _ _ _ h _

theorem bcastMaybeDone_moves (v : Tag) (s : State) : RequestMoves s (bcastMaybeDone v s) := by
  unfold bcastMaybeDone
  simp only
  split
  · exact .refl s
  · exact finish_moves _ _ _

theorem bcastPortGone_slot_ne (p : Port) (h : w ≠ v) (s : State) :
    (bcastPortGone p v s).slot w = s.slot w := by
  unfold bcastPortGone
  simp only
  split
  · rw [bcastMaybeDone_slot_ne h, State.slot_setSlot_ne _ h]
  · rfl

theorem bcastPortGone_moves (p : Port) (v : Tag) (s : State) : FrontMoves s (bcastPortGone p v s) := by
  cases hgoes : ((s.slot v).isBcast && (s.slot v).state == .active && (s.slot v).bcastPorts.get p) with
  | false =>
    rw [bcastPortGone_else hgoes]
    exact .refl s
  | true =>
    simp only [Bool.and_eq_true, beq_iff_eq] at hgoes
    obtain ⟨⟨hcode, hactive⟩, hcarries⟩ := hgoes
    have hu := unfinished_of_active hactive
    refine ⟨?_, fun w hw => bcastPortGone_slot_ne p (fun hwv => ?_) s⟩
    · rw [bcastPortGone_carried hcode hactive hcarries]
      have hset : RequestMoves s (s.setSlot v (bcastWithout p (s.slot v))) :=
        setSlot_moves v (.inr ⟨hu, .inl hu, rfl, rfl, rfl⟩) hu
      exact hset.trans (bcastMaybeDone_moves v _)
    · obtain ⟨hbcast, -⟩ := hw
      rw [hwv, hcode] at hbcast
      nomatch hbcast

theorem bcastPortGoneAll_moves (p : Port) (s : State) : FrontMoves s (bcastPortGoneAll p s) :=
  foldl_relates .refl .trans (fun s v => bcastPortGone_moves p v s) _ s

/-- A broadcast that the port is not to carry stands. -/
theorem bcastPortGone_left (h : (s.slot v).bcastPorts.get p = false) (w : Tag) :
    (bcastPortGone p w s).slot v = s.slot v := by
  by_cases hvw : v = w
  · subst hvw
    rw [bcastPortGone_else (by simp [h])]
  · exact bcastPortGone_slot_ne p hvw s

theorem foldl_bcastPortGone_left (l : List Tag) (h : (s.slot v).bcastPorts.get p = false) :
    (l.foldl (fun s w => bcastPortGone p w s) s).slot v = s.slot v := by
  induction l generalizing s with
  | nil => rfl
  | cons w l ih =>
    have hstep := bcastPortGone_left h w
    exact (ih (by rw [hstep]; exact h)).trans hstep

/-- What becomes of a broadcast hangs on the census' being IDLE and on the epoch only. -/
theorem broadcastLeft_before (hcensus : u.census.state = s.census.state) (hepoch : u.epoch = s.epoch)
    (h : BroadcastLeft p v z u t) : BroadcastLeft p v z s t := by
  unfold BroadcastLeft at h ⊢
  rw [← hcensus, ← hepoch]
  exact h

/-- Once the port has left a broadcast's set it goes on, or is DONE (R121). -/
theorem bcastMaybeDone_broadcastLeft (hleft : z.bcastPorts.get p = false) (hactive : z.state = .active)
    (hcode : z.kindCode = 3) : BroadcastLeft p v z s (bcastMaybeDone v (s.setSlot v z)) := by
  refine ⟨fun hother => ?_, fun hother => ?_⟩
  · rw [bcastMaybeDone_goesOn hleft hother, State.slot_setSlot_same]
  · have ⟨hslot, _, hqueue⟩ := bcastDone_completes (s := s) (v := v) (bcastStatus s z) hactive
    rw [bcastMaybeDone_done hleft hother, ← bcastStatus_eq, ← hcode]
    refine ⟨hslot, ?_⟩
    rw [hqueue]
    exact List.mem_append_right _ List.mem_cons_self

/-- A broadcast that the port has left has it no more in its set, and does not wait. -/
theorem broadcastLeft_slot (hleft : z.bcastPorts.get p = false) (hactive : z.state = .active)
    (h : BroadcastLeft p v z s t) :
    (t.slot v).bcastPorts.get p = false ∧ (t.slot v).waiting = false := by
  obtain ⟨hgoes, hdone⟩ := h
  cases hother : z.bcastPorts.get p.other with
  | true =>
    rw [hgoes hother]
    exact ⟨hleft, by rw [Slot.waiting, hactive]; rfl⟩
  | false =>
    rw [(hdone hother).1]
    exact ⟨hleft, rfl⟩

theorem broadcastLeft_after (h : BroadcastLeft p v z s t) (hslot : u.slot v = t.slot v)
    (hqueue : t.completionQueue <+: u.completionQueue) : BroadcastLeft p v z s u := by
  obtain ⟨hgoes, hdone⟩ := h
  refine ⟨fun hother => hslot.trans (hgoes hother), fun hother => ?_⟩
  obtain ⟨hdone, hmem⟩ := hdone hother
  exact ⟨hslot.trans hdone, hqueue.subset hmem⟩

/-- A broadcast's port is taken from it when its turn comes (R121). -/
theorem foldl_bcastPortGone {l : List Tag} (hv : v ∈ l) (hactive : (s.slot v).state = .active)
    (hcode : (s.slot v).kindCode = 3) (hcarries : (s.slot v).bcastPorts.get p = true) :
    BroadcastLeft p v (bcastWithout p (s.slot v)) s
      (l.foldl (fun s w => bcastPortGone p w s) s) := by
  induction l generalizing s with
  | nil => nomatch hv
  | cons w l ih =>
    rw [List.foldl_cons]
    by_cases hvw : v = w
    · subst hvw
      have hbcast : (s.slot v).isBcast = true := by
        unfold Slot.isBcast Slot.kind
        rw [hcode]
        rfl
      have hleft := bcastMaybeDone_broadcastLeft (s := s) (v := v) (p := p)
        (z := bcastWithout p (s.slot v)) (bcastWithout_left p _) hactive hcode
      rw [← bcastPortGone_carried hbcast hactive hcarries] at hleft
      obtain ⟨hgone, -⟩ := broadcastLeft_slot (bcastWithout_left p _) hactive hleft
      have hqueue : (bcastPortGone p v s).completionQueue <+:
          (l.foldl (fun s w => bcastPortGone p w s) (bcastPortGone p v s)).completionQueue :=
        (foldl_relates (R := FrontMoves) .refl .trans (fun s w => bcastPortGone_moves p w s) l _).requests.moves.queue
      exact broadcastLeft_after hleft (foldl_bcastPortGone_left l hgone) hqueue
    · have hslot := bcastPortGone_slot_ne p hvw s
      have htouches := bcastPortGone_touches p w s
      have hrest := ih ((List.mem_cons.1 hv).resolve_left hvw) (by rw [hslot]; exact hactive)
        (by rw [hslot]; exact hcode) (by rw [hslot]; exact hcarries)
      rw [hslot] at hrest
      exact broadcastLeft_before (by rw [htouches.census]) htouches.epoch hrest

/-! ## The census (R70, R80) -/

/-- A stop pending stays; otherwise the cause is the one found (R78). -/
def stopWith (r : CensusReason) : Option StopCause → Option StopCause
  | none => some (.failed r)
  | some c => some c

theorem stopWith_stopWith (r : CensusReason) (c : Option StopCause) :
    stopWith r (stopWith r c) = stopWith r c := by
  cases c <;> rfl

theorem failCensus_eq (r : CensusReason) (s : State) :
    failCensus r s
      = { s with census := { s.census with stopPending := stopWith r s.census.stopPending } } := by
  unfold failCensus
  split
  · next h =>
    rw [h]
    rfl
  · next c h =>
    rw [h, stopWith, ← h]

/-- A census port leaving UP in RELEASING or a walk stops the census and its settle (R70, R80). -/
theorem censusPortLeft_stops (hpast : pastClear s) (hport : s.census.ports.get p = true) :
    censusPortLeft p s = { s with census := { s.census with
      settleTimer := false, stopPending := stopWith .portLost s.census.stopPending } } := by
  unfold censusPortLeft
  rcases hpast with h | h | h <;> simp only [h, hport, if_true, failCensus_eq]

theorem censusPortLeft_else (h : ¬pastClear s ∨ s.census.ports.get p = false) : censusPortLeft p s = s := by
  have hkept (hpast : pastClear s) {r : State} : (if s.census.ports.get p then r else s) = s :=
    if_neg (by simpa using h.resolve_left fun hno => hno hpast)
  unfold censusPortLeft
  split
  · next hs => exact hkept (.inl hs)
  · next hs => exact hkept (.inr (.inl hs))
  · next hs => exact hkept (.inr (.inr hs))
  · rfl

theorem not_pastClear_of_idle (h : s.census.state = .idle) : ¬pastClear s := by
  unfold pastClear
  rw [h]
  simp

/-- Only the census hears of its port, and its state stands. -/
theorem censusPortLeft_frame (p : Port) (s : State) :
    censusPortLeft p s = { s with census := (censusPortLeft p s).census }
      ∧ (censusPortLeft p s).census.state = s.census.state := by
  by_cases h : pastClear s ∧ s.census.ports.get p = true
  · rw [censusPortLeft_stops h.1 h.2]
    exact ⟨rfl, rfl⟩
  · rw [censusPortLeft_else ((not_and_or.1 h).imp_right (by simp))]
    exact ⟨rfl, rfl⟩

/-! ## Once the owner has been told (R29) -/

/-- What follows a port's leaving UP once the owner of its exchange has been told: the broadcasts, the slots they bring
to the front, the census and the checks (R29). -/
def afterOwner (p y : Port) (n : Nat) (s : State) : State :=
  checksTold p y n (censusPortLeft p (frontPass (bcastPortGoneAll p s)))

theorem leaveUp_eq (p : Port) (l : LinkState) (s : State) :
    leaveUp p l s = afterOwner p (if Config.leavingPortFirst s.freeCount then p else p.other)
      (s.freeCount + 1) (tellLinkLost p (s.port p).exch s.freeCount (dropLink p l s)) := rfl

theorem beforeCensus_moves (p : Port) (s : State) : FrontMoves s (frontPass (bcastPortGoneAll p s)) :=
  (bcastPortGoneAll_moves p s).trans (frontPass_moves _)

theorem censusPortLeft_aftermath (p : Port) (s : State) : Aftermath s (censusPortLeft p s) := by
  rw [(censusPortLeft_frame p s).1]
  exact .of_eq rfl rfl rfl rfl id

theorem afterOwner_aftermath (p y : Port) (n : Nat) (s : State) : Aftermath s (afterOwner p y n s) :=
  ((Aftermath.of_requests (beforeCensus_moves p s).requests).trans (censusPortLeft_aftermath p _)).trans
    (checksTold_aftermath p y n _)

/-- With the census IDLE the checks are told at once. -/
theorem afterOwner_of_idle (h : s.census.state = .idle) :
    afterOwner p y n s = checksTold p y n (frontPass (bcastPortGoneAll p s)) := by
  have hcensus : (frontPass (bcastPortGoneAll p s)).census.state = .idle := by
    rw [(beforeCensus_moves p s).requests.touches.census]
    exact h
  rw [afterOwner, censusPortLeft_else (.inl (not_pastClear_of_idle hcensus))]

theorem tellChecks_slots (p : Port) (s : State) : (tellChecks p s).slots = s.slots := by
  have hpending (x : Port) (n : Nat) (r : State) : (losePending x n r).slots = r.slots := by
    induction n generalizing r with
    | zero => rfl
    | succ n ih =>
      unfold losePending
      split
      · rfl
      · exact (ih _).trans (loseModule_slots _ _ _)
  have hother : (otherPortLeft p.other s).slots = s.slots := by
    unfold otherPortLeft
    simp only
    split
    · exact hpending _ _ _
    · rfl
  have hown (r : State) : (ownPortLeft p r).slots = r.slots := by
    unfold ownPortLeft
    simp only
    split
    · split <;> rfl
    · rfl
    · rfl
  unfold tellChecks
  split
  · rfl
  · exact (hown _).trans hother

/-- Once the broadcasts have lost the port, only slots that wait move on. -/
theorem afterOwner_onlyWaiting (p y : Port) (n : Nat) (s : State) :
    OnlyWaitingMove (bcastPortGoneAll p s) (afterOwner p y n s) := by
  have hslots : (tellChecks p (censusPortLeft p (frontPass (bcastPortGoneAll p s)))).slots
      = (frontPass (bcastPortGoneAll p s)).slots := by
    rw [tellChecks_slots, (censusPortLeft_frame p _).1]
  have hchecks : OnlyWaitingMove (frontPass (bcastPortGoneAll p s)) { tellChecks p
      (censusPortLeft p (frontPass (bcastPortGoneAll p s))) with freeCount := n } := .of_slots hslots
  exact ((frontPass_onlyWaiting _).trans hchecks).trans (settleFrom_onlyWaiting y _)

theorem afterBroadcasts_queue (p y : Port) (n : Nat) (s : State) :
    (bcastPortGoneAll p s).completionQueue <+: (afterOwner p y n s).completionQueue := by
  have hafter : Aftermath (bcastPortGoneAll p s) (afterOwner p y n s) :=
    ((frontPass_aftermath _).trans (censusPortLeft_aftermath p _)).trans (checksTold_aftermath p y n _)
  exact hafter.moves.queue

/-- A broadcast that its own exchange has taken the port from is left as that left it. -/
theorem afterOwner_told (y : Port) (n : Nat) (hleft : z.bcastPorts.get p = false) (hactive : z.state = .active)
    (h : BroadcastLeft p v z s t) : BroadcastLeft p v z s (afterOwner p y n t) := by
  obtain ⟨hgone, hwaits⟩ := broadcastLeft_slot hleft hactive h
  have hslot : (bcastPortGoneAll p t).slot v = t.slot v := foldl_bcastPortGone_left _ hgone
  refine broadcastLeft_after h ?_ (afterOwner_aftermath p y n t).moves.queue
  exact (afterOwner_onlyWaiting p y n t v (by rw [hslot]; exact hwaits)).trans hslot

/-- A broadcast still to be carried by the port loses it (R121). -/
theorem afterOwner_broadcastLeft (y : Port) (n : Nat) (hactive : (s.slot v).state = .active)
    (hcode : (s.slot v).kindCode = 3) (hcarries : (s.slot v).bcastPorts.get p = true) :
    BroadcastLeft p v (bcastWithout p (s.slot v)) s (afterOwner p y n s) := by
  have hleft : BroadcastLeft p v (bcastWithout p (s.slot v)) s (bcastPortGoneAll p s) :=
    foldl_bcastPortGone ((mem_unfinishedTags s v).2 (unfinished_of_active hactive)) hactive hcode hcarries
  obtain ⟨-, hwaits⟩ := broadcastLeft_slot (bcastWithout_left p _) hactive hleft
  exact broadcastLeft_after hleft (afterOwner_onlyWaiting p y n s v hwaits) (afterBroadcasts_queue p y n s)

/-! ## A slot that its exchange sets to wait (R65, R106) -/

/-- A request that may wait does so where its module keeps a way (R113, R118). -/
theorem afterOwner_waitsOn (y : Port) (n : Nat) (h : MayWait v a s) (hcensus : s.census.state = .idle)
    (hidle : ∀ q, (s.checks.get q).state = .idle)
    (hway : (s.entry a).route ≠ some p
      ∨ (s.isUp p.other = true ∧ ((s.entry a).hops.get p.other).isSome = true)) :
    (afterOwner p y n s).slot v = s.slot v := by
  have hm := beforeCensus_moves p s
  have htouches := hm.requests.touches
  obtain ⟨hmay, hslot⟩ := h.frontMoves hm
  have hup : (frontPass (bcastPortGoneAll p s)).isUp p.other = s.isUp p.other := by
    simp only [State.isUp, State.port, htouches.ports]
  rw [afterOwner_of_idle hcensus, checksTold_waitsOn y n hmay, hslot]
  · simp only [State.censusRunning, htouches.census, hcensus]
    rfl
  · rw [htouches.checks]
    exact hidle
  · rw [hm.requests.route, hm.requests.hops, hup]
    exact hway

/-- A request that waits is UNREACHABLE where its module loses its last port (log 30). -/
theorem afterOwner_unreachable (y : Port) (n : Nat) (h : MayWait v a s)
    (hwaits : (s.slot v).waiting = true) (hcensus : s.census.state = .idle)
    (hidle : ∀ q, (s.checks.get q).state = .idle) (hroute : (s.entry a).route = some p)
    (hdown : s.isUp p.other = false) :
    (afterOwner p y n s).slot v = doneWith (s.slot v) .unreachable
      (effectByHistory (s.slot v).kindCode (s.slot v).history) false [] s.epoch := by
  have hm := beforeCensus_moves p s
  have htouches := hm.requests.touches
  obtain ⟨hmay, hslot⟩ := h.frontMoves hm
  rw [afterOwner_of_idle hcensus, checksTold_unreachable y n hmay (by rw [hslot]; exact hwaits), hslot,
    htouches.epoch]
  · simp only [State.censusRunning, htouches.census, hcensus]
    rfl
  · rw [htouches.checks]
    exact hidle
  · rw [hm.requests.route]
    exact hroute
  · simp only [State.isUp, State.port, htouches.ports] at hdown ⊢
    exact hdown

end Sys2Proof.Proofs
end

section
/-! What the owner of an exchange makes of LINK_LOST (R39, R70, R99, R113, R118, R121, R134, R145). -/

namespace Sys2Proof.Proofs

-- one theorem after the other: many proofs elaborated at once ask for a stack each
set_option Elab.async false

open Sys2Proof.Machine Sys2Proof.Safety

variable {s t u m : State} {p y : Port} {a n : Nat} {v w : Tag} {x : Xfer} {z : Slot} {sent : Bool}

/-! ## A slot that is ended, or set to wait (R65, R99, R113) -/

/-- The slot is ended, or set to wait with no backoff. -/
def EndsOrWaits (v : Tag) (s t : State) : Prop :=
  (∃ st, t = completeActive v st false [] s)
    ∨ t = s.setSlot v { s.slot v with state := .waitingRetry, backoff := none }

theorem waitOrFlush_endsOrWaits (v : Tag) (s : State) : EndsOrWaits v s (waitOrFlush v none s) := by
  by_cases h : s.censusRunning = true
  · exact .inl ⟨_, waitOrFlush_census none h⟩
  · exact .inr (waitOrFlush_waits none h)

/-- An ACTIVE slot's end takes with it only slots that wait behind it (R65). -/
theorem completeActive_slot_ne (h : w ≠ v) (hw : (s.slot w).waiting = false) (st : Status) (late : Bool)
    (data : List Byte) : (completeActive v st late data s).slot w = s.slot w := by
  have hcompleted : (complete v st late data s).slot w = s.slot w := complete_slot_ne _ _ _ _ h _
  have hfollower (g : Option Nat) (b : Tag) (r : State) : OnlyWaitingMove r (flushFollower g b r) := by
    intro d hd
    unfold flushFollower
    simp only
    split
    · next hq =>
      refine complete_slot_ne _ _ _ _ (fun hdb => ?_) _
      simp only [Bool.and_eq_true, beq_iff_eq] at hq
      obtain ⟨⟨hqueued, -⟩, -⟩ := hq
      rw [hdb, Slot.waiting, hqueued] at hd
      nomatch hd
    · rfl
  unfold completeActive
  simp only
  split
  · exact (foldl_relates (R := OnlyWaitingMove) .refl .trans (fun r b => hfollower _ b r) _ _ w
      (by rw [hcompleted]; exact hw)).trans hcompleted
  · exact hcompleted

/-- What the end of a slot, or its waiting, leaves of the rest. -/
theorem EndsOrWaits.leaves (h : EndsOrWaits v s t) :
    TouchesRequests s t ∧ (∀ a, t.entry a = { s.entry a with toggle := (t.entry a).toggle })
      ∧ ∀ w, w ≠ v → (s.slot w).waiting = false → t.slot w = s.slot w := by
  rcases h with ⟨st, rfl⟩ | rfl
  · have hm := completeActive_moves v st false [] s
    exact ⟨hm.touches, hm.entry, fun w hwv hw => completeActive_slot_ne hwv hw _ _ _⟩
  · exact ⟨setSlot_touches _ _ _, fun _ => rfl, fun w hwv _ => State.slot_setSlot_ne _ hwv _⟩

theorem EndsOrWaits.moves (h : EndsOrWaits v s t) (hu : (s.slot v).unfinished = true) :
    RequestMoves s t := by
  rcases h with ⟨st, rfl⟩ | rfl
  · exact completeActive_moves _ _ _ _ _
  · exact setSlot_moves v (waitingRetry_moves hu none) rfl

/-! ## An attempt (R113) -/

/-- The slot of an attempt that ended LINK_LOST: sent in part, or not at all (R87, R113). -/
def lostSlot (sent : Bool) (y : Slot) : Slot :=
  if sent = true then { y with history := .sentNoReply } else { y with attempts := y.attempts - 1 }

/-- What LINK_LOST asks for the slot of an attempt (R113). -/
def lostDecision (sent : Bool) : Decision := if sent then .failed else .notSent

theorem attemptOutcome_lost {k : ReqKind} (hkind : (s.slot v).kind = some k) (f : Frame) (sent : Bool) :
    attemptOutcome v f (.linkLost sent) s
      = decideSlot v (lostDecision sent) (s.setSlot v (lostSlot sent (s.slot v))) := by
  unfold attemptOutcome
  simp only [hkind]
  cases sent <;> rfl

theorem attemptOutcome_noKind (hkind : (s.slot v).kind = none) (f : Frame) (o : PortOutcome) :
    attemptOutcome v f o s = s := by
  unfold attemptOutcome
  simp only [hkind]

theorem decideSlot_lost_cancelled (h : (s.slot v).cancelRequested = true) (sent : Bool) :
    decideSlot v (lostDecision sent) s = completeActive v .cancelled false [] s := by
  cases sent <;> exact if_pos h

theorem decideSlot_lost_again (h : (s.slot v).cancelRequested = false)
    (hleft : sent = false ∨ (s.slot v).attempts < 1 + s.params.retryLimit) :
    decideSlot v (lostDecision sent) s = waitOrFlush v none s := by
  cases sent with
  | true => exact decideSlot_failed_again h (hleft.resolve_left nofun)
  | false => exact if_neg (by simp [h])

theorem decideSlot_lost_endsOrWaits (v : Tag) (sent : Bool) (s : State) :
    EndsOrWaits v s (decideSlot v (lostDecision sent) s) := by
  cases hcancel : (s.slot v).cancelRequested with
  | true => exact .inl ⟨_, decideSlot_lost_cancelled hcancel sent⟩
  | false =>
    by_cases hleft : sent = false ∨ (s.slot v).attempts < 1 + s.params.retryLimit
    · rw [decideSlot_lost_again hcancel hleft]
      exact waitOrFlush_endsOrWaits v s
    · obtain ⟨hsent, hused⟩ := not_or.1 hleft
      obtain rfl : sent = true := by simpa using hsent
      exact .inl ⟨_, decideSlot_failed_usedUp hcancel (Nat.le_of_not_lt hused)⟩

/-! ## A slot told on the way down (R113, R118) -/

/-- The state `m` is `s` on the way down of the port, the slot of its exchange about to be decided as `z`. -/
structure AboutToDecide (p : Port) (v : Tag) (z : Slot) (s m : State) : Prop where
  touches : m = { s with
    slots := m.slots, ports := m.ports, sticky := m.sticky, followUps := m.followUps }
  slot : m.slot v = z
  link : (m.port p.other).link = (s.port p.other).link
  unfinished : z.unfinished = true

theorem completes_before {c : Slot} (hqueue : m.completionQueue = s.completionQueue)
    (h : Completes v c m t) : Completes v c s t := by
  unfold Completes at h ⊢
  rw [hqueue] at h
  exact h

/-- A slot ended first on the way down stays so (R91). -/
theorem AboutToDecide.ends (h : AboutToDecide p v z s m) (y : Port) (n : Nat) (st : Status) :
    Completes v (doneWith z st (effectByHistory z.kindCode z.history) false [] s.epoch) s
      (afterOwner p y n (completeActive v st false [] m)) := by
  obtain ⟨htouches, hslot, -, hu⟩ := h
  have hepoch : m.epoch = s.epoch := by rw [htouches]
  have hqueue : m.completionQueue = s.completionQueue := by rw [htouches]
  have hdone := completeActive_completes v st false [] (s := m) (by rw [hslot]; exact hu)
  rw [hslot, hepoch] at hdone
  exact completes_of_moves v (completes_before hqueue hdone) rfl (afterOwner_aftermath p y n _).moves

/-- A slot that is to wait again does so as R65, R113 and R166 say. -/
theorem AboutToDecide.waitsAgain (h : AboutToDecide p v z s m) (y : Port) (n : Nat)
    (htarget : z.target = some a) (hcode : z.kindCode = (s.slot v).kindCode) (hne : z.kindCode ≠ 3) :
    WaitsAgain p v a z s (afterOwner p y n (waitOrFlush v none m)) := by
  have ⟨htouches, hslot, hlink, _⟩ := h
  have hcensus : m.census = s.census := by rw [htouches]
  refine ⟨fun hruns => ?_, fun ⟨hcidle, hidle, hlive, hlock⟩ => ?_⟩
  · rw [waitOrFlush_census none (by simp [State.censusRunning, hcensus, hruns])]
    exact h.ends y n .rosterChanged
  · rw [waitOrFlush_waits none (by simp [State.censusRunning, hcensus, hcidle]), hslot]
    have hroster : m.roster = s.roster := by rw [htouches]
    have hlockHeld : m.lockHeld = s.lockHeld := by rw [htouches]
    have hchecks : m.checks = s.checks := by rw [htouches]
    have hepoch : m.epoch = s.epoch := by rw [htouches]
    have hentry (r : Slot) : (m.setSlot v r).entry a = s.entry a := State.entry_eq_of_roster hroster a
    have hup (r : Slot) : (m.setSlot v r).isUp p.other = s.isUp p.other := by
      unfold State.isUp
      rw [← hlink]
      rfl
    generalize hw : ({ z with state := .waitingRetry, backoff := none } : Slot) = w
    have hwslot : (m.setSlot v w).slot v = w := State.slot_setSlot_same _ _ _
    have hmay : MayWait v a (m.setSlot v w) := by
      refine ⟨?_, ?_, ?_, ?_⟩
      · rw [hwslot, ← hw]; exact htarget
      · rw [hwslot, ← hw]; exact hne
      · rw [hentry]; exact hlive
      · rw [hwslot, ← hw]
        show m.lockHeld = false ∨ z.kindCode = 1 ∨ z.kindCode = 4
        rw [hlockHeld, hcode]
        exact hlock
    have hcidle' : (m.setSlot v w).census.state = .idle := by
      show m.census.state = .idle
      rw [hcensus]
      exact hcidle
    have hidle' (q : Port) : ((m.setSlot v w).checks.get q).state = .idle := by
      show (m.checks.get q).state = .idle
      rw [hchecks]
      exact hidle q
    refine ⟨fun hway => ?_, fun hroute hdown => ?_⟩
    · rw [afterOwner_waitsOn y n hmay hcidle' hidle', hwslot, ← hw]
      rw [hentry, hup]
      exact hway.imp_right fun ⟨hlinkUp, hhops⟩ => ⟨by simpa [State.isUp] using hlinkUp, hhops⟩
    · rw [afterOwner_unreachable y n hmay (by rw [hwslot, ← hw]; rfl) hcidle' hidle'
        (by rw [hentry]; exact hroute) (by rw [hup]; simpa [State.isUp] using hdown), hwslot]
      show doneWith w _ _ _ _ m.epoch = _
      rw [hepoch, ← hw]

/-- An attempt's slot is decided as R113 says. -/
theorem AboutToDecide.attempt (h : AboutToDecide p v z s m) (y : Port) (n : Nat) (htarget : z.target = some a)
    (hcode : z.kindCode = (s.slot v).kindCode) (hne : z.kindCode ≠ 3)
    (hcancels : z.cancelRequested = (s.slot v).cancelRequested)
    (hattempts : sent = true → z.attempts = (s.slot v).attempts) :
    ((s.slot v).cancelRequested = true →
        Completes v (doneWith z .cancelled (effectByHistory z.kindCode z.history) false [] s.epoch) s
          (afterOwner p y n (decideSlot v (lostDecision sent) m)))
      ∧ ((s.slot v).cancelRequested = false → sent = true →
          1 + s.params.retryLimit ≤ (s.slot v).attempts →
          Completes v (doneWith z .timeout (effectByHistory z.kindCode z.history) false [] s.epoch) s
            (afterOwner p y n (decideSlot v (lostDecision sent) m)))
      ∧ ((s.slot v).cancelRequested = false →
          sent = false ∨ (s.slot v).attempts < 1 + s.params.retryLimit →
          WaitsAgain p v a z s (afterOwner p y n (decideSlot v (lostDecision sent) m)))
      ∧ (((afterOwner p y n (decideSlot v (lostDecision sent) m)).slot v).state = .done →
          (s.slot v).kindCode = 2 → z.history = .sentNoReply → (s.entry a).state ≠ .vacant →
          ((afterOwner p y n (decideSlot v (lostDecision sent) m)).entry a).toggle = .unsure)
      ∧ ((afterOwner p y n (decideSlot v (lostDecision sent) m)).entry a).failCount
          = (s.entry a).failCount := by
  have ⟨htouches, hslot, _, hunfinished⟩ := h
  have hparams : m.params = s.params := by rw [htouches]
  have hentry : m.entry a = s.entry a := State.entry_eq_of_roster (by rw [htouches]) a
  have hu : (m.slot v).unfinished = true := by rw [hslot]; exact hunfinished
  have hcancel' {b : Bool} (hb : (s.slot v).cancelRequested = b) : (m.slot v).cancelRequested = b := by
    rw [hslot, hcancels, hb]
  have hmoves : Moves m (afterOwner p y n (decideSlot v (lostDecision sent) m)) :=
    ((decideSlot_lost_endsOrWaits v sent m).moves hu).moves.trans (afterOwner_aftermath p y n _).moves
  refine ⟨fun hcancel => ?_, fun hcancel hsent hused => ?_, fun hcancel hleft => ?_,
    fun hdone hwrite hhistory hpresent => ?_, ?_⟩
  · rw [decideSlot_lost_cancelled (hcancel' hcancel)]
    exact h.ends y n .cancelled
  · subst hsent
    rw [show lostDecision true = .failed from rfl, decideSlot_failed_usedUp (hcancel' hcancel)
      (by rw [hslot, hparams, hattempts rfl]; exact hused)]
    exact h.ends y n .timeout
  · have hleft' : sent = false ∨ (m.slot v).attempts < 1 + m.params.retryLimit := by
      cases sent with
      | false => exact .inl rfl
      | true =>
        rw [hslot, hparams, hattempts rfl]
        exact hleft
    rw [decideSlot_lost_again (hcancel' hcancel) hleft']
    exact h.waitsAgain y n htarget hcode hne
  · refine hmoves.unsure v a ⟨hu, ?_, ?_, ?_⟩ (by rw [hentry]; exact hpresent) hdone
    · rw [hslot, hcode]; exact hwrite
    · rw [hslot]; exact htarget
    · rw [hslot]; exact hhistory
  · obtain ⟨hcount, -⟩ := hmoves.entry a
    rw [hcount, hentry]

theorem dropLink_other (p : Port) (l : LinkState) (s : State) :
    ((dropLink p l s).port p.other).link = (s.port p.other).link := by
  show (((s.ports.set p _).get p.other)).link = _
  rw [Pair.get_set_other]
  rfl

/-- An attempt that ends LINK_LOST leaves its slot as R113 says. -/
theorem attempt_lost (l : LinkState) (v : Tag) (f : Frame) (sent : Bool) (s : State) (y : Port) (n : Nat) :
    AttemptLost p v sent s (afterOwner p y n (attemptOutcome v f (.linkLost sent) (dropLink p l s))) := by
  intro a htarget hactive hcode
  obtain ⟨⟨k, hkind⟩, hbcast⟩ := kind_of_targetedCode hcode
  rw [attemptOutcome_lost (s := dropLink p l s) hkind]
  have hlostCode : (lostSlot sent (s.slot v)).kindCode = (s.slot v).kindCode := by cases sent <;> rfl
  have hlostActive : (lostSlot sent (s.slot v)).state = .active := by cases sent <;> exact hactive
  have habout : AboutToDecide p v (lostSlot sent (s.slot v)) s
      ((dropLink p l s).setSlot v (lostSlot sent (s.slot v))) :=
    ⟨rfl, State.slot_setSlot_same _ _ _, dropLink_other p l s, unfinished_of_active hlostActive⟩
  exact habout.attempt (a := a) y n (by cases sent <;> exact htarget) hlostCode (by rw [hlostCode]; exact hbcast)
    (by cases sent <;> rfl) (fun hsent => by rw [hsent]; rfl)

/-! ## A resynchronising PROBE (R118) -/

theorem resyncOutcome_lost (p : Port) (v : Tag) (sent : Bool) (s : State) :
    resyncOutcome p v (.linkLost sent) s = afterFailedResync v (clearFollowUp p s) := by
  cases sent <;> rfl

theorem afterFailedResync_endsOrWaits (v : Tag) (s : State) : EndsOrWaits v s (afterFailedResync v s) := by
  cases hcancel : (s.slot v).cancelRequested with
  | true => exact .inl ⟨_, afterFailedResync_cancelled hcancel⟩
  | false =>
    rw [afterFailedResync_again hcancel]
    exact waitOrFlush_endsOrWaits v s

/-- The follow-ups and the reservations are no part of what follows once the owner has been told. -/
theorem afterOwner_keeps (p y : Port) (n : Nat) (s : State) :
    (afterOwner p y n s).followUps = s.followUps ∧ (afterOwner p y n s).reservations = s.reservations := by
  have hrequests := (beforeCensus_moves p s).requests.touches
  have hsettled (r : State) := settleFrom_touches y { tellChecks p r with freeCount := n }
  have hchecks (r : State) : TouchesSettling r (tellChecks p r) := by
    unfold tellChecks
    split
    · exact .refl r
    · exact (otherPortLeft_touches _ _).trans (ownPortLeft_touches _ _)
  unfold afterOwner checksTold
  constructor
  · rw [(hsettled _).followUps, (hchecks _).followUps, (censusPortLeft_frame p _).1, hrequests.followUps]
  · rw [(hsettled _).reservations, (hchecks _).reservations, (censusPortLeft_frame p _).1,
      hrequests.reservations]

/-- A resynchronising PROBE that ends LINK_LOST leaves its slot as R118 says. -/
theorem resync_lost (l : LinkState) (v : Tag) (sent : Bool) (s : State) (y : Port) (n : Nat) :
    ResyncLost p v s (afterOwner p y n (resyncOutcome p v (.linkLost sent) (dropLink p l s))) := by
  intro a htarget hactive hwrite
  rw [resyncOutcome_lost]
  have habout : AboutToDecide p v (s.slot v) s (clearFollowUp p (dropLink p l s)) :=
    ⟨rfl, rfl, dropLink_other p l s, unfinished_of_active hactive⟩
  have hfollow : (clearFollowUp p (dropLink p l s)).followUps = s.followUps.set p none := rfl
  generalize clearFollowUp p (dropLink p l s) = m at habout hfollow ⊢
  have ⟨htouches, hslot, _, hunfinished⟩ := habout
  have hentry : m.entry a = s.entry a := State.entry_eq_of_roster (by rw [htouches]) a
  have hends := afterFailedResync_endsOrWaits v m
  refine ⟨?_, fun hcancel => ?_, fun hcancel => ?_, ?_⟩
  · rw [(afterOwner_keeps p y n _).1, hends.leaves.1.followUps, hfollow]
  · rw [afterFailedResync_cancelled (by rw [hslot]; exact hcancel)]
    exact habout.ends y n .cancelled
  · rw [afterFailedResync_again (by rw [hslot]; exact hcancel)]
    exact habout.waitsAgain y n htarget rfl (by rw [hwrite]; decide)
  · have hmoves := (hends.moves (by rw [hslot]; exact hunfinished)).moves.trans
      (afterOwner_aftermath p y n _).moves
    obtain ⟨hcount, -⟩ := hmoves.entry a
    rw [hcount, hentry]

/-! ## A broadcast, the sweep and a check's PROBE (R121, R134, R145, R160) -/

/-- A broadcast whose frame ended LINK_LOST (R121). -/
def bcastLost (p : Port) (sent : Bool) (c : Slot) : Slot :=
  if sent = true then { bcastWithout p c with bcastSent := true, history := .sentNoReply }
  else { bcastWithout p c with attempts := (bcastWithout p c).attempts - 1 }

theorem bcastOutcome_lost (p : Port) (v : Tag) (sent : Bool) (s : State) :
    bcastOutcome p v (.linkLost sent) s
      = bcastMaybeDone v (s.setSlot v (bcastLost p sent (s.slot v))) := by
  cases sent <;> rfl

/-- A broadcast frame that ends LINK_LOST leaves its slot as R121 says. -/
theorem bcast_lost (l : LinkState) (v : Tag) (sent : Bool) (s : State) (y : Port) (n : Nat)
    (hactive : (s.slot v).state = .active) (hcode : (s.slot v).kindCode = 3) :
    BroadcastLeft p v (bcastLost p sent (s.slot v)) s
      (afterOwner p y n (bcastOutcome p v (.linkLost sent) (dropLink p l s))) := by
  have hleft : (bcastLost p sent (s.slot v)).bcastPorts.get p = false := by
    cases sent <;> exact bcastWithout_left p _
  have hactive' : (bcastLost p sent (s.slot v)).state = .active := by cases sent <;> exact hactive
  have hcode' : (bcastLost p sent (s.slot v)).kindCode = 3 := by cases sent <;> exact hcode
  have htold : BroadcastLeft p v (bcastLost p sent (s.slot v)) s
      (bcastOutcome p v (.linkLost sent) (dropLink p l s)) := by
    rw [bcastOutcome_lost]
    exact broadcastLeft_before (u := dropLink p l s) rfl rfl (bcastMaybeDone_broadcastLeft hleft hactive' hcode')
  exact afterOwner_told y n hleft hactive' htold

/-- The sweep counts nothing of LINK_LOST (R134, R145). -/
theorem sweep_lost (hroster : m.roster = s.roster) (hmirror : m.mirror = s.mirror) (h : Aftermath m t)
    (a : Nat) : SweepLost a s t := by
  obtain ⟨hcount, -⟩ := h.moves.entry a
  have hentry : m.entry a = s.entry a := State.entry_eq_of_roster hroster a
  have hstatus : m.status a = s.status a := State.status_eq_of_mirror hmirror a
  refine ⟨?_, ?_, fun hno => ?_⟩
  · rw [hcount, hentry]
  · rw [h.moves.misses, hstatus]
  · rw [h.status a hno, hstatus]

/-- A check's PROBE that ends LINK_LOST reports nothing and is left to the port's leaving (R160, R164, R165). -/
theorem checkOutcome_lost (q x : Port) (a : Nat) (sent : Bool) (s : State) :
    checkOutcome q x a (.linkLost sent) s = s := by
  have hprobing : probingOutcome x a (.linkLost sent) s = s := rfl
  have hrerouting : reroutingOutcome x a (.linkLost sent) s = s := rfl
  simp [checkOutcome, reportProbe, hprobing, hrerouting]

/-! ## Whoever made the exchange (R39) -/

/-- What the owner is told of LINK_LOST is `LinkLostTold`. -/
theorem linkLostTold (l : LinkState) (x : Xfer) (sent : Bool) (s : State) (y : Port) (n : Nat) :
    LinkLostTold p x sent s (afterOwner p y n (applyOutcome p x (.linkLost sent) (dropLink p l s))) := by
  refine ⟨fun v howner => ?_, fun v howner => ?_, fun v howner hactive hcode => ?_, fun a howner => ?_,
    fun a howner => ?_, fun q howner => ?_⟩
  · rw [applyOutcome, howner]
    exact attempt_lost l v _ sent s y n
  · rw [applyOutcome, howner]
    exact resync_lost l v sent s y n
  · rw [applyOutcome, howner]
    exact bcast_lost l v sent s y n hactive hcode
  · rw [applyOutcome, howner]
    exact sweep_lost (m := dropLink p l s) rfl rfl (afterOwner_aftermath p y n _) a
  · rw [applyOutcome, howner]
    refine ⟨sweep_lost (m := release p (dropLink p l s)) rfl rfl (afterOwner_aftermath p y n _) a, ?_⟩
    exact (afterOwner_keeps p y n _).2
  · rw [applyOutcome, howner]
    obtain ⟨hcount, -⟩ := (afterOwner_aftermath p y n (dropLink p l s)).moves.entry x.frame.dest
    show ((afterOwner p y n (checkOutcome p q x.frame.dest (.linkLost sent) (dropLink p l s))).entry _).failCount = _
    rw [checkOutcome_lost, hcount]
    rfl

end Sys2Proof.Proofs
end

section
/-! A port that leaves UP, by its enable or by the signal-loss timer (R25, R28, R29, R39). -/

namespace Sys2Proof.Proofs

-- one theorem after the other: many proofs elaborated at once ask for a stack each
set_option Elab.async false

open Sys2Proof.Machine Sys2Proof.Safety

variable {s t u r : State} {p y : Port} {n : Nat} {v : Tag} {x : Xfer} {e : Exchange} {sent : Bool}

/-! ## What telling the owner leaves (R29 step 1, R39) -/

/-- Telling the owner of an exchange of LINK_LOST leaves the checks, the causes, the epoch and the entries but for
their toggles; it stops the census past its clear where the exchange is its own; a slot that neither waits nor has the
exchange stands. -/
structure TellsOwner (o : Owner → Prop) (s t : State) : Prop where
  checks : t.checks = s.checks
  sticky : t.sticky = s.sticky
  epoch : t.epoch = s.epoch
  entry : ∀ a, t.entry a = { s.entry a with toggle := (t.entry a).toggle }
  census : t.census = s.census ∨ (o .census ∧ pastClear s
    ∧ t.census = { s.census with stopPending := stopWith .portLost s.census.stopPending })
  slot : ∀ v, ¬o (.bcast v) → ¬o (.attempt v) → ¬o (.resync v) → (s.slot v).waiting = false →
    t.slot v = s.slot v

theorem TellsOwner.refl (o : Owner → Prop) (s : State) : TellsOwner o s s :=
  ⟨rfl, rfl, rfl, fun _ => rfl, .inl rfl, fun _ _ _ _ _ => rfl⟩

/-- Telling a slot of it writes slots, queue, toggles and follow-ups only. -/
theorem tellsOwner_of_slot {o : Owner → Prop} (hm : r = { s with slots := r.slots, followUps := r.followUps })
    (hslots : ∀ w, w ≠ v → r.slot w = s.slot w) (howns : o (.bcast v) ∨ o (.attempt v) ∨ o (.resync v))
    (ht : TouchesRequests r t) (hentry : ∀ a, t.entry a = { r.entry a with toggle := (t.entry a).toggle })
    (hothers : ∀ w, w ≠ v → (r.slot w).waiting = false → t.slot w = r.slot w) : TellsOwner o s t where
  checks := by rw [ht.checks, hm]
  sticky := by rw [ht.sticky, hm]
  epoch := by rw [ht.epoch, hm]
  entry a := by
    have hsame : r.entry a = s.entry a := State.entry_eq_of_roster (by rw [hm]) a
    rw [← hsame]
    exact hentry a
  census := .inl (by rw [ht.census, hm])
  slot w hbcast hattempt hresync hw := by
    have hwv : w ≠ v := by
      rintro rfl
      rcases howns with h | h | h
      · exact hbcast h
      · exact hattempt h
      · exact hresync h
    rw [hothers w hwv (by rw [hslots w hwv]; exact hw), hslots w hwv]

theorem censusOutcome_lost (p : Port) (sent : Bool) (s : State) :
    censusOutcome p (.linkLost sent) s = s
      ∨ (pastClear s ∧ censusOutcome p (.linkLost sent) s = failCensus .portLost s) := by
  unfold censusOutcome pastClear
  cases s.census.state with
  | idle | draining => exact .inl rfl
  | releasing | walkA | walkB => exact .inr ⟨by simp, rfl⟩

theorem applyOutcome_tellsOwner (p : Port) (x : Xfer) (sent : Bool) (s : State) :
    TellsOwner (x.owner = ·) s (applyOutcome p x (.linkLost sent) s) := by
  unfold applyOutcome
  split
  · next howner =>
    rcases censusOutcome_lost p sent s with h | ⟨hpast, h⟩ <;> rw [h]
    · exact .refl _ _
    · rw [failCensus_eq]
      exact ⟨rfl, rfl, rfl, fun _ => rfl, .inr ⟨howner, hpast, rfl⟩, fun _ _ _ _ _ => rfl⟩
  · rw [checkOutcome_lost]
    exact .refl _ _
  · next v howner =>
    cases hkind : (s.slot v).kind with
    | none =>
      rw [attemptOutcome_noKind hkind]
      exact .refl _ _
    | some k =>
      rw [attemptOutcome_lost hkind]
      obtain ⟨ht, hentry, hothers⟩ :=
        (decideSlot_lost_endsOrWaits v sent (s.setSlot v (lostSlot sent (s.slot v)))).leaves
      exact tellsOwner_of_slot rfl (fun w hwv => State.slot_setSlot_ne _ hwv _) (.inr (.inl howner)) ht
        hentry hothers
  · next v howner =>
    rw [resyncOutcome_lost]
    obtain ⟨ht, hentry, hothers⟩ := (afterFailedResync_endsOrWaits v (clearFollowUp p s)).leaves
    exact tellsOwner_of_slot (r := clearFollowUp p s) rfl (fun _ _ => rfl) (.inr (.inr howner)) ht hentry hothers
  · next v howner =>
    rw [bcastOutcome_lost]
    have hmoves := bcastMaybeDone_moves v (s.setSlot v (bcastLost p sent (s.slot v)))
    exact tellsOwner_of_slot rfl (fun w hwv => State.slot_setSlot_ne _ hwv _) (.inl howner) hmoves.touches
      hmoves.entry fun w hwv _ => bcastMaybeDone_slot_ne hwv _
  · exact .refl _ _
  · exact ⟨rfl, rfl, rfl, fun _ => rfl, .inl rfl, fun _ _ _ _ _ => rfl⟩

/-- Of a frame awaiting its reply all went out, of one being sent some part or none (R39, log 11). -/
def wentOut (e : Exchange) (n : Nat) : Bool :=
  match e with
  | .sending _ => Config.startDelimiterOut n
  | _ => true

theorem lostOutcome_eq (e : Exchange) (n : Nat) : lostOutcome e n = .linkLost (wentOut e n) := by
  cases e <;> rfl

theorem tellLinkLost_some (h : e.xfer = some x) (p : Port) (n : Nat) (s : State) :
    tellLinkLost p e n s = applyOutcome p x (.linkLost (wentOut e n)) s := by
  rw [tellLinkLost, h, lostOutcome_eq]

/-- The owner of what is in flight on an exchange. -/
def Owns (e : Exchange) (o : Owner) : Prop := ∃ x, e.xfer = some x ∧ x.owner = o

theorem tellLinkLost_tellsOwner (p : Port) (e : Exchange) (n : Nat) (s : State) :
    TellsOwner (Owns e) s (tellLinkLost p e n s) := by
  cases h : e.xfer with
  | none =>
    rw [tellLinkLost, h]
    exact .refl _ _
  | some x =>
    rw [tellLinkLost_some h]
    obtain ⟨hchecks, hsticky, hepoch, hentry, hcensus, hslot⟩ :=
      applyOutcome_tellsOwner p x (wentOut e n) s
    refine ⟨hchecks, hsticky, hepoch, hentry, hcensus.imp_right fun ⟨ho, hrest⟩ => ⟨⟨x, h, ho⟩, hrest⟩,
      fun v hbcast hattempt hresync => hslot v ?_ ?_ ?_⟩
    · exact fun ho => hbcast ⟨x, h, ho⟩
    · exact fun ho => hattempt ⟨x, h, ho⟩
    · exact fun ho => hresync ⟨x, h, ho⟩

/-! ## The census (R70, R80) -/

theorem settleFrom_checks_of_idle (y : Port) (h : ∀ q, (s.checks.get q).state = .idle) :
    (settleFrom y s).checks = s.checks := by
  refine Pair.ext_get fun q => ?_
  obtain ⟨r, -, -, hcheck, -, hturn⟩ := settleFrom_turn q y s
  rw [hturn, advanceCheck_rests (checkRests_of_idle (by rw [hcheck]; exact h q)), hcheck]

theorem beforeCensus_census (p : Port) (s : State) :
    (frontPass (bcastPortGoneAll p s)).census = s.census :=
  (beforeCensus_moves p s).requests.touches.census

theorem checksTold_census (p y : Port) (n : Nat) (s : State) : (checksTold p y n s).census = s.census := by
  have hchecks : (tellChecks p s).census = s.census := by
    unfold tellChecks
    split
    · rfl
    · exact (ownPortLeft_touches _ _).census.trans (otherPortLeft_touches _ _).census
  exact (settleFrom_touches y _).census.trans hchecks

theorem afterOwner_census (p y : Port) (n : Nat) (s : State) :
    (afterOwner p y n s).census = (censusPortLeft p (frontPass (bcastPortGoneAll p s))).census :=
  checksTold_census p y n _

theorem pastClear_of_state (h : t.census.state = s.census.state) : pastClear t ↔ pastClear s := by
  unfold pastClear
  rw [h]

/-- A census port stops the census past its clear with PORT_LOST; any other port changes nothing of it; and no check
starts while a census runs (R29, R70, R80). -/
theorem censusTold (y : Port) (n : Nat) (htold : TellsOwner (Owns (s.port p).exch) s r) :
    CensusTold p s (afterOwner p y n r) := by
  have ⟨hchecks, _, _, _, hcensus, _⟩ := htold
  have hbefore := beforeCensus_census p r
  have hstate : r.census.state = s.census.state ∧ r.census.ports = s.census.ports
      ∧ stopWith .portLost r.census.stopPending = stopWith .portLost s.census.stopPending
      ∧ { r.census with stopPending := s.census.stopPending } = s.census := by
    rcases hcensus with h | ⟨-, -, h⟩ <;> rw [h]
    · exact ⟨rfl, rfl, rfl, rfl⟩
    · exact ⟨rfl, rfl, stopWith_stopWith _ _, rfl⟩
  obtain ⟨hstate, hports, hstop, hrest⟩ := hstate
  have hpastIff : pastClear (frontPass (bcastPortGoneAll p r)) ↔ pastClear s :=
    pastClear_of_state (by rw [hbefore, hstate])
  refine ⟨fun hpast hport => ?_, fun helse => ?_, fun hruns hidle => ?_⟩
  · rw [afterOwner_census, censusPortLeft_stops (hpastIff.2 hpast) (by rw [hbefore, hports]; exact hport),
      hbefore, hstop, ← hrest]
    cases s.census.stopPending <;> rfl
  · have hsame : r.census = s.census := by
      refine hcensus.resolve_right fun ⟨⟨x, hx, howner⟩, hpast, _⟩ => ?_
      rcases helse with hno | ⟨-, hcarries⟩
      · exact hno hpast
      · simp [State.carries, State.inFlight, hx, howner] at hcarries
    rw [afterOwner_census, censusPortLeft_else ?_, hbefore, hsame]
    rw [hpastIff, hbefore, hports]
    exact helse.imp_right And.left
  · have hrunning : (censusPortLeft p (frontPass (bcastPortGoneAll p r))).censusRunning = true := by
      rw [State.censusRunning, (censusPortLeft_frame p _).2, hbefore, hstate]
      simpa using hruns
    have hsame : (censusPortLeft p (frontPass (bcastPortGoneAll p r))).checks = s.checks := by
      rw [(censusPortLeft_frame p _).1, (beforeCensus_moves p r).requests.touches.checks, hchecks]
    unfold afterOwner checksTold
    rw [tellChecks_of_census hrunning]
    generalize censusPortLeft p (frontPass (bcastPortGoneAll p r)) = u at hsame ⊢
    exact (settleFrom_checks_of_idle (s := { u with freeCount := n }) y
      (fun q => by show (u.checks.get q).state = .idle; rw [hsame]; exact hidle q)).trans hsame

/-! ## The checks (R29, R156, R162 to R166) -/

/-- What the reach checks make of a port that leaves UP with the census IDLE. -/
def ChecksTold (p : Port) (s t : State) : Prop :=
  let own := s.checks.get p
  let other := s.checks.get p.other
  (own.state = .idle → other.state = .idle → (∃ a, (s.entry a).route = some p) →
      (t.checks.get p).result = .brk ∧ (t.checks.get p).breakLocation = 0
        ∧ (t.checks.get p).trigger = 0)
    ∧ (own.state ≠ .idle →
        (t.checks.get p).breakLocation = 0 ∧ (t.checks.get p).trigger = own.trigger)
    ∧ (own.state = .probing → (t.checks.get p).result = .brk)
    ∧ (own.state = .idle ∨ (own.state = .probing ∧ own.cutOff = []) →
        (s.port p.other).link ≠ .up →
        (t.checks.get p).state = .idle
          ∧ ∀ a, (s.entry a).live = true → (s.entry a).route = some p →
            (t.entry a).state = .lost ∧ (t.entry a).route = none
              ∧ (t.entry a).lostMark = true)
    ∧ (other.state = .rerouting →
        (t.checks.get p.other).state = .idle
          ∧ ∀ a, { addr := a, mark := .pending } ∈ other.cutOff →
            (s.entry a).live = true →
            (t.entry a).state = .lost ∧ (t.entry a).lostMark = true)

/-- The checks of a state of the same census, checks, links and entries but for their toggles. -/
theorem checksTold_told (y : Port) (n : Nat) (hcensus : r.censusRunning = false) (hchecks : r.checks = s.checks)
    (hup : r.isUp p.other = s.isUp p.other)
    (hentry : ∀ a, r.entry a = { s.entry a with toggle := (r.entry a).toggle }) :
    ChecksTold p s (checksTold p y n r) := by
  have hroute (a : Nat) : (r.entry a).route = (s.entry a).route := by rw [hentry]
  have hlive (a : Nat) : (r.entry a).live = (s.entry a).live := by
    rw [hentry]
    rfl
  have hdown (h : (s.port p.other).link ≠ .up) : r.isUp p.other = false := by
    rw [hup]
    simpa [State.isUp] using h
  unfold ChecksTold
  rw [← hchecks]
  refine ⟨fun hown hother ⟨a, ha⟩ => ?_, fun hown => ?_, fun hown => ?_, fun hown hlink => ?_, fun hother => ?_⟩
  · exact checksTold_starts y n hcensus hown hother (anyRouted_of_route ((hroute a).trans ha))
  · obtain ⟨hbreak, htrigger, -⟩ := checksTold_breakLocation y n hcensus hown
    exact ⟨hbreak, htrigger⟩
  · obtain ⟨-, -, hresult⟩ := checksTold_breakLocation y n hcensus (by rw [hown]; nofun)
    exact hresult hown
  · obtain ⟨hidle, hgone⟩ := checksTold_losesAll y n hcensus hown (hdown hlink)
    exact ⟨hidle, fun a hl hr => hgone a ((hlive a).trans hl) ((hroute a).trans hr)⟩
  · obtain ⟨hidle, hgone⟩ := checksTold_otherEnds y n hcensus hother
    refine ⟨hidle, fun a ha hl => ?_⟩
    obtain ⟨hstate, -, hmark⟩ := hgone a ha ((hlive a).trans hl)
    exact ⟨hstate, hmark⟩

/-! ## Leaving UP (R25, R28, R29) -/

/-- What a port makes of the state that it leaves UP in, its link then `l`. -/
def LeftUp (p : Port) (l : LinkState) (s t : State) : Prop :=
  t.sticky.portChange = true
    ∧ t.port p = { s.port p with
        link := l, idleRun := 0, lossTimer := false, exch := .held, rx := .nothing }
    ∧ t.port p.other = s.port p.other
    ∧ (∃ sent : Bool, (∀ x w r, (s.port p).exch = .awaiting x w r → sent = true)
        ∧ ∀ x, s.inFlight p = some x → LinkLostTold p x sent s t)
    ∧ (∀ tag, (s.slot tag).state = .active → (s.slot tag).kindCode = 3 →
        (s.slot tag).bcastPorts.get p = true →
        (∀ x, s.inFlight p = some x →
          x.owner ≠ .bcast tag ∧ x.owner ≠ .attempt tag ∧ x.owner ≠ .resync tag) →
        BroadcastLeft p tag
          { s.slot tag with bcastPorts := (s.slot tag).bcastPorts.set p false } s t)
    ∧ CensusTold p s t
    ∧ (s.census.state = .idle → ChecksTold p s t)

/-- A broadcast that the port is to carry, and has not in flight, loses it (R121). -/
theorem broadcast_losesPort (y : Port) (n : Nat) (hactive : (s.slot v).state = .active)
    (hcode : (s.slot v).kindCode = 3) (hcarries : (s.slot v).bcastPorts.get p = true)
    (howner : ∀ x, e.xfer = some x →
      x.owner ≠ .bcast v ∧ x.owner ≠ .attempt v ∧ x.owner ≠ .resync v)
    (htold : TellsOwner (Owns e) s r) :
    BroadcastLeft p v (bcastWithout p (s.slot v)) s (afterOwner p y n r) := by
  obtain ⟨-, -, hepoch, -, hcensus, hslot⟩ := htold
  have hstands : r.slot v = s.slot v := by
    refine hslot v (fun ⟨x, hx, ho⟩ => ?_) (fun ⟨x, hx, ho⟩ => ?_) (fun ⟨x, hx, ho⟩ => ?_)
      (by rw [Slot.waiting, hactive]; rfl)
    · obtain ⟨hbcast, -, -⟩ := howner x hx
      exact hbcast ho
    · obtain ⟨-, hattempt, -⟩ := howner x hx
      exact hattempt ho
    · obtain ⟨-, -, hresync⟩ := howner x hx
      exact hresync ho
  have hstate : r.census.state = s.census.state := by
    rcases hcensus with h | ⟨-, -, h⟩ <;> rw [h]
  have hleft := afterOwner_broadcastLeft (s := r) (p := p) (v := v) y n (by rw [hstands]; exact hactive)
    (by rw [hstands]; exact hcode) (by rw [hstands]; exact hcarries)
  rw [hstands] at hleft
  exact broadcastLeft_before hstate hepoch hleft

/-- What a port that leaves UP makes of the state. -/
theorem leaveUp_leftUp (p : Port) (l : LinkState) (s : State) : LeftUp p l s (leaveUp p l s) := by
  have hports := leaveUp_ports p l s
  have htold : TellsOwner (Owns (s.port p).exch) (dropLink p l s)
      (tellLinkLost p (s.port p).exch s.freeCount (dropLink p l s)) := tellLinkLost_tellsOwner _ _ _ _
  have htold' : TellsOwner (Owns (s.port p).exch) { s with sticky := (dropLink p l s).sticky }
      (tellLinkLost p (s.port p).exch s.freeCount (dropLink p l s)) := by
    obtain ⟨hchecks, hsticky, hepoch, hentry, hcensus, hslot⟩ := htold
    exact ⟨hchecks, hsticky, hepoch, hentry, hcensus, hslot⟩
  have hlinks : (tellLinkLost p (s.port p).exch s.freeCount (dropLink p l s)).isUp p.other
      = s.isUp p.other := by
    rw [State.isUp, State.port, tellLinkLost_ports]
    exact congrArg (· == .up) (dropLink_other p l s)
  have hsome {x : Xfer} (hx : s.inFlight p = some x) := tellLinkLost_some (e := (s.port p).exch) hx p
    s.freeCount (dropLink p l s)
  have hlost {x : Xfer} (hx : s.inFlight p = some x) (y : Port) (n : Nat) :
      LinkLostTold p x (wentOut (s.port p).exch s.freeCount) s
        (afterOwner p y n (tellLinkLost p (s.port p).exch s.freeCount (dropLink p l s))) := by
    rw [hsome hx]
    exact linkLostTold l x _ s y n
  rw [leaveUp_eq] at hports ⊢
  generalize (if Config.leavingPortFirst s.freeCount then p else p.other) = y at hports ⊢
  generalize tellLinkLost p (s.port p).exch s.freeCount (dropLink p l s) = r at *
  have hport (q : Port) := congrArg (Pair.get · q) hports
  have ⟨hchecks, hsticky, _, hentry, hcensus, _⟩ := htold
  refine ⟨?_, ?_, ?_, ⟨wentOut (s.port p).exch s.freeCount, fun x w b h => ?_, fun x hx => hlost hx y _⟩,
    fun v hactive hcode hcarries howner => ?_, ?_, fun hidle => ?_⟩
  · refine (afterOwner_aftermath p y _ r).portChange ?_
    rw [hsticky]
    rfl
  · exact (hport p).trans (Pair.get_set_same _ _ _)
  · exact (hport p.other).trans (Pair.get_set_other _ _ _)
  · rw [h]
    rfl
  · exact broadcast_losesPort (s := { s with sticky := (dropLink p l s).sticky }) y _ hactive hcode hcarries
      howner htold'
  · exact censusTold (s := { s with sticky := (dropLink p l s).sticky }) y _ htold'
  · have hstate : r.census.state = .idle := by
      rcases hcensus with h | ⟨-, -, h⟩ <;> rw [h] <;> exact hidle
    have hrequests := (beforeCensus_moves p r).requests
    rw [afterOwner_of_idle hstate]
    refine checksTold_told y _ ?_ ?_ ?_ fun a => ?_
    · simp [State.censusRunning, hrequests.touches.census, hstate]
    · exact hrequests.touches.checks.trans hchecks
    · rw [← hlinks]
      simp only [State.isUp, State.port, hrequests.touches.ports]
    · have hsame : r.entry a = { s.entry a with toggle := (r.entry a).toggle } := hentry a
      rw [hrequests.entry a, hsame]

/-! ## The port enable (R25) -/

theorem enablePort_enabled {q : Port} (h : (s.port q).link ≠ .disabled) : enablePort q s = s := if_neg h

theorem disablePort_disabled {q : Port} (h : (s.port q).link = .disabled) : disablePort q s = s := by
  simp [disablePort, h]

theorem disablePort_up {q : Port} (h : (s.port q).link = .up) : disablePort q s = leaveUp q .disabled s := by
  simp [disablePort, h]

/-- A port enable written as it stands changes nothing. -/
theorem writePortEnable_same (q : Port) (s : State) : writePortEnable q (s.portEnabled q) s = s := by
  unfold writePortEnable State.portEnabled
  by_cases h : (s.port q).link = .disabled
  · simp [h, disablePort_disabled]
  · simp [h, enablePort_enabled]

/-- A CONTROL byte that clears the enable of a port in UP, and no other's, takes the port out of UP (R25). -/
theorem writeControl_leavesUp {c : Byte} (hup : (s.port p).link = .up) (hp : controlPort c p = false)
    (hother : controlPort c p.other = s.portEnabled p.other) :
    writeControl c s = leaveUp p .disabled (writeControlParams c s) := by
  have hleaves : writePortEnable p false (writeControlParams c s)
      = leaveUp p .disabled (writeControlParams c s) := disablePort_up hup
  have hsame : (leaveUp p .disabled (writeControlParams c s)).portEnabled p.other = s.portEnabled p.other := by
    unfold State.portEnabled State.port
    rw [leaveUp_ports, Pair.get_set_other]
    rfl
  unfold writeControl
  cases p with
  | a =>
    rw [hp, hleaves]
    rw [← hsame] at hother
    exact (congrArg (fun b => writePortEnable .b b _) hother).trans (writePortEnable_same .b _)
  | b =>
    have hfirst : writePortEnable .a (controlPort c .a) (writeControlParams c s) = writeControlParams c s :=
      (congrArg (fun b => writePortEnable .a b _) hother).trans
        (writePortEnable_same .a (writeControlParams c s))
    rw [hfirst, hp, hleaves]

/-- Settles O20: by its enable or by the timer, the port leaves UP. -/
theorem leavingUpTellsTheBlocks : Obligations.LeavingUpTellsTheBlocks := by
  unfold Obligations.LeavingUpTellsTheBlocks
  intro s p c l s0 hup hc own other
  rcases hc with ⟨v, rfl, rfl, hat, hp, hother, rfl⟩ | ⟨rfl, rfl, hreset, htimer, rfl⟩
  · have hleft : LeftUp p .disabled s (leaveUp p .disabled (writeControlParams v s)) :=
      leaveUp_leftUp p .disabled (writeControlParams v s)
    have htouches : TouchesBlocks (writeControlParams v s) (leaveUp p .disabled (writeControlParams v s)) :=
      leaveUp_touches p .disabled _
    refine ⟨_, exec_portEnableClear hat, ?_⟩
    rw [writeControl_leavesUp hup hp hother]
    generalize leaveUp p .disabled (writeControlParams v s) = t at hleft htouches ⊢
    exact ⟨congrArg (counterPast 0x0020) htouches, hleft⟩
  · have hgone : s0.signalGone p = true := by simp [State.signalGone, State.isUp, hup, htimer]
    exact ⟨_, congrArg Host.Outcome.next (event_acts (c := fun t => t.signalGone p) hreset hgone),
      leaveUp_touches p .down s0, leaveUp_leftUp p .down s0⟩

end Sys2Proof.Proofs
end

section
/-! What one command can do to slots, queue, roster, lock, census state and exchanges: a short list of acts, said
once, so that a law of these is kept by every command when it is kept by every act (chapters 2 to 10). -/

namespace Sys2Proof.Proofs

-- one theorem after the other: many proofs elaborated at once ask for a stack each
set_option Elab.async false

open Sys2Proof.Machine Sys2Proof.Safety

/-! ## Acts -/

/-- The requests, the roster, the lock, the census state and what is in flight stand. -/
structure Stands (s t : State) : Prop where
  slots : t.slots = s.slots
  queue : t.completionQueue = s.completionQueue
  roster : t.roster = s.roster
  lock : t.lockHeld = s.lockHeld
  census : t.census.state = s.census.state
  flight : ∀ q, t.inFlight q = s.inFlight q

/-- What a command is made of. -/
inductive Act : State → State → Prop
  | stands {s t : State} (h : Stands s t) : Act s t
  | endExchange {s : State} {p : Port} {x : Xfer} (h : s.inFlight p = some x) (o : PortOutcome) :
      Act s (endExchange p x o s)
  | leaveUp (s : State) (p : Port) (l : LinkState) : Act s (leaveUp p l s)
  | arbitrate {s : State} {p : Port} (h : s.canHand p = true) : Act s (arbitrate p s)
  | takeSlot {s : State} {v : Tag} (h : s.lowestFree = some v) : Act s (settle (takeSlot v s))
  | cancelWaiting {s : State} {v : Tag} (h : (s.slot v).waiting = true) :
      Act s (settle (finish v .cancelled s))
  | cancelActive {s : State} {v : Tag} (h : (s.slot v).state = .active) : Act s (cancelActive v s)
  | endBcast {s : State} {v : Tag} (h : (s.slot v).state = .active) : Act s (settle (cancelActive v s))
  | popHead {s : State} {v : Tag} {rest : List Tag} (h : s.completionQueue = v :: rest) :
      Act s (popHead v rest s)
  | startCensus {s : State} (h : s.censusRunning = false) : Act s (startCensus s)
  | openLock (s : State) : Act s { s with lockHeld := false }
  | softReset (s : State) : Act s (softReset s)
  | hardwareReset (s : State) : Act s (hardwareReset s)
  | makeClear {s : State} (h : s.drained = true) : Act s (makeClear s)
  | endSettle {s : State} (h : s.settling = true) : Act s (endSettle s)
  | makeStop (s : State) : Act s (makeStop s)
  | endBackoff (s : State) (v : Tag) : Act s (endBackoff v s)
  | startProbing (s : State) (p : Port) : Act s (startProbing p s)

variable {s t u : State} {p : Port}

/-- One act after the other. -/
abbrev Acts : State → State → Prop := Relation.ReflTransGen Act

theorem Acts.of (h : Act s t) : Acts s t := .single h

theorem Acts.of_stands (h : Stands s t) : Acts s t := .of (.stands h)

theorem Acts.then_stands (h : Acts s t) (k : Stands t u) : Acts s u := h.tail (.stands k)

/-- What every act keeps, a chain of acts keeps. -/
theorem Acts.keep {I : State → Prop} (hact : ∀ {s t}, Act s t → I s → I t) (h : Acts s t) (hs : I s) : I t := by
  induction h with
  | refl => exact hs
  | tail _ hlast ih => exact hact hlast ih

/-! ## What leaves the acts' world as it is -/

theorem Stands.refl (s : State) : Stands s s := ⟨rfl, rfl, rfl, rfl, rfl, fun _ => rfl⟩

theorem flight_of_ports (h : t.ports = s.ports) (q : Port) : t.inFlight q = s.inFlight q := by
  unfold State.inFlight State.port
  rw [h]

/-- A port that makes the same exchange as before. -/
theorem stands_setPort {y : ChainPort} (h : y.exch.xfer = s.inFlight p) : Stands s (s.setPort p y) := by
  refine ⟨rfl, rfl, rfl, rfl, rfl, fun q => ?_⟩
  unfold State.inFlight
  rcases Port.eq_or_other p q with rfl | rfl
  · rw [State.port_setPort_same, h]
    rfl
  · rw [State.port_setPort_other]

theorem stands_setStatus (a : Nat) (m : MirrorEntry) (s : State) : Stands s (s.setStatus a m) :=
  ⟨by simp, by simp, by simp, by simp, by simp, flight_of_ports (by simp)⟩

theorem stands_writeMirrorCtrl (c : Byte) (s : State) : Stands s (writeMirrorCtrl c s) := by
  obtain ⟨hslots, hqueue, hroster, hlock, hcensus, hflight⟩ :=
    stands_setStatus s.mirrorSel.toNat (mirrorAction c (s.status s.mirrorSel.toNat)) s
  exact ⟨hslots, hqueue, hroster, hlock, hcensus, hflight⟩

/-! ## Receptions -/

theorem acts_timeoutExchange {x : Xfer} (h : s.inFlight p = some x) : Acts s (timeoutExchange p x s) := by
  have hcount : Stands s (countTimeout p s) := stands_setPort rfl
  exact (Acts.of_stands hcount).tail (.endExchange ((hcount.flight p).trans h) _)

theorem acts_afterDiscard {x : Xfer} (h : s.inFlight p = some x) (b : Bool) : Acts s (afterDiscard p x b s) := by
  unfold afterDiscard
  split
  · exact acts_timeoutExchange h
  · exact .refl

theorem acts_judgeInWindow {x : Xfer} (h : s.inFlight p = some x) (b : Bool) (r : Reception) :
    Acts s (judgeInWindow p x b r s) := by
  have hcounted {r : State} (hr : Stands s r) (o : PortOutcome) : Acts s (endExchange p x o r) :=
    (Acts.of_stands hr).tail (.endExchange ((hr.flight p).trans h) o)
  have hsymbol : Stands s (countSymbolError p s) := stands_setPort rfl
  have hcrc : Stands s (countCrcError p s) := stands_setPort rfl
  have hstray : Stands s (countStray p s) := stands_setPort rfl
  unfold judgeInWindow
  split
  · exact hcounted hsymbol _
  · split
    · exact hcounted hcrc _
    · exact acts_afterDiscard h b
    · split
      · exact hcounted (.refl s) _
      · exact (Acts.of_stands hstray).trans (acts_afterDiscard ((hstray.flight p).trans h) b)

theorem stands_judgeOutside (r : Reception) (s : State) : Stands s (judgeOutside p r s) := by
  unfold judgeOutside
  split
  · exact stands_setPort rfl
  · split
    · exact stands_setPort rfl
    · exact .refl s
    · exact stands_setPort rfl

theorem stands_setRx (r : Receiving) (s : State) : Stands s (s.setRx p r) := stands_setPort rfl

theorem inFlight_of_awaiting {x : Xfer} {w : Nat} {b : Bool} (h : (s.port p).exch = .awaiting x w b) :
    s.inFlight p = some x := by
  unfold State.inFlight
  rw [h]
  rfl

theorem acts_endReception (r : Reception) (s : State) : Acts s (endReception p r s) := by
  unfold endReception
  split
  · exact .refl
  · exact (Acts.of_stands (stands_setRx _ s)).then_stands (stands_judgeOutside r _)
  · have hrx : Stands s (s.setRx p .nothing) := stands_setRx _ s
    split
    · next x _ b hexch =>
      exact (Acts.of_stands hrx).trans
        (acts_judgeInWindow ((hrx.flight p).trans (inFlight_of_awaiting hexch)) b r)
    · exact .of_stands hrx

theorem stands_beginReception (s : State) : Stands s (beginReception p s) := by
  unfold beginReception
  split
  · exact stands_setRx _ s
  · exact stands_setRx _ s
  · exact .refl s

theorem acts_loseReception (s : State) : Acts s (loseReception p s) := by
  have hrx : Stands s (s.setRx p .nothing) := stands_setRx _ s
  unfold loseReception
  split
  · next x _ b _ hexch =>
    exact (Acts.of_stands hrx).trans
      (acts_afterDiscard ((hrx.flight p).trans (inFlight_of_awaiting hexch)) b)
  · exact .of_stands hrx

/-! ## Windows, sending and links -/

theorem acts_windowRunsOut (s : State) : Acts s (windowRunsOut p s) := by
  unfold windowRunsOut
  split
  · next x w hexch =>
    split
    · exact .of_stands (stands_setPort (inFlight_of_awaiting hexch).symm)
    · exact acts_timeoutExchange (inFlight_of_awaiting hexch)
  · exact .refl

theorem acts_finishSending (s : State) : Acts s (finishSending p s) := by
  unfold finishSending
  split
  · next x hexch =>
    have hflight : s.inFlight p = some x := by
      unfold State.inFlight
      rw [hexch]
      rfl
    unfold frameGone
    split
    · exact .of (.endExchange hflight _)
    · exact .of_stands (stands_setPort hflight.symm)
  · exact .refl

theorem acts_writePortEnable (p : Port) (on : Bool) (s : State) : Acts s (writePortEnable p on s) := by
  unfold writePortEnable enablePort disablePort
  split
  · split
    · exact .of_stands (stands_setPort rfl)
    · exact .refl
  · split
    · exact .of (.leaveUp _ p _)
    · exact .refl
    · exact .of_stands (stands_setPort rfl)

theorem acts_writeControl (v : Byte) (s : State) : Acts s (writeControl v s) := by
  have hparams : Stands s (writeControlParams v s) := ⟨rfl, rfl, rfl, rfl, rfl, fun _ => rfl⟩
  unfold writeControl
  exact (Acts.of_stands hparams).trans
    ((acts_writePortEnable .a _ _).trans (acts_writePortEnable .b _ _))

/-! ## Commands of CMD -/

theorem acts_submit (h : submitAnswer s = .taken t) : Acts s t := by
  unfold submitAnswer at h
  split at h
  · next v hfree =>
    rw [← Answer.taken.inj h]
    exact .of (.takeSlot hfree)
  · rw [← Answer.taken.inj h]
    exact .of_stands ⟨rfl, rfl, rfl, rfl, rfl, fun _ => rfl⟩

theorem acts_cancelSlot {v : Tag} (h : cancelSlot v s = .taken t) : Acts s t := by
  unfold cancelSlot at h
  split at h
  · next hstate =>
    rw [← Answer.taken.inj h]
    exact .of (.cancelWaiting (by simp [Slot.waiting, hstate]))
  · next hstate =>
    rw [← Answer.taken.inj h]
    exact .of (.cancelWaiting (by simp [Slot.waiting, hstate]))
  · next hstate =>
    split at h
    · rw [← Answer.taken.inj h]
      exact .of (.endBcast hstate)
    · rw [← Answer.taken.inj h]
      exact .of (.cancelActive hstate)
  · nomatch h
  · nomatch h

theorem acts_cancel (h : cancelAnswer s = .taken t) : Acts s t := by
  unfold cancelAnswer at h
  split at h
  · exact acts_cancelSlot h
  · nomatch h

theorem acts_popCompletion (h : popCompletionAnswer s = .taken t) : Acts s t := by
  unfold popCompletionAnswer at h
  split at h
  · nomatch h
  · next hqueue =>
    rw [← Answer.taken.inj h]
    exact .of (.popHead hqueue)

theorem acts_popNotice (h : popNoticeAnswer s = .taken t) : Acts s t := by
  unfold popNoticeAnswer at h
  split at h
  · nomatch h
  · rw [← Answer.taken.inj h]
    exact .of_stands ⟨rfl, rfl, rfl, rfl, rfl, fun _ => rfl⟩

theorem acts_startCensus (h : startCensusAnswer s = .taken t) : Acts s t := by
  unfold startCensusAnswer at h
  split at h
  · nomatch h
  · next hidle =>
    rw [← Answer.taken.inj h]
    exact .of (.startCensus (by simpa using hidle))

theorem acts_abortCensus (h : abortCensusAnswer s = .taken t) : Acts s t := by
  unfold abortCensusAnswer at h
  split at h
  · rw [← Answer.taken.inj h]
    exact .of_stands ⟨rfl, rfl, rfl, rfl, rfl, fun _ => rfl⟩
  · nomatch h

theorem acts_acceptRoster (h : acceptRosterAnswer s = .taken t) : Acts s t := by
  unfold acceptRosterAnswer at h
  split at h
  · rw [← Answer.taken.inj h]
    exact .of (.openLock s)
  · rw [← Answer.taken.inj h]
    exact .of (.openLock s)
  · nomatch h
  · nomatch h

/-- A command taken is a chain of acts (R172). -/
theorem acts_commandAnswer {code : Byte} (h : commandAnswer code s = .taken t) : Acts s t := by
  unfold commandAnswer at h
  split at h
  · exact acts_submit h
  · exact acts_cancel h
  · exact acts_popCompletion h
  · exact acts_popNotice h
  · exact acts_startCensus h
  · exact acts_abortCensus h
  · exact acts_acceptRoster h
  · rw [← Answer.taken.inj h]
    exact .of_stands ⟨rfl, rfl, rfl, rfl, rfl, fun _ => rfl⟩
  · rw [← Answer.taken.inj h]
    exact .of (.softReset s)
  · nomatch h

theorem acts_writeCmd (code : Byte) (s : State) : Acts s (writeCmd code s) := by
  unfold writeCmd answerCommand
  split
  · next t htaken =>
    exact (acts_commandAnswer htaken).then_stands ⟨rfl, rfl, rfl, rfl, rfl, fun _ => rfl⟩
  · exact .of_stands ⟨rfl, rfl, rfl, rfl, rfl, fun _ => rfl⟩

/-- A byte written to any register is a chain of acts (R170). -/
theorem acts_writeRegister (a : RegAddr) (v : Byte) (s : State) : Acts s (writeRegister a v s) := by
  unfold writeRegister
  repeat' split
  · exact acts_writeCmd v s
  · exact .of_stands ⟨rfl, rfl, rfl, rfl, rfl, fun _ => rfl⟩
  · exact .of_stands ⟨rfl, rfl, rfl, rfl, rfl, fun _ => rfl⟩
  · exact .of_stands ⟨rfl, rfl, rfl, rfl, rfl, fun _ => rfl⟩
  · exact .of_stands ⟨rfl, rfl, rfl, rfl, rfl, fun _ => rfl⟩
  · exact acts_writeControl v s
  · exact .of_stands ⟨rfl, rfl, rfl, rfl, rfl, fun _ => rfl⟩
  · exact .of_stands ⟨rfl, rfl, rfl, rfl, rfl, fun _ => rfl⟩
  · exact .of_stands ⟨rfl, rfl, rfl, rfl, rfl, fun _ => rfl⟩
  · exact .of_stands ⟨rfl, rfl, rfl, rfl, rfl, fun _ => rfl⟩
  · exact .of_stands (stands_writeMirrorCtrl v s)
  · exact .of_stands ⟨rfl, rfl, rfl, rfl, rfl, fun _ => rfl⟩

/-! ## Every command -/

theorem acts_hostWrite {a : RegAddr} {f : State → State} (hf : Acts s (f s)) : Acts s (hostWrite a f s) := by
  rcases hostWrite_cases a f s with ⟨-, heq⟩ | heq
  · rw [heq]
    exact hf.then_stands ⟨rfl, rfl, rfl, rfl, rfl, fun _ => rfl⟩
  · rw [heq]

theorem acts_hostRead {a : RegAddr} {f : State → State} (hf : Stands s (f s)) : Acts s (hostRead a f s) := by
  rcases hostRead_cases a f s with ⟨-, heq⟩ | heq
  · rw [heq]
    exact (Acts.of_stands hf).then_stands ⟨rfl, rfl, rfl, rfl, rfl, fun _ => rfl⟩
  · rw [heq]

theorem acts_outsideReset {f : State → State} (hf : Acts s (f s)) : Acts s (outsideReset f s) := by
  unfold outsideReset
  split
  · exact .refl
  · exact hf

theorem acts_event {c : State → Bool} {f : State → State} (hf : c s = true → Acts s (f s)) :
    Acts s (outsideReset (onlyIf c f) s) := by
  refine acts_outsideReset ?_
  unfold onlyIf
  split
  · next hc => exact hf hc
  · exact .refl

/-- Every command is a chain of acts, or a port that was ALIGNING enters UP (R29). -/
theorem exec_acts (c : Instr) (hexec : exec c s = .next t) :
    Acts s t ∨ ∃ q, (s.port q).link = .aligning ∧ t = enterUp q s := by
  have hhost {a : RegAddr} {f : State → State} (hf : Stands s (f s)) :
      Acts s (hostWrite a f s) := acts_hostWrite (.of_stands hf)
  have hcode {f : State → State} (code : Byte) (hf : f s = writeCmd code s) :
      Acts s (hostWrite Reg.cmd f s) := acts_hostWrite (hf ▸ acts_writeCmd code s)
  have hcontrol (v : Byte) : Acts s (hostWrite Reg.control (writeControl v) s) :=
    acts_hostWrite (acts_writeControl v s)
  have hmirror (v : Byte) : Acts s (hostWrite Reg.mirrorCtrl (writeMirrorCtrl v) s) :=
    hhost (stands_writeMirrorCtrl v s)
  have hlink {q : Port} {l m : LinkState} :
      Acts s (outsideReset (onlyIf (fun t => t.linkIs q l) (moveLink q m)) s) :=
    acts_event fun _ => .of_stands (stands_setPort rfl)
  cases c <;> cases hexec
  case idleRunComplete q =>
    unfold outsideReset onlyIf
    split
    · exact .inl .refl
    · split
      · next halign =>
        refine .inr ⟨q, eq_of_beq halign, ?_⟩
        exact completeRun_aligning q s (eq_of_beq halign)
      · exact .inl .refl
  all_goals left
  case submit => exact hcode 0x01 rfl
  case cancel => exact hcode 0x02 rfl
  case popCompletion => exact hcode 0x03 rfl
  case popNotice => exact hcode 0x04 rfl
  case startCensus => exact hcode 0x10 rfl
  case abortCensus => exact hcode 0x11 rfl
  case acceptRoster => exact hcode 0x12 rfl
  case clearAllChanged => exact hcode 0x20 rfl
  case softReset => exact hcode 0x5A rfl
  case unknownCommand code => exact hcode code rfl
  case setWatch => exact hmirror _
  case clearWatch => exact hmirror _
  case clearChanged => exact hmirror _
  case mirrorCtrlUndefinedAction code => exact hmirror _
  case rosterSelWrite v => exact hhost ⟨rfl, rfl, rfl, rfl, rfl, fun _ => rfl⟩
  case mirrorSelWrite v => exact hhost ⟨rfl, rfl, rfl, rfl, rfl, fun _ => rfl⟩
  case causeClear w v => exact hhost ⟨rfl, rfl, rfl, rfl, rfl, fun _ => rfl⟩
  case enableWrite w v => exact hhost ⟨rfl, rfl, rfl, rfl, rfl, fun _ => rfl⟩
  case portEnableSet q v => exact hcontrol v
  case portEnableClear q v => exact hcontrol v
  case sweepEnableOn v => exact hcontrol v
  case sweepEnableOff v => exact hcontrol v
  case replyBaseLowWrite v => exact hhost ⟨rfl, rfl, rfl, rfl, rfl, fun _ => rfl⟩
  case replyBaseHighWrite v => exact hhost ⟨rfl, rfl, rfl, rfl, rfl, fun _ => rfl⟩
  case registerWrite a v => exact acts_hostWrite (acts_writeRegister a v s)
  case counterRead q k =>
    refine acts_hostRead (stands_setPort ?_)
    cases k <;> rfl
  case timeoutsLowRead q => exact acts_hostRead (stands_setPort rfl)
  case msecTimerLowRead => exact acts_hostRead ⟨rfl, rfl, rfl, rfl, rfl, fun _ => rfl⟩
  case dupNoticesRead => exact acts_hostRead ⟨rfl, rfl, rfl, rfl, rfl, fun _ => rfl⟩
  case csnFall =>
    unfold csnFalls
    split
    · split <;> exact .of_stands ⟨rfl, rfl, rfl, rfl, rfl, fun _ => rfl⟩
    · exact .refl
  case headerComplete v => exact acts_event fun _ => .of_stands ⟨rfl, rfl, rfl, rfl, rfl, fun _ => rfl⟩
  case csnRise =>
    unfold csnRises
    split
    · exact .refl
    · split <;> exact .of_stands ⟨rfl, rfl, rfl, rfl, rfl, fun _ => rfl⟩
  case resetnLow => exact (Acts.of (.hardwareReset s)).then_stands ⟨rfl, rfl, rfl, rfl, rfl, fun _ => rfl⟩
  case resetnHigh =>
    unfold leaveReset
    split
    · exact .of (.hardwareReset s)
    · exact .refl
  case signalDetected q => exact hlink
  case aligningSignalLoss q => exact hlink
  case signalAbsent q =>
    have htimer : Stands s (setLossTimer q true s) := stands_setPort rfl
    exact acts_event fun _ => (Acts.of_stands htimer).trans (acts_loseReception _)
  case signalReturn q => exact acts_event fun _ => .of_stands (stands_setPort rfl)
  case signalLossTimerExpiry q => exact acts_event fun _ => .of (.leaveUp s q _)
  case arbiterHand q => exact acts_event fun hc => .of (.arbitrate hc)
  case frameSent q => exact acts_outsideReset (acts_finishSending s)
  case replyWindowExpiry q => exact acts_outsideReset (acts_windowRunsOut s)
  case frameReceived q r => exact acts_event fun _ => acts_endReception r s
  case lateFrame q r => exact acts_event fun _ => acts_endReception r s
  case censusClear => exact acts_event fun hc => .of (.makeClear hc)
  case releaseSettleExpiry => exact acts_event fun hc => .of (.endSettle hc)
  case censusStop => exact acts_outsideReset (.of (.makeStop s))
  case backoffExpiry v => exact acts_event fun _ => .of (.endBackoff s v)
  case msecTick => exact acts_outsideReset (.of_stands ⟨rfl, rfl, rfl, rfl, rfl, fun _ => rfl⟩)
  case probingBegin q => exact acts_event fun _ => .of (.startProbing s q)
  case startDelimiterReceived q =>
    exact acts_event fun _ => (acts_endReception _ s).then_stands (stands_beginReception _)
  case idleRunReset q => exact hlink

theorem stands_plainReadByte (s : State) : Stands s (plainReadByte s) := by
  unfold plainReadByte
  split
  · exact ⟨rfl, rfl, rfl, rfl, rfl, fun _ => rfl⟩
  · exact .refl s

/-- A law kept by every act and by a port that enters UP from ALIGNING is kept by every step. -/
theorem step_keeps {I : State → Prop} (hact : ∀ {s t}, Act s t → I s → I t)
    (hup : ∀ {s : State} {q : Port}, (s.port q).link = .aligning → I s → I (enterUp q s))
    (hs : I s) (hstep : step s = .next t) : I t := by
  have hstands {r r' : State} (h : Stands r r') : I r → I r' := hact (.stands h)
  have hidle (q : Port) {r : State} (hr : I r) : I (hearIdle q r) := by
    unfold hearIdle
    split
    · next halign =>
      simp only
      split
      · exact hstands (stands_setPort rfl) hr
      · exact hup (eq_of_beq halign) hr
    · exact hr
  unfold step at hstep
  split at hstep
  · cases hstep
    have hread : I (plainReadByte s) := hstands (stands_plainReadByte s) hs
    unfold idleSymbols outsideReset
    split
    · exact hread
    · exact hidle .b (hidle .a hread)
  · next rest _ =>
    have hrest : I { s with pending := rest } := hstands (r := s) ⟨rfl, rfl, rfl, rfl, rfl, fun _ => rfl⟩ hs
    rcases exec_acts _ hstep with hacts | ⟨q, halign, rfl⟩
    · exact hacts.keep hact hrest
    · exact hup halign hrest

end Sys2Proof.Proofs
end

section
/-! The roster law and what settling keeps: the front checks, the reach checks and the reports of an exchange change
entries only inside Law 6 (R43, R45, R50), end waiting slots or choose a broadcast, and leave everything else of the
requests (R85, R91, R107, R120, R166). -/

namespace Sys2Proof.Proofs

-- one theorem after the other: many proofs elaborated at once ask for a stack each
set_option Elab.async false

open Sys2Proof.Machine Sys2Proof.Safety

variable {s t u : State} {p : Port} {a : Nat} {e : RosterEntry}

/-! ## Entries -/

/-- Every entry that obeys its law still does. -/
def KeepsEntries (s t : State) : Prop := ∀ b, EntryLaw (s.entry b) → EntryLaw (t.entry b)

theorem KeepsEntries.refl (s : State) : KeepsEntries s s := fun _ h => h

theorem KeepsEntries.trans (h : KeepsEntries s t) (k : KeepsEntries t u) : KeepsEntries s u :=
  fun b hb => k b (h b hb)

theorem KeepsEntries.of_roster (h : t.roster = s.roster) : KeepsEntries s t := fun b hb => by
  rw [State.entry_eq_of_roster h]
  exact hb

theorem setEntry_keepsEntries (h : EntryLaw (s.entry a) → EntryLaw e) : KeepsEntries s (s.setEntry a e) := by
  intro b hb
  rw [State.entry_setEntry]
  split
  · next hba =>
    obtain ⟨rfl, -⟩ := hba
    exact h hb
  · exact hb

theorem entryLaw_vacant : EntryLaw RosterEntry.vacant := rfl

/-- What the law asks of an entry that is present. -/
theorem entryLaw_present (h : e.state ≠ .vacant) :
    EntryLaw e ↔ (e.live = true → (∃ q, e.route = some q ∧ (e.hops.get q).isSome) ∧ e.lostMark = false)
      ∧ (e.live = false → e.route = none ∧ e.lostMark = true) ∧ e.identity.isSome ∧ e.failCount ≤ 15 := by
  unfold EntryLaw RosterEntry.live
  cases hstate : e.state with
  | vacant => exact absurd hstate h
  | active => simp [and_assoc]
  | suspect => simp [and_assoc]
  | lost => simp [and_assoc]

theorem present_of_live (h : e.live = true) : e.state ≠ .vacant := by
  rcases (live_iff e).1 h with hs | hs <;> simp [hs]

/-- A live entry that stays live, routed and marked as before, obeys the law again. -/
theorem entryLaw_live {f : RosterEntry} (hlive : e.live = true) (hlive' : f.live = true)
    (hroute : ∀ q, e.route = some q → (e.hops.get q).isSome → ∃ r, f.route = some r ∧ (f.hops.get r).isSome)
    (hmark : f.lostMark = e.lostMark) (hidentity : f.identity = e.identity) (hcount : e.failCount ≤ 15 → f.failCount ≤ 15)
    (h : EntryLaw e) : EntryLaw f := by
  obtain ⟨hlaw, -, hid, hfail⟩ := (entryLaw_present (present_of_live hlive)).1 h
  obtain ⟨⟨q, hq, hhops⟩, hnot⟩ := hlaw hlive
  refine (entryLaw_present (present_of_live hlive')).2
    ⟨fun _ => ⟨hroute q hq hhops, hmark.trans hnot⟩, fun hdead => ?_, by rw [hidentity]; exact hid, hcount hfail⟩
  rw [hlive'] at hdead
  nomatch hdead

theorem satInc_le_top (top n : Nat) : satInc top n ≤ top := by
  unfold satInc
  split <;> omega

/-! ## Reports of an exchange (R46 to R50) -/

theorem setToggle_keepsEntries (a : Nat) (g : Toggle) (s : State) : KeepsEntries s (setToggle a g s) := by
  unfold setToggle
  split
  · exact .refl s
  · next hpresent =>
    exact setEntry_keepsEntries fun h => (entryLaw_present (e := { s.entry a with toggle := g }) hpresent).2
      ((entryLaw_present hpresent).1 h)

theorem setLastSeq_keepsEntries (a : Nat) (q : Option Seq) (s : State) : KeepsEntries s (setLastSeq a q s) := by
  unfold setLastSeq
  split
  · exact .refl s
  · next hpresent =>
    exact setEntry_keepsEntries fun h => (entryLaw_present (e := { s.entry a with lastSeq := q }) hpresent).2
      ((entryLaw_present hpresent).1 h)

theorem reportGood_keepsEntries (a : Nat) (s : State) : KeepsEntries s (reportGood a s) := by
  unfold reportGood
  split
  · next hlive =>
    exact setEntry_keepsEntries
      (entryLaw_live hlive hlive (fun q hq hhops => ⟨q, hq, hhops⟩) rfl rfl fun _ => Nat.zero_le _)
  · exact .refl s

theorem signalCheck_roster (q : Port) (a : Nat) (s : State) : (signalCheck q a s).roster = s.roster := by
  unfold signalCheck
  split <;> rfl

theorem reportFailure_keepsEntries (a : Nat) (s : State) : KeepsEntries s (reportFailure a s) := by
  unfold reportFailure
  simp only
  split
  · next hlive =>
    split
    · have hsuspect : KeepsEntries s (s.setEntry a
          { s.entry a with failCount := satInc 15 (s.entry a).failCount, state := .suspect }) :=
        setEntry_keepsEntries
          (entryLaw_live hlive rfl (fun q hq hhops => ⟨q, hq, hhops⟩) rfl rfl fun _ => satInc_le_top 15 _)
      split
      · split
        · exact hsuspect
        · exact hsuspect.trans (.of_roster (signalCheck_roster _ _ _))
      · exact hsuspect
    · exact setEntry_keepsEntries
        (entryLaw_live hlive hlive (fun q hq hhops => ⟨q, hq, hhops⟩) rfl rfl fun _ => satInc_le_top 15 _)
  · exact .refl s

theorem answered_keepsEntries (a : Nat) (s : State) : KeepsEntries s (answered a s) := by
  unfold answered
  split
  · next hsuspect =>
    exact setEntry_keepsEntries
      (entryLaw_live (by simp [RosterEntry.live, hsuspect]) rfl (fun q hq hhops => ⟨q, hq, hhops⟩) rfl rfl id)
  · exact .refl s

theorem loseModule_keepsEntries (x : Port) (a : Nat) (s : State) : KeepsEntries s (loseModule x a s) := by
  intro b hb
  rw [loseModule_entry]
  split
  · next hlost =>
    obtain ⟨rfl, hlive⟩ := hlost
    obtain ⟨-, -, hid, hfail⟩ := (entryLaw_present (present_of_live hlive)).1 hb
    exact ⟨rfl, rfl, hid, hfail⟩
  · exact hb

theorem rerouteModule_keepsEntries {x : Port} (h : canReroute (s.entry a) x.other = true) :
    KeepsEntries s (rerouteModule x a s) := by
  simp only [canReroute, Bool.and_eq_true] at h
  obtain ⟨hlive, hhops⟩ := h
  have hentry : KeepsEntries s (s.setEntry a (reroutedEntry (s.entry a) x.other)) :=
    setEntry_keepsEntries (entryLaw_live hlive rfl (fun _ _ _ => ⟨x.other, rfl, hhops⟩) rfl rfl id)
  exact hentry.trans (.of_roster rfl)

theorem complete_keepsEntries (v : Tag) (st : Status) (late : Bool) (data : List Byte) (s : State) :
    KeepsEntries s (complete v st late data s) := by
  by_cases h : (s.slot v).unfinished = true
  · have hqueued : KeepsEntries s (queuedDone v st late data s) := .of_roster rfl
    rcases complete_unfinished v st late data h with ⟨heq, -⟩ | ⟨b, heq, -⟩
    · rw [heq]
      exact hqueued
    · rw [heq]
      exact hqueued.trans (setToggle_keepsEntries b .unsure _)
  · rw [complete_finished v st late data (by simpa using h)]
    exact .refl s

/-! ## Settling -/

/-- A broadcast chosen at the front: ACTIVE with a port to carry it, with no census running, under an OPEN lock
(R105, R107, R120). -/
def Chosen (s : State) (y : Slot) : Prop :=
  y.state = .active ∧ y.isBcast = true ∧ (∃ q, y.bcastPorts.get q = true)
    ∧ s.censusRunning = false ∧ s.lockHeld = false

/-- A slot stands, or a waiting one is DONE or chosen. -/
def WaitMoves (s : State) (x y : Slot) : Prop :=
  y = x ∨ (x.waiting = true ∧ (y.state = .done ∨ Chosen s y))

/-- What settling and the reports of an exchange may do to slots, queue and entries. -/
structure Settles (s t : State) : Prop where
  lock : t.lockHeld = s.lockHeld
  census : t.census.state = s.census.state
  flight : ∀ q, t.inFlight q = s.inFlight q
  slot : ∀ v, WaitMoves s (s.slot v) (t.slot v)
  queue : QueueLaw s → QueueLaw t
  entries : KeepsEntries s t

theorem WaitMoves.eq_of_not_waiting {x y : Slot} (h : WaitMoves s x y) (hx : x.waiting = false) : y = x := by
  rcases h with h | ⟨hw, -⟩
  · exact h
  · rw [hx] at hw
    nomatch hw

theorem queueLaw_of_eq (hslots : t.slots = s.slots) (hqueue : t.completionQueue = s.completionQueue)
    (h : QueueLaw s) : QueueLaw t := by
  unfold QueueLaw at h ⊢
  rw [hqueue]
  exact ⟨h.1, fun v => by rw [State.slot_eq_of_slots hslots]; exact h.2 v⟩

/-- Where the requests stand, only the entries are to be looked at. -/
theorem Settles.of_entries (hslots : t.slots = s.slots) (hqueue : t.completionQueue = s.completionQueue)
    (hlock : t.lockHeld = s.lockHeld) (hcensus : t.census.state = s.census.state)
    (hports : t.ports = s.ports) (hentries : KeepsEntries s t) : Settles s t where
  lock := hlock
  census := hcensus
  flight := flight_of_ports hports
  slot v := .inl (State.slot_eq_of_slots hslots v)
  queue := queueLaw_of_eq hslots hqueue
  entries := hentries

theorem Settles.of_stands (h : Stands s t) : Settles s t where
  lock := h.lock
  census := h.census
  flight := h.flight
  slot v := .inl (State.slot_eq_of_slots h.slots v)
  queue := queueLaw_of_eq h.slots h.queue
  entries := .of_roster h.roster

theorem Settles.refl (s : State) : Settles s s := .of_stands (.refl s)

theorem chosen_congr (hlock : t.lockHeld = s.lockHeld) (hcensus : t.census.state = s.census.state) {y : Slot}
    (h : Chosen t y) : Chosen s y := by
  unfold Chosen State.censusRunning at h ⊢
  rw [hlock, hcensus] at h
  exact h

theorem waiting_of_finishedOrActive {y : Slot} (h : y.state = .done ∨ y.state = .active) : y.waiting = false := by
  rcases h with h | h <;> simp [Slot.waiting, h]

theorem Settles.trans (h : Settles s t) (k : Settles t u) : Settles s u where
  lock := k.lock.trans h.lock
  census := k.census.trans h.census
  flight q := (k.flight q).trans (h.flight q)
  slot v := by
    rcases h.slot v with hstays | ⟨hwaits, hmoves⟩
    · have hk := k.slot v
      rw [hstays] at hk
      exact hk.imp_right fun ⟨hwaits, hmoves⟩ => ⟨hwaits, hmoves.imp_right (chosen_congr h.lock h.census)⟩
    · have hrests : (t.slot v).waiting = false := waiting_of_finishedOrActive (hmoves.imp_right fun hc => hc.1)
      rw [(k.slot v).eq_of_not_waiting hrests]
      exact .inr ⟨hwaits, hmoves⟩
  queue hq := k.queue (h.queue hq)
  entries := h.entries.trans k.entries

theorem settles_setCheck (x : Port) (c : Check) (s : State) : Settles s (s.setCheck x c) := .of_stands ⟨rfl, rfl, rfl, rfl, rfl, fun _ => rfl⟩

/-! ## Ending a waiting slot -/

/-- A slot made DONE joins the queue, which did not hold it (R84, R91). -/
theorem queueLaw_complete (v : Tag) (st : Status) (late : Bool) (data : List Byte)
    (h : QueueLaw s) : QueueLaw (complete v st late data s) := by
  by_cases hu : (s.slot v).unfinished = true
  · obtain ⟨hnodup, hdone⟩ := h
    have hout : v ∉ s.completionQueue := fun hin => not_done_of_unfinished hu ((hdone v).1 hin)
    unfold QueueLaw
    rw [complete_queue v st late data hu]
    refine ⟨?_, fun w => ?_⟩
    · rw [List.nodup_append]
      refine ⟨hnodup, List.nodup_singleton v, fun w hw x hx => ?_⟩
      rw [List.mem_singleton.1 hx]
      exact fun heq => hout (heq ▸ hw)
    · rw [complete_slot v st late data hu, List.mem_append, List.mem_singleton]
      split
      · next hwv => simp [hwv, doneSlot]
      · next hwv => simp [hwv, hdone w]
  · rw [complete_finished v st late data (by simpa using hu)]
    exact h

theorem settles_complete {v : Tag} (h : (s.slot v).waiting = true) (st : Status) (late : Bool) (data : List Byte) :
    Settles s (complete v st late data s) := by
  have htouches := complete_touches v st late data s
  refine ⟨htouches.lockHeld, by rw [htouches.census], flight_of_ports htouches.ports, fun w => ?_,
    queueLaw_complete v st late data, complete_keepsEntries v st late data s⟩
  rw [complete_slot v st late data (unfinished_of_waiting h)]
  split
  · next hwv =>
    rw [hwv]
    exact .inr ⟨h, .inl rfl⟩
  · exact .inl rfl

theorem settles_finish {v : Tag} (h : (s.slot v).waiting = true) (st : Status) : Settles s (finish v st s) :=
  settles_complete h st false []

theorem settles_foldl {f : State → Tag → State} (hf : ∀ s v, Settles s (f s v)) (l : List Tag) (s : State) :
    Settles s (l.foldl f s) := foldl_relates .refl .trans hf l s

/-! ## The front (R105, R107, R120) -/

/-- The front checks let a broadcast pass only under an OPEN lock. -/
theorem lockOpen_of_frontCheck {x : Slot} (hbcast : x.isBcast = true) (h : s.frontCheck x = none) :
    s.lockHeld = false := by
  have hkind : x.kind = some .bcastWrite := by simpa [Slot.isBcast] using hbcast
  by_contra hheld
  simp [State.frontCheck, hkind, ReqKind.targeted, ReqKind.lockRefuses, hheld] at h

theorem pair_get_exists {x : Pair Bool} : (∃ q, x.get q = true) ↔ (x.a || x.b) = true := by
  simp only [Bool.or_eq_true]
  constructor
  · rintro ⟨q, hq⟩
    cases q with
    | a => exact .inl hq
    | b => exact .inr hq
  · rintro (h | h)
    · exact ⟨.a, h⟩
    · exact ⟨.b, h⟩

theorem settles_chooseBcast {v : Tag} (hwaits : (s.slot v).waiting = true) (hbcast : (s.slot v).isBcast = true)
    (hcensus : s.censusRunning = false) (hopen : s.lockHeld = false) : Settles s (chooseBcast v s) := by
  unfold chooseBcast
  simp only
  split
  · next hports =>
    refine ⟨rfl, rfl, fun _ => rfl, fun w => ?_, fun ⟨hnodup, hdone⟩ => ⟨hnodup, fun w => ?_⟩, .of_roster rfl⟩
    · rw [State.slot_setSlot]
      split
      · next hwv =>
        rw [hwv]
        exact .inr ⟨hwaits, .inr ⟨rfl, hbcast, pair_get_exists.2 hports, hcensus, hopen⟩⟩
      · exact .inl rfl
    · rw [State.slot_setSlot]
      split
      · next hwv =>
        have hnot : (s.slot w).state ≠ .done := by
          rw [hwv]
          exact not_done_of_unfinished (unfinished_of_waiting hwaits)
        exact ⟨fun hin => absurd ((hdone w).1 hin) hnot, nofun⟩
      · exact hdone w
  · exact settles_finish hwaits _

theorem settles_frontStep (s : State) (v : Tag) : Settles s (frontStep v s) := by
  unfold frontStep
  split
  · next hfront =>
    simp only [Bool.and_eq_true, State.atFront, Bool.not_eq_eq_eq_not, Bool.not_true] at hfront
    obtain ⟨⟨⟨hcensus, -⟩, -⟩, hwaits⟩ := hfront
    split
    · exact settles_finish hwaits _
    · next hcheck =>
      split
      · next hbcast => exact settles_chooseBcast hwaits hbcast hcensus (lockOpen_of_frontCheck hbcast hcheck)
      · exact .refl s
  · exact .refl s

theorem settles_frontPass (s : State) : Settles s (frontPass s) := settles_foldl settles_frontStep _ s

/-! ## The reach checks (R156 to R166) -/

theorem settles_loseModule (x : Port) (a : Nat) (s : State) : Settles s (loseModule x a s) :=
  have htouches := loseModule_touches x a s
  .of_entries (loseModule_slots x a s) (loseModule_queue x a s) htouches.lockHeld (by rw [htouches.census])
    htouches.ports (loseModule_keepsEntries x a s)

theorem settles_completeLost (c : Check) (s : State) (v : Tag) : Settles s (completeLost c v s) := by
  unfold completeLost
  split
  · split
    · next hlost =>
      simp only [Bool.and_eq_true] at hlost
      exact settles_finish hlost.1 _
    · exact .refl s
  · exact .refl s

theorem settles_endCheck (x : Port) (s : State) : Settles s (endCheck x s) := by
  have hrequests : Settles s (endRequests x s) := settles_foldl (settles_completeLost _) _ s
  rw [endCheck_eq]
  exact hrequests.trans (.of_stands ⟨rfl, rfl, rfl, rfl, rfl, fun _ => rfl⟩)

theorem settles_decideModules (x : Port) (n : Nat) (s : State) : Settles s (decideModules x n s) := by
  induction n generalizing s with
  | zero => exact .refl s
  | succ n ih =>
    unfold decideModules
    simp only
    split
    · split
      · exact settles_endCheck x s
      · split
        · exact (settles_loseModule x _ s).trans (ih _)
        · exact settles_setCheck x _ s
    · exact .refl s

theorem settles_advanceProbing (x : Port) (s : State) : Settles s (advanceProbing x s) := by
  unfold advanceProbing
  simp only
  split
  · split
    · exact (settles_setCheck x _ s).trans (settles_endCheck x _)
    · split
      · exact .refl s
      · exact settles_setCheck x _ s
  · exact .refl s

theorem settles_advanceAndFront (x : Port) (s : State) : Settles s (advanceAndFront x s) :=
  ((settles_advanceProbing x s).trans (settles_decideModules x _ _)).trans (settles_frontPass _)

theorem settles_settleFrom (x : Port) (s : State) : Settles s (settleFrom x s) :=
  ((settles_frontPass s).trans (settles_advanceAndFront x _)).trans (settles_advanceAndFront x.other _)

theorem settles_settle (s : State) : Settles s (settle s) := settles_settleFrom .a s

theorem settles_startProbing (x : Port) (s : State) : Settles s (startProbing x s) :=
  (settles_setCheck x _ s).trans (settles_settle _)

theorem settles_losePending (x : Port) (n : Nat) (s : State) : Settles s (losePending x n s) := by
  induction n generalizing s with
  | zero => exact .refl s
  | succ n ih =>
    unfold losePending
    split
    · exact .refl s
    · exact (settles_loseModule x _ s).trans (ih _)

theorem settles_otherPortLeft (x : Port) (s : State) : Settles s (otherPortLeft x s) := by
  unfold otherPortLeft
  simp only
  split
  · exact (settles_losePending x _ s).trans (settles_setCheck x _ _)
  · exact .refl s

theorem settles_ownPortLeft (x : Port) (s : State) : Settles s (ownPortLeft x s) := by
  unfold ownPortLeft
  simp only
  split
  · split
    · exact settles_setCheck x _ s
    · exact .refl s
  · exact settles_setCheck x _ s
  · exact settles_setCheck x _ s

theorem settles_tellChecks (p : Port) (s : State) : Settles s (tellChecks p s) := by
  unfold tellChecks
  split
  · exact .refl s
  · exact (settles_otherPortLeft _ s).trans (settles_ownPortLeft _ _)

theorem settles_startCheckIfDown (x : Port) (s : State) : Settles s (startCheckIfDown x s) := by
  unfold startCheckIfDown
  split
  · exact settles_setCheck x _ s
  · exact .refl s

/-! ## Reports and their outcomes (R46 to R48, R119, R131 to R135, R147, R160, R162) -/

theorem settles_setStatus (a : Nat) (m : MirrorEntry) (s : State) : Settles s (s.setStatus a m) :=
  .of_stands (stands_setStatus a m s)

/-- What changes only slots, queue and roster, and of these only entries. -/
theorem Settles.of_roster_only (htouches : TouchesRequests s t) (hslots : t.slots = s.slots)
    (hqueue : t.completionQueue = s.completionQueue) (hentries : KeepsEntries s t) : Settles s t :=
  .of_entries hslots hqueue htouches.lockHeld (by rw [htouches.census]) htouches.ports hentries

theorem settles_setToggle (a : Nat) (g : Toggle) (s : State) : Settles s (setToggle a g s) :=
  .of_roster_only (setToggle_touches a g s) (setToggle_slots a g s) (setToggle_queue a g s)
    (setToggle_keepsEntries a g s)

theorem settles_setLastSeq (a : Nat) (q : Option Seq) (s : State) : Settles s (setLastSeq a q s) := by
  refine .of_roster_only (setLastSeq_touches a q s) ?_ ?_ (setLastSeq_keepsEntries a q s) <;>
  · unfold setLastSeq
    split <;> simp

theorem settles_reportGood (a : Nat) (s : State) : Settles s (reportGood a s) := by
  refine .of_roster_only (reportGood_touches a s) ?_ ?_ (reportGood_keepsEntries a s) <;>
  · unfold reportGood
    split <;> simp

theorem settles_answered (a : Nat) (s : State) : Settles s (answered a s) := by
  refine .of_roster_only (answered_touches a s) ?_ ?_ (answered_keepsEntries a s) <;>
  · unfold answered
    split <;> simp

theorem settles_reportFailure (a : Nat) (s : State) : Settles s (reportFailure a s) := by
  have htouches := reportFailure_touches a s
  refine .of_entries ?_ ?_ htouches.lockHeld (by rw [htouches.census]) htouches.ports
    (reportFailure_keepsEntries a s) <;> rw [reportFailure_frame]

theorem settles_restartAcked (a : Nat) (s : State) : Settles s (restartAcked a s) :=
  ((settles_setToggle a .zero s).trans (settles_setLastSeq a none _)).trans (settles_setStatus a _ _)

theorem settles_reportAttempt (k : ReqKind) (a : Nat) (f : Frame) (o : PortOutcome) (s : State) :
    Settles s (reportAttempt k a f o s) := by
  have hgood := settles_reportGood a s
  unfold reportAttempt
  split
  · simp only
    split
    · exact hgood.trans (settles_setToggle a _ _)
    · exact hgood.trans (settles_setToggle a _ _)
    · exact hgood.trans (settles_restartAcked a _)
    · exact hgood
  · exact settles_reportFailure a s
  · exact settles_reportFailure a s
  · exact settles_reportFailure a s
  · exact .refl s
  · exact .refl s

theorem settles_reportProbe (a : Nat) (o : PortOutcome) (s : State) : Settles s (reportProbe a o s) := by
  unfold reportProbe
  split
  · split
    · exact (settles_reportGood a s).trans (settles_setToggle a _ _)
    · exact settles_reportGood a s
  · exact settles_reportFailure a s
  · exact settles_reportFailure a s
  · exact settles_reportFailure a s
  · exact .refl s
  · exact .refl s

theorem settles_probingOutcome (x : Port) (a : Nat) (o : PortOutcome) (s : State) :
    Settles s (probingOutcome x a o s) := by
  have hfails : Settles s (if (s.checks.get x).tries < 2 then s else breakFound x a s) := by
    split
    · exact .refl s
    · exact settles_setCheck x _ s
  unfold probingOutcome
  simp only
  split
  · exact (settles_answered a s).trans (settles_setCheck x _ _)
  · exact hfails
  · exact hfails
  · exact hfails
  · exact .refl s
  · exact .refl s

theorem settles_loseDecided (x : Port) (a : Nat) (s : State) : Settles s (loseDecided x a s) :=
  (settles_loseModule x a s).trans (settles_setCheck x _ _)

theorem settles_rerouteModule {x : Port} (h : canReroute (s.entry a) x.other = true) :
    Settles s (rerouteModule x a s) :=
  .of_entries (by simp [rerouteModule, State.setCheck]) (by simp [rerouteModule, State.setCheck])
    (by simp [rerouteModule, State.setCheck]) (by simp [rerouteModule, State.setCheck])
    (by simp [rerouteModule, State.setCheck]) (rerouteModule_keepsEntries h)

theorem settles_reroutingOutcome (x : Port) (a : Nat) (o : PortOutcome) (s : State) :
    Settles s (reroutingOutcome x a o s) := by
  have hfails : Settles s (if (s.checks.get x).tries < 2 then s else loseDecided x a s) := by
    split
    · exact .refl s
    · exact settles_loseDecided x a s
  unfold reroutingOutcome
  split
  · split
    · next hcan => exact settles_rerouteModule hcan
    · exact settles_loseDecided x a s
  · exact hfails
  · exact hfails
  · exact hfails
  · exact .refl s
  · exact .refl s

theorem settles_checkOutcome (p x : Port) (a : Nat) (o : PortOutcome) (s : State) :
    Settles s (checkOutcome p x a o s) := by
  have hreport := settles_reportProbe a o s
  unfold checkOutcome
  simp only
  split
  · split
    · exact hreport.trans (settles_probingOutcome x a o _)
    · exact hreport
  · split
    · exact hreport.trans (settles_reroutingOutcome x a o _)
    · exact hreport

theorem settles_storeStatus (a : Nat) (r : StatusReport) (s : State) : Settles s (storeStatus a r s) := by
  unfold storeStatus
  split
  · exact settles_setStatus a _ s
  · exact .refl s

theorem settles_countMiss (a : Nat) (s : State) : Settles s (countMiss a s) := by
  unfold countMiss
  split
  · simp only
    split
    · exact (settles_setStatus a _ s).trans (.of_stands ⟨rfl, rfl, rfl, rfl, rfl, fun _ => rfl⟩)
    · exact settles_setStatus a _ s
  · exact .refl s

theorem settles_pollOutcome (a : Nat) (o : PortOutcome) (s : State) : Settles s (pollOutcome a o s) := by
  have hgood := settles_reportGood a s
  have hfails := (settles_reportFailure a s).trans (settles_countMiss a _)
  unfold pollOutcome
  split
  · split
    · exact hgood.trans (settles_storeStatus a _ _)
    · exact hgood.trans (settles_countMiss a _)
  · exact hfails
  · exact hfails
  · exact hfails
  · exact .refl s
  · exact .refl s

theorem settles_judgeNotice (p : Port) (a : Nat) (f : Frame) (s : State) : Settles s (judgeNotice p a f s) := by
  unfold judgeNotice
  split
  · exact .of_stands ⟨rfl, rfl, rfl, rfl, rfl, fun _ => rfl⟩
  · split
    · refine Settles.trans ?_ (settles_setLastSeq a _ _)
      exact .of_stands ⟨rfl, rfl, rfl, rfl, rfl, fun _ => rfl⟩
    · exact .refl s

theorem settles_fetchOutcome (p : Port) (a : Nat) (o : PortOutcome) (s : State) :
    Settles s (fetchOutcome p a o s) := by
  have hgood := settles_reportGood a s
  have hfails : Settles s (release p (reportFailure a s)) :=
    (settles_reportFailure a s).trans (.of_stands ⟨rfl, rfl, rfl, rfl, rfl, fun _ => rfl⟩)
  unfold fetchOutcome
  split
  · split
    · exact hgood.trans (settles_judgeNotice p a _ _)
    · exact (hgood.trans (settles_setStatus a _ _)).trans (.of_stands ⟨rfl, rfl, rfl, rfl, rfl, fun _ => rfl⟩)
  · exact hfails
  · exact hfails
  · exact hfails
  · exact .of_stands ⟨rfl, rfl, rfl, rfl, rfl, fun _ => rfl⟩
  · exact .of_stands ⟨rfl, rfl, rfl, rfl, rfl, fun _ => rfl⟩

end Sys2Proof.Proofs
end

section
/-! Law 6 through every act of a command: what ends a slot, a census or a claim, beside what settling does, keeps
every entry inside the values R43 gives its state (R45, R49, R50, R76). -/

namespace Sys2Proof.Proofs

-- one theorem after the other: many proofs elaborated at once ask for a stack each
set_option Elab.async false

open Sys2Proof.Machine Sys2Proof.Safety

variable {s t u : State} {p : Port} {a : Nat} {v : Tag}

/-! ## Ending slots -/

/-- What is changed first may be all but the roster. -/
theorem KeepsEntries.after (h : KeepsEntries t u) (hroster : t.roster = s.roster) : KeepsEntries s u :=
  (KeepsEntries.of_roster hroster).trans h

theorem keepsEntries_foldl {f : State → Tag → State} (hf : ∀ s v, KeepsEntries s (f s v)) (l : List Tag)
    (s : State) : KeepsEntries s (l.foldl f s) := foldl_relates .refl .trans hf l s

theorem finish_keepsEntries (v : Tag) (st : Status) (s : State) : KeepsEntries s (finish v st s) :=
  complete_keepsEntries v st false [] s

theorem completeActive_keepsEntries (v : Tag) (st : Status) (late : Bool) (data : List Byte) (s : State) :
    KeepsEntries s (completeActive v st late data s) := by
  have hfirst := complete_keepsEntries v st late data s
  unfold completeActive
  simp only
  split
  · refine hfirst.trans (keepsEntries_foldl (fun r w => ?_) _ _)
    unfold flushFollower
    simp only
    split
    · exact finish_keepsEntries w _ r
    · exact .refl r
  · exact hfirst

theorem waitOrFlush_keepsEntries (v : Tag) (b : Option Nat) (s : State) :
    KeepsEntries s (waitOrFlush v b s) := by
  unfold waitOrFlush
  split
  · exact completeActive_keepsEntries v _ _ _ s
  · exact .of_roster rfl

theorem busyDecision_keepsEntries (v : Tag) (s : State) : KeepsEntries s (busyDecision v s) := by
  unfold busyDecision
  simp only
  split
  · exact completeActive_keepsEntries v _ _ _ s
  · exact (waitOrFlush_keepsEntries v _ _).after rfl

theorem failedDecision_keepsEntries (v : Tag) (s : State) : KeepsEntries s (failedDecision v s) := by
  unfold failedDecision
  split
  · exact waitOrFlush_keepsEntries v _ s
  · exact completeActive_keepsEntries v _ _ _ s

theorem decideSlot_keepsEntries (v : Tag) (d : Decision) (s : State) : KeepsEntries s (decideSlot v d s) := by
  unfold decideSlot
  split
  · split <;> exact completeActive_keepsEntries v _ _ _ s
  · split
    · exact completeActive_keepsEntries v _ _ _ s
    · exact completeActive_keepsEntries v _ _ _ s
    · exact busyDecision_keepsEntries v s
    · exact failedDecision_keepsEntries v s
    · exact waitOrFlush_keepsEntries v _ s

theorem stopBcast_roster (v : Tag) (s : State) : (stopBcast v s).roster = s.roster := rfl

theorem cancelActive_keepsEntries (v : Tag) (s : State) : KeepsEntries s (cancelActive v s) := by
  unfold cancelActive
  split
  · split
    · exact .of_roster rfl
    · exact (KeepsEntries.of_roster (stopBcast_roster v s)).trans (finish_keepsEntries v _ _)
  · exact .of_roster rfl

theorem bcastMaybeDone_keepsEntries (v : Tag) (s : State) : KeepsEntries s (bcastMaybeDone v s) := by
  unfold bcastMaybeDone
  simp only
  split
  · exact .refl s
  · exact finish_keepsEntries v _ s

theorem takeSlot_keepsEntries (v : Tag) (s : State) : KeepsEntries s (takeSlot v s) := by
  have hvalidate (r : State) : KeepsEntries r (validateTarget v r) := by
    unfold validateTarget
    split
    · exact .refl r
    · split
      · split
        · exact finish_keepsEntries v _ r
        · split
          · exact finish_keepsEntries v _ r
          · exact .refl r
      · exact .refl r
  unfold takeSlot
  simp only
  split
  · exact (hvalidate _).after rfl
  · exact (finish_keepsEntries v _ _).after rfl

/-! ## Outcomes of exchanges -/

theorem attemptOutcome_keepsEntries (v : Tag) (f : Frame) (o : PortOutcome) (s : State) :
    KeepsEntries s (attemptOutcome v f o s) := by
  unfold attemptOutcome
  simp only
  split
  · exact .refl s
  · next k _ =>
    exact (settles_reportAttempt k _ f o s).entries.trans ((decideSlot_keepsEntries v _ _).after rfl)

theorem makeAttempt_roster (p : Port) (v : Tag) (k : ReqKind) (s : State) :
    (makeAttempt p v k s).roster = s.roster := rfl

theorem resyncMatched_keepsEntries (p : Port) (v : Tag) (s : State) : KeepsEntries s (resyncMatched p v s) := by
  unfold resyncMatched
  split
  · exact completeActive_keepsEntries v _ _ _ s
  · exact .of_roster rfl

theorem resyncOutcome_keepsEntries (p : Port) (v : Tag) (o : PortOutcome) (s : State) :
    KeepsEntries s (resyncOutcome p v o s) := by
  have hreport (r : State) (b : Nat) : KeepsEntries r (clearFollowUp p (reportResync b o r)) :=
    (settles_reportProbe b o r).entries.trans (.of_roster rfl)
  unfold resyncOutcome
  simp only
  split
  · exact (hreport s _).trans (completeActive_keepsEntries v _ _ _ _)
  · split
    · exact (hreport s _).trans (completeActive_keepsEntries v _ _ _ _)
    · exact (hreport s _).trans (resyncMatched_keepsEntries p v _)
    · exact (hreport s _).trans (completeActive_keepsEntries v _ _ _ _)
    · exact (hreport s _).trans (busyDecision_keepsEntries v _)
    · exact (hreport s _).trans (waitOrFlush_keepsEntries v _ _)
    · exact (hreport s _).trans (waitOrFlush_keepsEntries v _ _)

theorem bcastOutcome_keepsEntries (p : Port) (v : Tag) (o : PortOutcome) (s : State) :
    KeepsEntries s (bcastOutcome p v o s) := by
  unfold bcastOutcome
  simp only
  exact (bcastMaybeDone_keepsEntries v _).after rfl

/-! ## The census -/

theorem endCensus_roster (r : CensusResult) (why : CensusReason) (s : State) :
    (endCensus r why s).roster = s.roster := rfl

theorem finishCensus_roster (s : State) : (finishCensus s).roster = s.roster := by
  have hlock (r : State) : (decideLock r).roster = r.roster := by
    unfold decideLock
    split
    · split <;> rfl
    · rfl
  exact hlock _

theorem failCensus_roster (r : CensusReason) (s : State) : (failCensus r s).roster = s.roster := by
  unfold failCensus
  split <;> rfl

/-- The entry a claim creates obeys the law (R49). -/
theorem entryLaw_createdEntry (q : Port) (n : Nat) (i : Identity) : EntryLaw (createdEntry q n i) := by
  refine ⟨⟨q, rfl, ?_⟩, rfl, rfl, Nat.zero_le _⟩
  simp [createdEntry, Pair.get_set_same]

theorem takeClaim_keepsEntries (q : Port) (f : Frame) (s : State) : KeepsEntries s (takeClaim q f s) := by
  have hentry : KeepsEntries s (s.setEntry s.census.nextAddr
      (createdEntry q s.census.position (Identity.ofBytes f.payload))) :=
    setEntry_keepsEntries fun _ => entryLaw_createdEntry _ _ _
  unfold takeClaim
  exact hentry.trans (.of_roster rfl)

/-- Ring closure only adds a hop count on port B (R76). -/
theorem entryLaw_closedHops (n : Nat) {e : RosterEntry} (h : EntryLaw e) : EntryLaw (closedHops n e) := by
  unfold closedHops
  split
  · next k hk =>
    by_cases hvacant : e.state = .vacant
    · simp only [EntryLaw, hvacant] at h
      rw [h] at hk
      nomatch hk
    · obtain ⟨hlive, hdead, hrest⟩ := (entryLaw_present hvacant).1 h
      refine (entryLaw_present (e := { e with hops := { e.hops with b := some (n - k + 1) } }) hvacant).2 ⟨fun hl => ?_, hdead, hrest⟩
      obtain ⟨⟨q, hq, hhops⟩, hmark⟩ := hlive hl
      refine ⟨⟨q, hq, ?_⟩, hmark⟩
      cases q with
      | a => exact hhops
      | b => rfl
  · exact h

theorem closeRing_keepsEntries (s : State) : KeepsEntries s (closeRing s) := by
  have hclosed : KeepsEntries s
      { s with ringState := .closed, roster := mapCells (closedHops s.tails.a) s.roster } := by
    intro b hb
    have hentry := State.entry_mapCells { s with ringState := .closed } (closedHops s.tails.a) rfl b
    rw [hentry]
    exact entryLaw_closedHops _ hb
  unfold closeRing
  simp only
  split
  · exact hclosed.trans (.of_roster (finishCensus_roster _))
  · exact hclosed

theorem endOfWalk_roster (s : State) :
    (afterClaim s).roster = s.roster ∧ (endWalkA s).roster = s.roster ∧ (endWalkB s).roster = s.roster := by
  refine ⟨?_, ?_, ?_⟩
  · unfold afterClaim
    split
    · exact finishCensus_roster _
    · rfl
  · unfold endWalkA
    split
    · split
      · rfl
      · exact finishCensus_roster _
    · rfl
  · unfold endWalkB
    simp only
    split
    · exact finishCensus_roster _
    · rfl

theorem claimOutcomeA_keepsEntries (o : PortOutcome) (s : State) : KeepsEntries s (claimOutcomeA o s) := by
  obtain ⟨-, hwalkA, -⟩ := endOfWalk_roster s
  have hfails : KeepsEntries s (if s.census.tries = 2 then endWalkA s else s) := by
    split
    · exact .of_roster hwalkA
    · exact .refl s
  unfold claimOutcomeA
  split
  · split
    · exact (takeClaim_keepsEntries .a _ s).trans (.of_roster (endOfWalk_roster _).1)
    · exact .of_roster (failCensus_roster _ s)
  · exact hfails
  · exact hfails
  · exact hfails
  · exact .of_roster (failCensus_roster _ s)
  · exact .refl s

theorem claimOutcomeB_keepsEntries (o : PortOutcome) (s : State) : KeepsEntries s (claimOutcomeB o s) := by
  obtain ⟨-, -, hwalkB⟩ := endOfWalk_roster s
  have hfails : KeepsEntries s (if s.census.tries = 2 then endWalkB s else s) := by
    split
    · exact .of_roster hwalkB
    · exact .refl s
  unfold claimOutcomeB
  split
  · split
    · exact (takeClaim_keepsEntries .b _ s).trans (.of_roster (endOfWalk_roster _).1)
    · split
      · exact closeRing_keepsEntries s
      · exact .of_roster (failCensus_roster _ s)
  · exact hfails
  · exact hfails
  · exact hfails
  · exact .of_roster (failCensus_roster _ s)
  · exact .refl s

theorem censusOutcome_keepsEntries (p : Port) (o : PortOutcome) (s : State) :
    KeepsEntries s (censusOutcome p o s) := by
  unfold censusOutcome
  split
  · split
    · exact .of_roster rfl
    · exact .of_roster (failCensus_roster _ s)
    · exact .refl s
  · exact claimOutcomeA_keepsEntries o s
  · exact claimOutcomeB_keepsEntries o s
  · exact .refl s

theorem applyOutcome_keepsEntries (p : Port) (x : Xfer) (o : PortOutcome) (s : State) :
    KeepsEntries s (applyOutcome p x o s) := by
  unfold applyOutcome
  split
  · exact censusOutcome_keepsEntries p o s
  · exact (settles_checkOutcome p _ _ o s).entries
  · exact attemptOutcome_keepsEntries _ _ o s
  · exact resyncOutcome_keepsEntries p _ o s
  · exact bcastOutcome_keepsEntries p _ o s
  · exact (settles_pollOutcome _ o s).entries
  · exact (settles_fetchOutcome p _ o s).entries

/-! ## The acts -/

theorem endExchange_keepsEntries (p : Port) (x : Xfer) (o : PortOutcome) (s : State) :
    KeepsEntries s (endExchange p x o s) :=
  (KeepsEntries.of_roster rfl).trans
    ((applyOutcome_keepsEntries p x o (s.setExch p .idle)).trans (settles_settle _).entries)

theorem endTraffic_keepsEntries (p : Port) (l : LinkState) (s : State) : KeepsEntries s (endTraffic p l s) := by
  have hdrop : KeepsEntries s (dropLink p l s) := .of_roster rfl
  have htell (r : State) (e : Exchange) (n : Nat) : KeepsEntries r (tellLinkLost p e n r) := by
    unfold tellLinkLost
    split
    · exact applyOutcome_keepsEntries p _ _ r
    · exact .refl r
  have hgone (r : State) : KeepsEntries r (bcastPortGoneAll p r) := by
    refine keepsEntries_foldl (fun r v => ?_) _ r
    unfold bcastPortGone
    simp only
    split
    · exact (bcastMaybeDone_keepsEntries v _).after rfl
    · exact .refl r
  unfold endTraffic
  exact ((hdrop.trans (htell _ _ _)).trans (hgone _)).trans (settles_frontPass _).entries

theorem censusPortLeft_roster (p : Port) (s : State) : (censusPortLeft p s).roster = s.roster := by
  unfold censusPortLeft
  split
  · split
    · exact failCensus_roster _ s
    · rfl
  · split
    · exact failCensus_roster _ s
    · rfl
  · split
    · exact failCensus_roster _ s
    · rfl
  · rfl

theorem leaveUp_keepsEntries (p : Port) (l : LinkState) (s : State) : KeepsEntries s (leaveUp p l s) := by
  have htraffic := endTraffic_keepsEntries p l s
  have hcensus : KeepsEntries (endTraffic p l s) (censusPortLeft p (endTraffic p l s)) :=
    .of_roster (censusPortLeft_roster p _)
  have hchecks := (settles_tellChecks p (censusPortLeft p (endTraffic p l s))).entries
  unfold leaveUp
  exact ((htraffic.trans hcensus).trans hchecks).trans ((settles_settleFrom _ _).entries.after rfl)

theorem startCensus_keepsEntries (s : State) : KeepsEntries s (startCensus s) := by
  have hflush (r : State) : KeepsEntries r (flushAll r) := by
    refine keepsEntries_foldl (fun r v => ?_) _ r
    unfold flushAtStart
    simp only
    split
    · exact finish_keepsEntries v _ r
    · split
      · exact .of_roster rfl
      · exact finish_keepsEntries v _ r
    · split
      · split
        · exact .of_roster rfl
        · exact (KeepsEntries.of_roster (stopBcast_roster v r)).trans (finish_keepsEntries v _ _)
      · exact .refl r
    · exact .refl r
  have habandon (q : Port) (r : State) : KeepsEntries r (abandonCheck q r) := by
    unfold abandonCheck
    simp only
    split <;> exact .of_roster rfl
  unfold startCensus
  exact ((hflush _).trans ((habandon .a _).trans (habandon .b _))).after rfl

/-- A cleared roster holds VACANT entries only. -/
theorem keepsEntries_of_cleared (h : t.roster = Vector.replicate 62 RosterEntry.vacant) : KeepsEntries s t := by
  intro b _
  have hentry : t.entry b = RosterEntry.vacant := by
    unfold State.entry
    split
    · simp [h]
    · rfl
  rw [hentry]
  exact entryLaw_vacant

theorem stopCensus_keepsEntries (c : StopCause) (s : State) : KeepsEntries s (stopCensus c s) := by
  unfold stopCensus
  exact (((settles_frontPass _).trans (settles_startCheckIfDown .a _)).trans
    (settles_startCheckIfDown .b _)).entries.after rfl

theorem afterClear_keepsEntries (s : State) : KeepsEntries s (afterClear s) := by
  unfold afterClear
  split
  · exact stopCensus_keepsEntries _ s
  · split <;> exact .of_roster rfl

theorem makeClear_keepsEntries (s : State) : KeepsEntries s (makeClear s) := by
  have hclear : KeepsEntries s (clearCensus s) := keepsEntries_of_cleared rfl
  unfold makeClear
  exact (hclear.trans (afterClear_keepsEntries _)).trans (settles_settle _).entries

theorem makeStop_keepsEntries (s : State) : KeepsEntries s (makeStop s) := by
  unfold makeStop
  split
  · exact (stopCensus_keepsEntries _ s).trans (settles_settle _).entries
  · exact .refl s

theorem handCensus_roster (p : Port) (s : State) : (handCensus p s).roster = s.roster := by
  unfold handCensus
  split
  · split <;> rfl
  · split <;> rfl
  · split <;> rfl
  · rfl

/-- The arbiter's choice leaves the roster (R103). -/
theorem arbitrate_roster (p : Port) (s : State) : (arbitrate p s).roster = s.roster := by
  have hslot (v : Tag) (r : State) : (startSlot p v r).roster = r.roster := by
    unfold startSlot
    split
    · rfl
    · split <;> rfl
  have hhost (h : HostFrame) (r : State) : (startHost p h r).roster = r.roster := by
    unfold startHost
    split
    · rfl
    · exact hslot _ _
  have hsweep (c : SweepChoice) (r : State) : (startSweep p c r).roster = r.roster := by
    unfold startSweep
    split <;> rfl
  have hshared (r : State) : (handShared p r).roster = r.roster := by
    unfold handShared
    split
    · rfl
    · exact hsweep _ _
    · exact hhost _ r
    · split
      · exact hsweep _ _
      · exact hhost _ r
  have htest (r : State) : (testBacklog p r).roster = r.roster := by
    unfold testBacklog
    split <;> rfl
  unfold arbitrate
  split
  · exact handCensus_roster p s
  · split
    · split
      · rfl
      · split <;> rfl
    · split
      · rfl
      · exact (hshared _).trans (htest s)

theorem endSettle_roster (s : State) : (endSettle s).roster = s.roster := by
  unfold endSettle
  simp only
  split <;> rfl

/-- Every act keeps the law of each entry. -/
theorem act_keepsEntries (h : Act s t) : KeepsEntries s t := by
  cases h with
  | stands h => exact .of_roster h.roster
  | endExchange _ o => exact endExchange_keepsEntries _ _ o s
  | leaveUp p l => exact leaveUp_keepsEntries p l s
  | arbitrate _ => exact .of_roster (arbitrate_roster _ s)
  | takeSlot _ => exact (takeSlot_keepsEntries _ s).trans (settles_settle _).entries
  | cancelWaiting h => exact ((settles_finish h _).trans (settles_settle _)).entries
  | cancelActive _ => exact cancelActive_keepsEntries _ s
  | endBcast _ => exact (cancelActive_keepsEntries _ s).trans (settles_settle _).entries
  | popHead _ => exact .of_roster rfl
  | startCensus _ => exact startCensus_keepsEntries s
  | openLock => exact .of_roster rfl
  | softReset => exact keepsEntries_of_cleared rfl
  | hardwareReset => exact keepsEntries_of_cleared rfl
  | makeClear _ => exact makeClear_keepsEntries s
  | endSettle _ => exact .of_roster (endSettle_roster s)
  | makeStop => exact makeStop_keepsEntries s
  | endBackoff v => exact .of_roster rfl
  | startProbing p => exact (settles_startProbing p s).entries

/-- Settles O53: every act keeps the law of each entry, and a port that enters UP leaves the roster. -/
theorem stepKeepsRosterLaw : Obligations.StepKeepsRosterLaw := by
  unfold Obligations.StepKeepsRosterLaw
  intro s t hlaw hstep
  refine step_keeps (I := RosterLaw) (fun hact hs b => act_keepsEntries hact b (hs b)) ?_ hlaw hstep
  intro r q _ hr b
  have hroster : KeepsEntries r (enterUp q r) := .of_roster rfl
  exact hroster b (hr b)

end Sys2Proof.Proofs
end

section
/-! Laws 1, 8 and 9 as one law of the exchanges in flight and the ACTIVE broadcasts, with the rules that keep it: a
slot written, a slot ended, an exchange over, a frame handed, settling (R54, R64, R84, R105 to R121). -/

namespace Sys2Proof.Proofs

-- one theorem after the other: many proofs elaborated at once ask for a stack each
set_option Elab.async false

open Sys2Proof.Machine Sys2Proof.Safety

/-! ## The law -/

/-- What the laws ask of an exchange in flight on a port. -/
structure FlightOk (s : State) (p : Port) (x : Xfer) : Prop where
  targeted : ∀ v, Owner.targetedTag x.owner = some v → (s.slot v).state = .active ∧ (s.slot v).isBcast = false
  alone : ∀ v, Owner.targetedTag x.owner = some v →
    ∀ y, s.inFlight p.other = some y → Owner.targetedTag y.owner ≠ some v
  bcast : ∀ v, x.owner = .bcast v →
    (s.slot v).state = .active ∧ (s.slot v).isBcast = true ∧ (s.slot v).bcastPorts.get p = true
  lock : s.lockHeld = true → lockedKind x.frame.kind = false ∧ ∀ v, x.owner ≠ .resync v
  census : pastClear s → x.owner = .census ∧ (x.frame.kind = .release ∨ x.frame.kind = .claim)

/-- A slot is an ACTIVE broadcast. -/
def ActiveBcast (x : Slot) : Prop := x.state = .active ∧ x.isBcast = true

/-- A broadcast has a port left, and while a census runs it is being sent on each of them (R65, R121). -/
def Carried (s : State) (v : Tag) (x : Slot) : Prop :=
  (∃ q, x.bcastPorts.get q = true)
    ∧ (s.censusRunning = true → ∀ q, x.bcastPorts.get q = true → s.carries q (.bcast v) = true)

/-- The traffic law, but that the broadcasts in `D` are being dealt with: they may have lost their exchange. -/
structure Traffic (D : Tag → Prop) (s : State) : Prop where
  queue : QueueLaw s
  flights : ∀ p x, s.inFlight p = some x → FlightOk s p x
  opened : ∀ v, ActiveBcast (s.slot v) → s.lockHeld = false
  carried : ∀ v, ¬D v → ActiveBcast (s.slot v) → Carried s v (s.slot v)

/-- No broadcast is being dealt with. -/
def NoTag : Tag → Prop := fun _ => False

variable {s t u : State} {p : Port} {v : Tag} {x : Xfer} {D E : Tag → Prop}

/-- Laws 1, 8 and 9, with the ports apart, are the traffic law. -/
theorem trafficLaw_iff (s : State) : TrafficLaw s ↔ PortsLaw s ∧ Traffic NoTag s := by
  constructor
  · rintro ⟨⟨hqueue, htargeted, hbcast⟩, hports, hlock, hcensus, hcarried, hresync⟩
    refine ⟨hports, hqueue, fun p x hx => ⟨fun v hv => ?_, fun v hv => ?_, fun v => hbcast p x v hx,
      fun hheld => ⟨hlock hheld p x hx, fun v => hresync hheld p x v hx⟩, fun hpast => hcensus hpast p x hx⟩,
      fun v hv => (hcarried v hv.1 hv.2).2.2, fun v _ hv => ?_⟩
    · exact ⟨(htargeted p x v hx hv).1, (htargeted p x v hx hv).2.1⟩
    · exact (htargeted p x v hx hv).2.2
    · exact ⟨(hcarried v hv.1 hv.2).1, (hcarried v hv.1 hv.2).2.1⟩
  · rintro ⟨hports, hqueue, hflights, hopened, hcarried⟩
    refine ⟨⟨hqueue, fun p x v hx hv => ?_, fun p x v hx => (hflights p x hx).bcast v⟩, hports,
      fun hheld p x hx => ((hflights p x hx).lock hheld).1, fun hpast p x hx => (hflights p x hx).census hpast,
      fun v hstate hkind => ?_, fun hheld p x v hx => ((hflights p x hx).lock hheld).2 v⟩
    · obtain ⟨hstate, hkind⟩ := (hflights p x hx).targeted v hv
      exact ⟨hstate, hkind, (hflights p x hx).alone v hv⟩
    · obtain ⟨hport, hruns⟩ := hcarried v not_false ⟨hstate, hkind⟩
      exact ⟨hport, hruns, hopened v ⟨hstate, hkind⟩⟩

theorem Traffic.mono (h : Traffic D s) (hD : ∀ v, ActiveBcast (s.slot v) → D v → E v) : Traffic E s :=
  ⟨h.queue, h.flights, h.opened, fun v hv hactive => h.carried v (fun hd => hv (hD v hactive hd)) hactive⟩

/-! ## Exchanges in flight -/

/-- An exchange of an owner is in flight exactly where the port carries it. -/
theorem carries_iff (o : Owner) : s.carries p o = true ↔ ∃ x, s.inFlight p = some x ∧ x.owner = o := by
  unfold State.carries
  split
  · next x hx => simp [hx]
  · next hx => simp [hx]

theorem carries_congr (h : t.inFlight p = s.inFlight p) (o : Owner) : t.carries p o = s.carries p o := by
  unfold State.carries
  rw [h]

/-- No exchange in flight is made for the slot. -/
def NotInFlight (v : Tag) (s : State) : Prop :=
  ∀ q y, s.inFlight q = some y → Owner.targetedTag y.owner ≠ some v ∧ y.owner ≠ .bcast v

theorem NotInFlight.congr (h : NotInFlight v s) (hflight : ∀ q, t.inFlight q = s.inFlight q) :
    NotInFlight v t := fun q y hy => h q y (hflight q ▸ hy)

theorem notInFlight_of_not_active (h : Traffic D s) (hv : (s.slot v).state ≠ .active) : NotInFlight v s :=
  fun q y hy => ⟨fun ho => hv ((h.flights q y hy).targeted v ho).1, fun ho => hv ((h.flights q y hy).bcast v ho).1⟩

/-! ## A slot written -/

/-- What may be written into a slot: what its exchanges in flight ask of it stays true of it. -/
theorem Traffic.setSlot (h : Traffic D s) {y : Slot} (hdone : y.state = .done ↔ (s.slot v).state = .done)
    (htargeted : ∀ q x, s.inFlight q = some x → Owner.targetedTag x.owner = some v →
      y.state = .active ∧ y.isBcast = false)
    (hbcast : ∀ q x, s.inFlight q = some x → x.owner = .bcast v → ActiveBcast y ∧ y.bcastPorts.get q = true)
    (hothers : ∀ w, w ≠ v → D w → E w) (hopened : ActiveBcast y → s.lockHeld = false)
    (hcarried : ¬E v → ActiveBcast y → Carried s v y) : Traffic E (s.setSlot v y) where
  queue := by
    obtain ⟨hnodup, hmem⟩ := h.queue
    refine ⟨hnodup, fun w => ?_⟩
    rw [State.slot_setSlot]
    split
    · next hwv =>
      rw [hdone, ← hwv]
      exact hmem w
    · exact hmem w
  flights q x hx := by
    have hok := h.flights q x hx
    refine ⟨fun w hw => ?_, hok.alone, fun w hw => ?_, hok.lock, hok.census⟩
    · rw [State.slot_setSlot]
      split
      · next hwv =>
        subst hwv
        exact htargeted q x hx hw
      · exact hok.targeted w hw
    · rw [State.slot_setSlot]
      split
      · next hwv =>
        subst hwv
        obtain ⟨⟨hstate, hkind⟩, hport⟩ := hbcast q x hx hw
        exact ⟨hstate, hkind, hport⟩
      · exact hok.bcast w hw
  opened w hw := by
    rw [State.slot_setSlot] at hw
    split at hw
    · exact hopened hw
    · exact h.opened w hw
  carried w hE hw := by
    rw [State.slot_setSlot] at hw ⊢
    split at hw
    · next hwv =>
      subst hwv
      rw [if_pos rfl]
      exact hcarried hE hw
    · next hwv =>
      rw [if_neg hwv]
      exact h.carried w (fun hd => hE (hothers w hwv hd)) hw

/-- A slot of no exchange in flight that is written so as not to be ACTIVE. -/
theorem Traffic.setSlot_rests (h : Traffic D s) (hfree : NotInFlight v s) {y : Slot}
    (hdone : y.state = .done ↔ (s.slot v).state = .done) (hrests : y.state ≠ .active)
    (hothers : ∀ w, w ≠ v → D w → E w) : Traffic E (s.setSlot v y) :=
  h.setSlot hdone (fun q x hx ho => absurd ho (hfree q x hx).1) (fun q x hx ho => absurd ho (hfree q x hx).2)
    hothers (fun hy => absurd hy.1 hrests) (fun _ hy => absurd hy.1 hrests)

/-- A slot written with its state, kind and ports as they were. -/
theorem Traffic.setSlot_alike (h : Traffic D s) {y : Slot} (hstate : y.state = (s.slot v).state)
    (hkind : y.kindCode = (s.slot v).kindCode) (hports : y.bcastPorts = (s.slot v).bcastPorts) :
    Traffic D (s.setSlot v y) := by
  have hb : y.isBcast = (s.slot v).isBcast := by simp only [Slot.isBcast, Slot.kind, hkind]
  have hactive : ActiveBcast y ↔ ActiveBcast (s.slot v) := by unfold ActiveBcast; rw [hstate, hb]
  refine h.setSlot (by rw [hstate]) (fun q x hx ho => ?_) (fun q x hx ho => ?_) (fun _ _ hd => hd)
    (fun hy => h.opened v (hactive.1 hy)) (fun hD hy => ?_)
  · rw [hstate, hb]
    exact (h.flights q x hx).targeted v ho
  · obtain ⟨hs, hk, hp⟩ := (h.flights q x hx).bcast v ho
    exact ⟨hactive.2 ⟨hs, hk⟩, hports ▸ hp⟩
  · unfold Carried
    rw [hports]
    exact h.carried v hD (hactive.1 hy)

/-! ## What leaves slots and exchanges alone -/

/-- Nothing the law reads has changed but the order of reading it. -/
theorem Traffic.settles (h : Traffic D s) (hs : Settles s t) : Traffic D t := by
  have hactive {w : Tag} (hw : (s.slot w).state = .active) : t.slot w = s.slot w :=
    (hs.slot w).eq_of_not_waiting (waiting_of_finishedOrActive (.inr hw))
  have hpast : pastClear t ↔ pastClear s := pastClear_of_state hs.census
  have hruns : t.censusRunning = s.censusRunning := by unfold State.censusRunning; rw [hs.census]
  have hbcast {w : Tag} (hw : ActiveBcast (t.slot w)) :
      (t.slot w = s.slot w ∧ ActiveBcast (s.slot w)) ∨ Chosen s (t.slot w) := by
    rcases hs.slot w with heq | ⟨-, hdone | hchosen⟩
    · exact .inl ⟨heq, heq ▸ hw⟩
    · rw [hw.1] at hdone
      nomatch hdone
    · exact .inr hchosen
  refine ⟨hs.queue h.queue, fun q x hx => ?_, fun w hw => ?_, fun w hD hw => ?_⟩
  · rw [hs.flight] at hx
    have hok := h.flights q x hx
    refine ⟨fun w hw => ?_, fun w hw y hy => ?_, fun w hw => ?_, fun hheld => ?_, fun hp => hok.census (hpast.1 hp)⟩
    · rw [hactive (hok.targeted w hw).1]
      exact hok.targeted w hw
    · rw [hs.flight] at hy
      exact hok.alone w hw y hy
    · rw [hactive (hok.bcast w hw).1]
      exact hok.bcast w hw
    · rw [hs.lock] at hheld
      exact hok.lock hheld
  · rw [hs.lock]
    rcases hbcast hw with ⟨-, hold⟩ | hchosen
    · exact h.opened w hold
    · exact hchosen.2.2.2.2
  · rcases hbcast hw with ⟨heq, hold⟩ | ⟨-, -, hport, hidle, -⟩
    · obtain ⟨hport, hcarries⟩ := h.carried w hD hold
      unfold Carried
      rw [hruns, heq]
      exact ⟨hport, fun hr q hq => (carries_congr (hs.flight q) _).trans (hcarries hr q hq)⟩
    · refine ⟨hport, fun hr => ?_⟩
      rw [hruns, hidle] at hr
      nomatch hr

theorem Traffic.stands (h : Traffic D s) (hs : Stands s t) : Traffic D t := h.settles (.of_stands hs)

/-! ## A slot ended -/

/-- Ending a slot of no exchange in flight (R91). -/
theorem Traffic.complete (h : Traffic D s) (hfree : NotInFlight v s) (st : Status) (late : Bool) (data : List Byte)
    (hothers : ∀ w, w ≠ v → D w → E w) : Traffic E (complete v st late data s) := by
  have htouches := complete_touches v st late data s
  have hflight := flight_of_ports htouches.ports
  have hpast : pastClear (Machine.complete v st late data s) ↔ pastClear s :=
    pastClear_of_state (by rw [htouches.census])
  have hslot {w : Tag} (hw : w ≠ v) : (Machine.complete v st late data s).slot w = s.slot w :=
    complete_slot_ne v st late data hw s
  have hended : ((Machine.complete v st late data s).slot v).state ≠ .active := by
    by_cases hu : (s.slot v).unfinished = true
    · rw [complete_slot v st late data hu, if_pos rfl]
      exact nofun
    · rw [complete_finished v st late data (by simpa using hu)]
      intro hactive
      simp [Slot.unfinished, hactive] at hu
  have hne {w : Tag} (hw : ActiveBcast ((Machine.complete v st late data s).slot w)) : w ≠ v := by
    rintro rfl
    exact hended hw.1
  refine ⟨queueLaw_complete v st late data h.queue, fun q x hx => ?_, fun w hw => ?_, fun w hE hw => ?_⟩
  · rw [hflight] at hx
    have hok := h.flights q x hx
    have hfree := hfree q x hx
    refine ⟨fun w hw => ?_, fun w hw y hy => ?_, fun w hw => ?_, fun hheld => ?_, fun hp => hok.census (hpast.1 hp)⟩
    · rw [hslot fun hwv => hfree.1 (hwv ▸ hw)]
      exact hok.targeted w hw
    · rw [hflight] at hy
      exact hok.alone w hw y hy
    · rw [hslot fun hwv => hfree.2 (hwv ▸ hw)]
      exact hok.bcast w hw
    · rw [htouches.lockHeld] at hheld
      exact hok.lock hheld
  · rw [htouches.lockHeld]
    exact h.opened w (hslot (hne hw) ▸ hw)
  · have hruns : (Machine.complete v st late data s).censusRunning = s.censusRunning := by
      unfold State.censusRunning
      rw [htouches.census]
    obtain ⟨hport, hcarries⟩ := h.carried w (fun hd => hE (hothers w (hne hw) hd)) (hslot (hne hw) ▸ hw)
    unfold Carried
    rw [hslot (hne hw), hruns]
    exact ⟨hport, fun hr q hq => (carries_congr (hflight q) _).trans (hcarries hr q hq)⟩

/-! ## An exchange over -/

/-- The exchange of a port is over, everything else of the requests as it was. -/
structure Drops (p : Port) (s t : State) : Prop where
  slots : t.slots = s.slots
  queue : t.completionQueue = s.completionQueue
  lock : t.lockHeld = s.lockHeld
  census : t.census.state = s.census.state
  gone : t.inFlight p = none
  other : t.inFlight p.other = s.inFlight p.other

/-- Where an exchange ended, the broadcast it was made for has lost it. -/
theorem Traffic.drops (h : Traffic NoTag s) (hd : Drops p s t) : Traffic (fun v => s.carries p (.bcast v) = true) t := by
  have hpast : pastClear t ↔ pastClear s := pastClear_of_state hd.census
  have hflight {q : Port} {x : Xfer} (hx : t.inFlight q = some x) : q = p.other ∧ s.inFlight q = some x := by
    rcases Port.eq_or_other p q with rfl | rfl
    · rw [hd.gone] at hx
      nomatch hx
    · exact ⟨rfl, hd.other ▸ hx⟩
  refine ⟨queueLaw_of_eq hd.slots hd.queue h.queue, fun q x hx => ?_, fun w hw => ?_, fun w hD hw => ?_⟩
  · obtain ⟨rfl, hold⟩ := hflight hx
    have hok := h.flights _ x hold
    refine ⟨fun w => ?_, fun w _ y hy => ?_, fun w => ?_, fun hheld => hok.lock (hd.lock ▸ hheld),
      fun hp => hok.census (hpast.1 hp)⟩
    · rw [State.slot_eq_of_slots hd.slots]
      exact hok.targeted w
    · rw [Port.other_other, hd.gone] at hy
      nomatch hy
    · rw [State.slot_eq_of_slots hd.slots]
      exact hok.bcast w
  · rw [hd.lock]
    exact h.opened w (State.slot_eq_of_slots hd.slots w ▸ hw)
  · rw [State.slot_eq_of_slots hd.slots] at hw ⊢
    obtain ⟨hport, hcarries⟩ := h.carried w not_false hw
    refine ⟨hport, fun hr q hq => ?_⟩
    have hruns : s.censusRunning = true := by
      unfold State.censusRunning at hr ⊢
      rw [← hd.census]
      exact hr
    rcases Port.eq_or_other p q with rfl | rfl
    · exact absurd (hcarries hruns q hq) hD
    · exact (carries_congr hd.other _).trans (hcarries hruns _ hq)

/-- The slot of an attempt or resynchronising PROBE that ended has no other exchange in flight (R84). -/
theorem notInFlight_of_drops (h : Traffic NoTag s) (hd : Drops p s t) (hx : s.inFlight p = some x)
    (ho : Owner.targetedTag x.owner = some v) : NotInFlight v t := by
  intro q y hy
  rcases Port.eq_or_other p q with rfl | rfl
  · rw [hd.gone] at hy
    nomatch hy
  · rw [hd.other] at hy
    refine ⟨(h.flights p x hx).alone v ho y hy, fun hb => ?_⟩
    have hkind := ((h.flights p x hx).targeted v ho).2
    rw [((h.flights _ y hy).bcast v hb).2.1] at hkind
    nomatch hkind

/-- Where a port carries no broadcast, none is being dealt with when its exchange ends. -/
theorem Traffic.drops_noBcast (h : Traffic NoTag s) (hd : Drops p s t)
    (hno : ∀ v, s.carries p (.bcast v) = false) : Traffic NoTag t :=
  (h.drops hd).mono fun v _ hv => by
    rw [hno v] at hv
    nomatch hv

theorem carries_bcast_of_owner (hx : s.inFlight p = some x) (ho : ∀ v, x.owner ≠ .bcast v) (v : Tag) :
    s.carries p (.bcast v) = false := by
  rw [Bool.eq_false_iff]
  intro hc
  obtain ⟨y, hy, howner⟩ := (carries_iff _).1 hc
  rw [hx] at hy
  exact ho v (Option.some.inj hy ▸ howner)

/-! ## A frame handed (R31, R103) -/

theorem inFlight_handFrame_same (x : Xfer) (s : State) : (handFrame p x s).inFlight p = some x := by
  unfold State.inFlight handFrame State.setExch
  rw [State.port_setPort_same]
  rfl

theorem inFlight_handFrame_other (x : Xfer) (s : State) :
    (handFrame p x s).inFlight p.other = s.inFlight p.other := by
  unfold State.inFlight handFrame State.setExch
  rw [State.port_setPort_other]

/-- What a frame handed to a port must meet: as `FlightOk` once it is in flight, and no exchange of the other port is
made for its slot. -/
theorem Traffic.handFrame (h : Traffic D s) (hidle : s.inFlight p = none) (hok : FlightOk s p x) :
    Traffic D (handFrame p x s) := by
  have hcarries {q : Port} {o : Owner} (hq : s.carries q o = true) : (Machine.handFrame p x s).carries q o = true := by
    rcases Port.eq_or_other p q with rfl | rfl
    · rw [carries_iff, hidle] at hq
      obtain ⟨y, hy, -⟩ := hq
      nomatch hy
    · exact (carries_congr (inFlight_handFrame_other x s) o).trans hq
  refine ⟨h.queue, fun q y hy => ?_, h.opened, fun w hD hw => ?_⟩
  · rcases Port.eq_or_other p q with rfl | rfl
    · rw [inFlight_handFrame_same] at hy
      obtain rfl := Option.some.inj hy
      refine ⟨hok.targeted, fun w hw z hz => ?_, hok.bcast, hok.lock, hok.census⟩
      rw [inFlight_handFrame_other] at hz
      exact hok.alone w hw z hz
    · rw [inFlight_handFrame_other] at hy
      have hold := h.flights _ y hy
      refine ⟨hold.targeted, fun w hw z hz => ?_, hold.bcast, hold.lock, hold.census⟩
      rw [Port.other_other, inFlight_handFrame_same] at hz
      obtain rfl := Option.some.inj hz
      exact fun hx => hok.alone w hx y hy hw
  · obtain ⟨hport, hruns⟩ := h.carried w hD hw
    exact ⟨hport, fun hr q hq => hcarries (hruns hr q hq)⟩

/-! ## Quiet states, and the census past its clear -/

/-- Nothing is in flight and no broadcast is ACTIVE. -/
structure Quiet (s : State) : Prop where
  queue : QueueLaw s
  flights : ∀ q, s.inFlight q = none
  bcasts : ∀ v, ¬ActiveBcast (s.slot v)

theorem Quiet.traffic (h : Quiet s) : Traffic NoTag s :=
  ⟨h.queue, fun q x hx => absurd hx (by simp [h.flights q]), fun v hv => absurd hv (h.bcasts v),
    fun v _ hv => absurd hv (h.bcasts v)⟩

/-- Lock and census may change as they will where nothing is in flight. -/
theorem Quiet.congr (h : Quiet s) (hslots : t.slots = s.slots) (hqueue : t.completionQueue = s.completionQueue)
    (hports : t.ports = s.ports) : Quiet t :=
  ⟨queueLaw_of_eq hslots hqueue h.queue, fun q => (flight_of_ports hports q).trans (h.flights q),
    fun v => by rw [State.slot_eq_of_slots hslots]; exact h.bcasts v⟩

theorem quiet_of_noFlight (h : Traffic NoTag s) (hflights : ∀ q, s.inFlight q = none)
    (hruns : s.censusRunning = true) : Quiet s := by
  refine ⟨h.queue, hflights, fun v hv => ?_⟩
  obtain ⟨⟨q, hq⟩, hcarries⟩ := h.carried v not_false hv
  obtain ⟨x, hx, -⟩ := (carries_iff _).1 (hcarries hruns q hq)
  rw [hflights q] at hx
  nomatch hx

theorem running_of_pastClear (h : pastClear s) : s.censusRunning = true := by
  unfold State.censusRunning
  rcases h with h | h | h <;> rw [h] <;> rfl

/-- Past the clear no broadcast is ACTIVE: its frames would be in flight (R64, R65). -/
theorem noBcast_of_pastClear (h : Traffic NoTag s) (hpast : pastClear s) (v : Tag) : ¬ActiveBcast (s.slot v) := by
  intro hv
  obtain ⟨⟨q, hq⟩, hcarries⟩ := h.carried v not_false hv
  obtain ⟨x, hx, howner⟩ := (carries_iff _).1 (hcarries (running_of_pastClear hpast) q hq)
  rw [((h.flights q x hx).census hpast).1] at howner
  nomatch howner

/-- Past the clear lock and census may change as they will: only RELEASE and CLAIM are in flight. -/
theorem Traffic.of_pastClear (h : Traffic NoTag s) (hpast : pastClear s) (hslots : t.slots = s.slots)
    (hqueue : t.completionQueue = s.completionQueue) (hports : t.ports = s.ports) : Traffic NoTag t := by
  have hnone (v : Tag) : ¬ActiveBcast (t.slot v) := by
    rw [State.slot_eq_of_slots hslots]
    exact noBcast_of_pastClear h hpast v
  refine ⟨queueLaw_of_eq hslots hqueue h.queue, fun q x hx => ?_, fun v hv => absurd hv (hnone v),
    fun v _ hv => absurd hv (hnone v)⟩
  rw [flight_of_ports hports] at hx
  obtain ⟨howner, hkind⟩ := (h.flights q x hx).census hpast
  refine ⟨fun v hv => ?_, fun v hv => ?_, fun v hv => ?_, fun _ => ⟨?_, fun v hv => ?_⟩, fun _ => ⟨howner, hkind⟩⟩
  · rw [howner] at hv
    nomatch hv
  · rw [howner] at hv
    nomatch hv
  · rw [howner] at hv
    nomatch hv
  · rcases hkind with hk | hk <;> rw [hk] <;> rfl
  · rw [howner] at hv
    nomatch hv

end Sys2Proof.Proofs
end

section
/-! Laws 1, 8 and 9 through the outcomes of exchanges, the arbiter and every other act of a command (R54, R64, R65,
R84, R98 to R121). -/

namespace Sys2Proof.Proofs

-- one theorem after the other: many proofs elaborated at once ask for a stack each
set_option Elab.async false

open Sys2Proof.Machine Sys2Proof.Safety

variable {s t u : State} {p : Port} {v : Tag} {x : Xfer} {D E : Tag → Prop}

/-! ## How the slot of an exchange ends or goes on (R110 to R113) -/

/-- An ACTIVE slot made DONE by its exchange, with those held back behind it (R65). -/
theorem Traffic.completeActive (h : Traffic NoTag s) (hfree : NotInFlight v s) (st : Status) (late : Bool)
    (data : List Byte) : Traffic NoTag (completeActive v st late data s) := by
  have hended : Traffic NoTag (Machine.complete v st late data s) :=
    h.complete hfree st late data fun _ _ hd => hd
  have hfollower (target : Option Nat) (r : State) (w : Tag) : Settles r (flushFollower target w r) := by
    unfold flushFollower
    simp only
    split
    · next hqueued =>
      simp only [Bool.and_eq_true, beq_iff_eq] at hqueued
      exact settles_finish (by simp [Slot.waiting, hqueued.1.1]) _
    · exact .refl r
  unfold Machine.completeActive
  simp only
  split
  · exact hended.settles (settles_foldl (hfollower _) _ _)
  · exact hended

/-- The slot of an exchange that has ended, about to be decided. -/
structure Deciding (v : Tag) (s : State) : Prop where
  traffic : Traffic NoTag s
  free : NotInFlight v s
  active : (s.slot v).state = .active

theorem Deciding.settles (h : Deciding v s) (hs : Settles s t) : Deciding v t where
  traffic := h.traffic.settles hs
  free := h.free.congr hs.flight
  active := by
    rw [(hs.slot v).eq_of_not_waiting (waiting_of_finishedOrActive (.inr h.active))]
    exact h.active

/-- The slot's records may change before it is decided. -/
theorem Deciding.setSlot (h : Deciding v s) {y : Slot} (hstate : y.state = (s.slot v).state)
    (hkind : y.kindCode = (s.slot v).kindCode) (hports : y.bcastPorts = (s.slot v).bcastPorts) :
    Deciding v (s.setSlot v y) where
  traffic := h.traffic.setSlot_alike hstate hkind hports
  free := h.free.congr fun _ => rfl
  active := by
    rw [State.slot_setSlot_same, hstate]
    exact h.active

theorem Deciding.completeActive (h : Deciding v s) (st : Status) (late : Bool) (data : List Byte) :
    Traffic NoTag (completeActive v st late data s) := h.traffic.completeActive h.free st late data

theorem Deciding.waitOrFlush (h : Deciding v s) (b : Option Nat) : Traffic NoTag (waitOrFlush v b s) := by
  unfold Machine.waitOrFlush
  split
  · exact h.completeActive _ _ _
  · exact h.traffic.setSlot_rests h.free (by simp [h.active]) nofun fun _ _ hd => hd

theorem Deciding.busyDecision (h : Deciding v s) : Traffic NoTag (busyDecision v s) := by
  unfold Machine.busyDecision
  simp only
  split
  · exact h.completeActive _ _ _
  · exact Deciding.waitOrFlush (h.setSlot (by rfl) (by rfl) (by rfl)) _

theorem Deciding.failedDecision (h : Deciding v s) : Traffic NoTag (failedDecision v s) := by
  unfold Machine.failedDecision
  split
  · exact h.waitOrFlush _
  · exact h.completeActive _ _ _

theorem Deciding.decideSlot (h : Deciding v s) (d : Decision) : Traffic NoTag (decideSlot v d s) := by
  unfold Machine.decideSlot
  split
  · split <;> exact h.completeActive _ _ _
  · split
    · exact h.completeActive _ _ _
    · exact h.completeActive _ _ _
    · exact h.busyDecision
    · exact h.failedDecision
    · exact h.waitOrFlush _

theorem Deciding.attemptOutcome (h : Deciding v s) (f : Frame) (o : PortOutcome) :
    Traffic NoTag (attemptOutcome v f o s) := by
  unfold Machine.attemptOutcome
  simp only
  split
  · exact h.traffic
  · next k _ =>
    have hreported := h.settles (settles_reportAttempt k ((s.slot v).target.getD 0) f o s)
    exact Deciding.decideSlot (hreported.setSlot (by rfl) (by rfl) (by rfl)) _

/-! ## A frame of a slot handed (R109, R117, R121) -/

theorem not_pastClear (h : s.censusRunning = false) : ¬pastClear s := by
  intro hpast
  rw [running_of_pastClear hpast] at h
  nomatch h

/-- An ACTIVE slot that is no broadcast may be handed an attempt of its own where no census runs and the lock lets
the frame's kind pass. -/
theorem Traffic.handTargeted (h : Traffic D s) (hidle : s.inFlight p = none) (hfree : NotInFlight v s)
    (ho : Owner.targetedTag x.owner = some v) (hstate : (s.slot v).state = .active)
    (hkind : (s.slot v).isBcast = false) (hcensus : s.censusRunning = false)
    (hlock : s.lockHeld = true → lockedKind x.frame.kind = false ∧ x.owner = .attempt v) :
    Traffic D (Machine.handFrame p x s) := by
  refine h.handFrame hidle ⟨fun w hw => ?_, fun w hw y hy => ?_, fun w hw => ?_, fun hheld => ?_,
    fun hpast => absurd hpast (not_pastClear hcensus)⟩
  · rw [ho] at hw
    obtain rfl := Option.some.inj hw
    exact ⟨hstate, hkind⟩
  · rw [ho] at hw
    obtain rfl := Option.some.inj hw
    exact (hfree _ y hy).1
  · rw [hw] at ho
    nomatch ho
  · obtain ⟨hpasses, howner⟩ := hlock hheld
    refine ⟨hpasses, fun w hw => ?_⟩
    rw [howner] at hw
    nomatch hw

/-- The slot of an attempt is written ACTIVE before its frame is handed. -/
theorem Traffic.setSlot_active (h : Traffic D s) (hfree : NotInFlight v s) {y : Slot} (hstate : y.state = .active)
    (hdone : (s.slot v).state ≠ .done) (hkind : y.isBcast = false) : Traffic D (s.setSlot v y) :=
  h.setSlot (by simp [hstate, hdone]) (fun q x hx ho => absurd ho (hfree q x hx).1)
    (fun q x hx ho => absurd ho (hfree q x hx).2) (fun _ _ hd => hd)
    (fun hy => absurd hy.2 (by simp [hkind])) (fun _ hy => absurd hy.2 (by simp [hkind]))

/-- The lock lets pass the attempts of READ and PROBE. -/
theorem lockedKind_attemptFrame (y : Slot) (k : ReqKind) (b : Bool) :
    lockedKind (attemptFrame y k b).kind = k.lockRefuses := by cases k <;> rfl

theorem Traffic.makeAttempt (h : Traffic D s) (hidle : s.inFlight p = none) (hfree : NotInFlight v s)
    (hdone : (s.slot v).state ≠ .done) (hkind : (s.slot v).isBcast = false) (hcensus : s.censusRunning = false)
    {k : ReqKind} (hlock : s.lockHeld = true → k.lockRefuses = false) : Traffic D (makeAttempt p v k s) := by
  unfold Machine.makeAttempt
  apply Traffic.handTargeted (v := v)
  · exact h.setSlot_active hfree (by rfl) hdone hkind
  · exact hidle
  · exact hfree.congr fun _ => rfl
  · rfl
  · rw [State.slot_setSlot_same]
  · rw [State.slot_setSlot_same]
    exact hkind
  · exact hcensus
  · exact fun hheld => ⟨(lockedKind_attemptFrame _ _ _).trans (hlock hheld), rfl⟩

theorem Traffic.makeResync (h : Traffic D s) (hidle : s.inFlight p = none) (hfree : NotInFlight v s)
    (hdone : (s.slot v).state ≠ .done) (hkind : (s.slot v).isBcast = false) (hcensus : s.censusRunning = false)
    (hopen : s.lockHeld = false) : Traffic D (makeResync p v s) := by
  have hactive : Traffic D (s.setSlot v { s.slot v with state := .active }) :=
    h.setSlot_active hfree rfl hdone hkind
  have hfollow := hactive.stands (t := { s.setSlot v { s.slot v with state := .active } with
    followUps := s.followUps.set p (some v) }) ⟨rfl, rfl, rfl, rfl, rfl, fun _ => rfl⟩
  refine hfollow.handTargeted hidle (hfree.congr fun _ => rfl) (by rfl) ?_ ?_ hcensus fun hheld => ?_
  · show ((s.setSlot v _).slot v).state = _
    rw [State.slot_setSlot_same]
  · show ((s.setSlot v _).slot v).isBcast = _
    rw [State.slot_setSlot_same]
    exact hkind
  · rw [show s.lockHeld = true from hheld] at hopen
    nomatch hopen

/-! ## Outcomes of the resynchronising PROBE and of broadcasts (R118, R121) -/

/-- The WRITE that follows a matching IDENT goes out only where the lock was OPEN when its PROBE went out, and stays
OPEN (R54, R118). -/
theorem Deciding.resyncMatched (h : Deciding v s) (hidle : s.inFlight p = none)
    (hkind : (s.slot v).isBcast = false) (hopen : s.lockHeld = false) : Traffic NoTag (resyncMatched p v s) := by
  unfold Machine.resyncMatched
  split
  · exact h.completeActive _ _ _
  · next hcensus =>
    have hset := h.setSlot (y := { s.slot v with toggleUsed := some false }) rfl rfl rfl
    refine hset.traffic.makeAttempt hidle hset.free ?_ ?_ (Bool.eq_false_iff.2 hcensus) fun hheld => ?_
    · rw [hset.active]
      exact nofun
    · rw [State.slot_setSlot_same]
      exact hkind
    · rw [show s.lockHeld = true from hheld] at hopen
      nomatch hopen

theorem Deciding.resyncOutcome (h : Deciding v s) (hidle : s.inFlight p = none)
    (hkind : (s.slot v).isBcast = false) (hopen : s.lockHeld = false) (o : PortOutcome) :
    Traffic NoTag (resyncOutcome p v o s) := by
  have hreport : Settles s (clearFollowUp p (reportResync ((s.slot v).target.getD 0) o s)) :=
    (settles_reportProbe _ o s).trans (.of_stands ⟨rfl, rfl, rfl, rfl, rfl, fun _ => rfl⟩)
  have hd := h.settles hreport
  have hslot := (hreport.slot v).eq_of_not_waiting (waiting_of_finishedOrActive (.inr h.active))
  unfold Machine.resyncOutcome
  simp only
  split
  · exact hd.completeActive _ _ _
  · split
    · exact hd.completeActive _ _ _
    · exact hd.resyncMatched ((hreport.flight p).trans hidle) (by rw [hslot]; exact hkind) (hreport.lock.trans hopen)
    · exact hd.completeActive _ _ _
    · exact hd.busyDecision
    · exact hd.waitOrFlush _
    · exact hd.waitOrFlush _

/-- A broadcast with no port left is in flight nowhere. -/
theorem notInFlight_of_noPort (h : Traffic D s) (hkind : (s.slot v).isBcast = true)
    (hnone : ∀ q, (s.slot v).bcastPorts.get q = false) : NotInFlight v s := by
  refine fun q y hy => ⟨fun ho => ?_, fun ho => ?_⟩
  · rw [((h.flights q y hy).targeted v ho).2] at hkind
    nomatch hkind
  · have hport := ((h.flights q y hy).bcast v ho).2.2
    rw [hnone q] at hport
    nomatch hport

/-- A broadcast being dealt with ends where no port is left, and is carried on the others as before (R121). -/
theorem Traffic.bcastMaybeDone (h : Traffic (fun w => w = v) s) (hkind : (s.slot v).isBcast = true)
    (hcarries : s.censusRunning = true → ∀ q, (s.slot v).bcastPorts.get q = true → s.carries q (.bcast v) = true) :
    Traffic NoTag (bcastMaybeDone v s) := by
  unfold Machine.bcastMaybeDone
  simp only
  split
  · next hleft =>
    refine ⟨h.queue, h.flights, h.opened, fun w _ hw => ?_⟩
    by_cases hwv : w = v
    · rw [hwv]
      exact ⟨pair_get_exists.2 hleft, hcarries⟩
    · exact h.carried w hwv hw
  · next hleft =>
    refine h.complete (notInFlight_of_noPort h hkind fun q => ?_) _ _ _ fun w hne hw => absurd hw hne
    rw [Bool.eq_false_iff]
    exact fun hq => hleft (pair_get_exists.1 ⟨q, hq⟩)

theorem get_set_false {y : Pair Bool} {q : Port} (h : (y.set p false).get q = true) :
    q = p.other ∧ y.get q = true := by
  rcases Port.eq_or_other p q with rfl | rfl
  · rw [Pair.get_set_same] at h
    nomatch h
  · rw [Pair.get_set_other] at h
    exact ⟨rfl, h⟩

/-- A port on which nothing is in flight leaves the ports of a broadcast being dealt with (R121). -/
theorem Traffic.portLeaves (h : Traffic D s) (hgone : s.inFlight p = none) (hstate : (s.slot v).state = .active)
    (hkind : (s.slot v).isBcast = true) (hD : ∀ w, D w → w = v) {y : Slot} (hy : y.state = .active)
    (hcode : y.kindCode = (s.slot v).kindCode) (hports : y.bcastPorts = (s.slot v).bcastPorts.set p false)
    (hcarries : s.censusRunning = true → ∀ q, (s.slot v).bcastPorts.get q = true → q ≠ p →
      s.carries q (.bcast v) = true) : Traffic NoTag (Machine.bcastMaybeDone v (s.setSlot v y)) := by
  have hb : y.isBcast = true := by
    simp only [Slot.isBcast, Slot.kind, hcode] at hkind ⊢
    exact hkind
  have hset : Traffic (fun w => w = v) (s.setSlot v y) := by
    refine h.setSlot (by simp [hy, hstate]) (fun q x hx ho => ?_) (fun q x hx ho => ?_)
      (fun w _ hd => hD w hd) (fun _ => h.opened v ⟨hstate, hkind⟩) (fun hne => absurd rfl hne)
    · rw [((h.flights q x hx).targeted v ho).2] at hkind
      nomatch hkind
    · refine ⟨⟨hy, hb⟩, ?_⟩
      rw [hports]
      rcases Port.eq_or_other p q with rfl | rfl
      · rw [hgone] at hx
        nomatch hx
      · rw [Pair.get_set_other]
        exact ((h.flights _ x hx).bcast v ho).2.2
  refine hset.bcastMaybeDone (by rw [State.slot_setSlot_same]; exact hb) fun hr q hq => ?_
  rw [State.slot_setSlot_same, hports] at hq
  obtain ⟨hqp, hold⟩ := get_set_false hq
  exact hcarries hr q hold (hqp ▸ Port.other_ne p)

/-! ## Outcomes of the census (R69 to R80) -/

/-- Slots and completion queue stand. -/
def SameRequests (s t : State) : Prop := t.slots = s.slots ∧ t.completionQueue = s.completionQueue

theorem SameRequests.trans (h : SameRequests s t) (k : SameRequests t u) : SameRequests s u :=
  ⟨k.1.trans h.1, k.2.trans h.2⟩

theorem TouchesWalkEnd.sameRequests (h : TouchesWalkEnd s t) : SameRequests s t := by
  have e : t = _ := h
  rw [e]
  exact ⟨rfl, rfl⟩

theorem failCensus_sameRequests (r : CensusReason) (s : State) : SameRequests s (failCensus r s) := by
  unfold failCensus
  split <;> exact ⟨rfl, rfl⟩

theorem claimTaken_sameRequests (q : Port) (f : Frame) (s : State) :
    SameRequests s (afterClaim (takeClaim q f s)) := by
  have htake : SameRequests s (takeClaim q f s) := by simp [SameRequests, takeClaim]
  unfold afterClaim
  split
  · exact (htake.trans ⟨rfl, rfl⟩).trans (finishCensus_touchesWalkEnd _).sameRequests
  · exact htake

theorem closeRing_sameRequests (s : State) : SameRequests s (closeRing s) := by
  unfold closeRing
  simp only
  split
  · exact SameRequests.trans (t := { s with ringState := .closed, roster := mapCells (closedHops s.tails.a) s.roster })
      ⟨rfl, rfl⟩ (finishCensus_touchesWalkEnd _).sameRequests
  · exact ⟨rfl, rfl⟩

theorem claimOutcome_sameRequests (o : PortOutcome) (s : State) :
    SameRequests s (claimOutcomeA o s) ∧ SameRequests s (claimOutcomeB o s) := by
  have hsame : SameRequests s s := ⟨rfl, rfl⟩
  have hlost := failCensus_sameRequests .portLost s
  have hA : SameRequests s (if s.census.tries = 2 then endWalkA s else s) := by
    split
    · exact (endWalkA_touchesWalkEnd s).sameRequests
    · exact hsame
  have hB : SameRequests s (if s.census.tries = 2 then endWalkB s else s) := by
    split
    · exact SameRequests.trans (t := { s with ringState := .opened }) ⟨rfl, rfl⟩ (endWalkB_touchesWalkEnd s).sameRequests
    · exact hsame
  constructor
  · unfold claimOutcomeA
    split
    · split
      · exact claimTaken_sameRequests _ _ s
      · exact failCensus_sameRequests _ s
    · exact hA
    · exact hA
    · exact hA
    · exact hlost
    · exact hsame
  · unfold claimOutcomeB
    split
    · split
      · exact claimTaken_sameRequests _ _ s
      · split
        · exact closeRing_sameRequests s
        · exact failCensus_sameRequests _ s
    · exact hB
    · exact hB
    · exact hB
    · exact hlost
    · exact hsame

/-- The outcome of a census exchange leaves the requests, and changes nothing before the clear. -/
theorem censusOutcome_cases (p : Port) (o : PortOutcome) (s : State) :
    censusOutcome p o s = s ∨ (pastClear s ∧ SameRequests s (censusOutcome p o s)) := by
  unfold censusOutcome
  split
  · next hstate =>
    refine .inr ⟨.inl hstate, ?_⟩
    split
    · exact ⟨rfl, rfl⟩
    · exact failCensus_sameRequests _ s
    · exact ⟨rfl, rfl⟩
  · next hstate => exact .inr ⟨.inr (.inl hstate), (claimOutcome_sameRequests o s).1⟩
  · next hstate => exact .inr ⟨.inr (.inr hstate), (claimOutcome_sameRequests o s).2⟩
  · exact .inl rfl

/-! ## The end of an exchange (R38, R39) -/

/-- Whatever the outcome, its owner keeps the law. -/
theorem Traffic.applyOutcome (h : Traffic NoTag s) (hx : s.inFlight p = some x) (hd : Drops p s t)
    (o : PortOutcome) : Traffic NoTag (applyOutcome p x o t) := by
  have hok := h.flights p x hx
  have hother (ho : ∀ v, x.owner ≠ .bcast v) : Traffic NoTag t :=
    h.drops_noBcast hd (carries_bcast_of_owner hx ho)
  have hdeciding (w : Tag) (ho : Owner.targetedTag x.owner = some w) : Deciding w t := by
    refine ⟨hother fun v hv => ?_, notInFlight_of_drops h hd hx ho, ?_⟩
    · rw [hv] at ho
      nomatch ho
    · rw [State.slot_eq_of_slots hd.slots]
      exact (hok.targeted w ho).1
  unfold Machine.applyOutcome
  split
  · next ho =>
    have ht := hother (by simp [ho])
    rcases censusOutcome_cases p o t with heq | ⟨hpast, hslots, hqueue⟩
    · rw [heq]
      exact ht
    · exact ht.of_pastClear hpast hslots hqueue (censusOutcome_ports p o t)
  · next ho => exact (hother (by simp [ho])).settles (settles_checkOutcome p _ _ o t)
  · next w ho => exact (hdeciding w (by rw [ho]; rfl)).attemptOutcome _ o
  · next w ho =>
    refine (hdeciding w (by rw [ho]; rfl)).resyncOutcome hd.gone ?_ ?_ o
    · rw [State.slot_eq_of_slots hd.slots]
      exact (hok.targeted w (by rw [ho]; rfl)).2
    · rw [hd.lock, Bool.eq_false_iff]
      exact fun hheld => (hok.lock hheld).2 w ho
  · next w ho =>
    obtain ⟨hstate, hkind, -⟩ := hok.bcast w ho
    have hslot := State.slot_eq_of_slots hd.slots w
    have hcarried : t.censusRunning = true → ∀ q, (t.slot w).bcastPorts.get q = true → q ≠ p →
        t.carries q (.bcast w) = true := by
      intro hr q hq hqp
      have hruns : s.censusRunning = true := by
        unfold State.censusRunning at hr ⊢
        rw [← hd.census]
        exact hr
      obtain rfl := (Port.eq_or_other p q).resolve_left hqp
      rw [hslot] at hq
      exact (carries_congr hd.other _).trans ((h.carried w not_false ⟨hstate, hkind⟩).2 hruns _ hq)
    have hD (v : Tag) (hv : s.carries p (.bcast v) = true) : v = w := by
      obtain ⟨y, hy, howner⟩ := (carries_iff _).1 hv
      rw [hx] at hy
      rw [← Option.some.inj hy, ho] at howner
      exact (Owner.bcast.inj howner).symm
    unfold bcastOutcome
    simp only
    refine (h.drops hd).portLeaves hd.gone (by rw [hslot]; exact hstate) (by rw [hslot]; exact hkind) hD ?_ ?_ ?_ hcarried
    · split <;> (rw [hslot]; exact hstate)
    · split <;> rfl
    · split <;> rfl
  · next ho => exact (hother (by simp [ho])).settles (settles_pollOutcome _ o t)
  · next ho => exact (hother (by simp [ho])).settles (settles_fetchOutcome p _ o t)

/-- A port whose exchange is replaced by one at rest. -/
theorem drops_setPort {y : ChainPort} (h : y.exch.xfer = none) (hports : t.ports = s.ports.set p y)
    (hslots : t.slots = s.slots) (hqueue : t.completionQueue = s.completionQueue) (hlock : t.lockHeld = s.lockHeld)
    (hcensus : t.census.state = s.census.state) : Drops p s t := by
  refine ⟨hslots, hqueue, hlock, hcensus, ?_, ?_⟩
  · unfold State.inFlight State.port
    rw [hports, Pair.get_set_same]
    exact h
  · unfold State.inFlight State.port
    rw [hports, Pair.get_set_other]

theorem Traffic.endExchange (h : Traffic NoTag s) (hx : s.inFlight p = some x) (o : PortOutcome) :
    Traffic NoTag (endExchange p x o s) := by
  have hdrops : Drops p s (s.setExch p .idle) :=
    drops_setPort (y := { s.port p with exch := .idle }) rfl rfl rfl rfl rfl rfl
  exact (h.applyOutcome hx hdrops o).settles (settles_settle _)

/-! ## A port leaving UP (R29) -/

theorem Traffic.bcastPortGone (h : Traffic NoTag s) (hgone : s.inFlight p = none) (w : Tag) :
    Traffic NoTag (bcastPortGone p w s) := by
  unfold Machine.bcastPortGone
  simp only
  split
  · next hwaits =>
    simp only [Bool.and_eq_true, beq_iff_eq] at hwaits
    obtain ⟨⟨hkind, hstate⟩, -⟩ := hwaits
    exact h.portLeaves hgone hstate hkind (fun _ hd => hd.elim) hstate rfl rfl
      fun hr q hq _ => (h.carried w not_false ⟨hstate, hkind⟩).2 hr q hq
  · exact h

theorem bcastPortGone_ports (q : Port) (w : Tag) (s : State) : (bcastPortGone q w s).ports = s.ports := by
  unfold bcastPortGone bcastMaybeDone
  simp only
  split
  · split
    · rfl
    · exact (finish_touches _ _ _).ports
  · rfl

theorem Traffic.bcastPortGoneAll (h : Traffic NoTag s) (hgone : s.inFlight p = none) :
    Traffic NoTag (bcastPortGoneAll p s) := by
  unfold Machine.bcastPortGoneAll
  generalize s.unfinishedTags = l
  induction l generalizing s with
  | nil => exact h
  | cons w l ih =>
    exact ih (h.bcastPortGone hgone w) ((flight_of_ports (bcastPortGone_ports p w s) p).trans hgone)

theorem Traffic.endTraffic (h : Traffic NoTag s) (p : Port) (l : LinkState) : Traffic NoTag (endTraffic p l s) := by
  have hdrops : Drops p s (dropLink p l s) :=
    drops_setPort (y := { s.port p with link := l, idleRun := 0, lossTimer := false, exch := .held, rx := .nothing })
      rfl rfl rfl rfl rfl rfl
  have htold : Traffic NoTag (tellLinkLost p (s.port p).exch s.freeCount (dropLink p l s)) := by
    unfold tellLinkLost
    split
    · next x hx => exact h.applyOutcome hx hdrops _
    · next hnone =>
      refine h.drops_noBcast hdrops fun v => ?_
      rw [Bool.eq_false_iff]
      intro hc
      obtain ⟨y, hy, -⟩ := (carries_iff _).1 hc
      rw [show s.inFlight p = none from hnone] at hy
      nomatch hy
  have hgone : (tellLinkLost p (s.port p).exch s.freeCount (dropLink p l s)).inFlight p = none := by
    refine (flight_of_ports ?_ p).trans hdrops.gone
    unfold tellLinkLost
    split
    · exact applyOutcome_noReply_ports (noReply_lostOutcome _ _) _ _ _
    · rfl
  exact (htold.bcastPortGoneAll hgone).settles (settles_frontPass _)

theorem stands_failCensus (r : CensusReason) (s : State) : Stands s (failCensus r s) := by
  unfold failCensus
  split <;> exact ⟨rfl, rfl, rfl, rfl, rfl, fun _ => rfl⟩

theorem stands_censusPortLeft (p : Port) (s : State) : Stands s (censusPortLeft p s) := by
  obtain ⟨hslots, hqueue, hroster, hlock, hcensus, hflight⟩ := stands_failCensus .portLost s
  have hleft : Stands s (if s.census.ports.get p then
      let s1 := failCensus .portLost s
      { s1 with census := { s1.census with settleTimer := false } } else s) := by
    split
    · exact ⟨hslots, hqueue, hroster, hlock, hcensus, hflight⟩
    · exact .refl s
  unfold censusPortLeft
  split
  · exact hleft
  · exact hleft
  · exact hleft
  · exact .refl s

theorem Traffic.leaveUp (h : Traffic NoTag s) (p : Port) (l : LinkState) : Traffic NoTag (leaveUp p l s) := by
  have htold := ((h.endTraffic p l).stands (stands_censusPortLeft p _)).settles (settles_tellChecks p _)
  have hcount (r : State) (n : Nat) : Settles r { r with freeCount := n } :=
    .of_stands ⟨rfl, rfl, rfl, rfl, rfl, fun _ => rfl⟩
  unfold Machine.leaveUp
  exact htold.settles (Settles.trans (hcount _ _) (settles_settleFrom _ _))

/-! ## The arbiter (R103, R104) -/

theorem inFlight_of_canHand (h : s.canHand p = true) : s.inFlight p = none := by
  unfold State.inFlight
  rw [canHand_idle h]
  rfl

/-- An exchange that is made for no slot. -/
theorem flightOk_noSlot (htargeted : Owner.targetedTag x.owner = none) (hbcast : ∀ v, x.owner ≠ .bcast v)
    (hkind : lockedKind x.frame.kind = false)
    (hcensus : pastClear s → x.owner = .census ∧ (x.frame.kind = .release ∨ x.frame.kind = .claim)) :
    FlightOk s p x := by
  refine ⟨fun v hv => ?_, fun v hv => ?_, fun v hv => absurd hv (hbcast v), fun _ => ⟨hkind, fun v hv => ?_⟩, hcensus⟩
  · rw [htargeted] at hv
    nomatch hv
  · rw [htargeted] at hv
    nomatch hv
  · rw [hv] at htargeted
    nomatch htargeted

theorem Traffic.handCensus (h : Traffic NoTag s) (hidle : s.inFlight p = none) : Traffic NoTag (handCensus p s) := by
  have hclaim (q : Port) (hq : s.inFlight q = none) : Traffic NoTag (startClaim q s) := by
    have hcounted := h.stands (t := { s with census := { s.census with
        position := s.tails.get q + 1
        tries := if s.census.position = s.tails.get q + 1 then s.census.tries + 1 else 1 } })
      ⟨rfl, rfl, rfl, rfl, rfl, fun _ => rfl⟩
    exact hcounted.handFrame hq (flightOk_noSlot rfl nofun rfl fun _ => ⟨rfl, .inr rfl⟩)
  unfold Machine.handCensus
  split
  · split
    · exact h.handFrame hidle (flightOk_noSlot rfl nofun rfl fun _ => ⟨rfl, .inl rfl⟩)
    · exact h
  · split
    · exact hclaim .a hidle
    · exact h
  · split
    · exact hclaim .b hidle
    · exact h
  · exact h

theorem Traffic.startProbe (h : Traffic NoTag s) (hidle : s.inFlight p = none) (hcensus : s.censusRunning = false)
    (q : Port) (a : Nat) : Traffic NoTag (startProbe p q a s) := by
  unfold Machine.startProbe
  exact (h.settles (settles_setCheck q _ s)).handFrame hidle
    (flightOk_noSlot rfl nofun rfl fun hpast => absurd hpast (not_pastClear hcensus))

theorem Traffic.startSweep (h : Traffic NoTag s) (hidle : s.inFlight p = none) (hcensus : s.censusRunning = false)
    (c : SweepChoice) : Traffic NoTag (startSweep p c s) := by
  have hstands {r : State} (hr : Stands s r) : Traffic NoTag r := h.stands hr
  unfold Machine.startSweep
  split
  · next a =>
    exact (hstands (r := reserve p a (setCursor p a s)) ⟨rfl, rfl, rfl, rfl, rfl, fun _ => rfl⟩).handFrame hidle
      (flightOk_noSlot rfl nofun rfl fun hpast => absurd hpast (not_pastClear hcensus))
  · next a =>
    exact (hstands (r := setCursor p a s) ⟨rfl, rfl, rfl, rfl, rfl, fun _ => rfl⟩).handFrame hidle
      (flightOk_noSlot rfl nofun rfl fun hpast => absurd hpast (not_pastClear hcensus))
  · exact h

/-- A frame of an ACTIVE broadcast that the port is to carry. -/
theorem Traffic.startBcast (h : Traffic NoTag s) (hidle : s.inFlight p = none) (hcensus : s.censusRunning = false)
    (hactive : ActiveBcast (s.slot v)) (hport : (s.slot v).bcastPorts.get p = true) :
    Traffic NoTag (startBcast p v s) := by
  have hopen := h.opened v hactive
  have hset : Traffic NoTag (s.setSlot v { s.slot v with attempts := (s.slot v).attempts + 1 }) :=
    h.setSlot_alike rfl rfl rfl
  refine hset.handFrame hidle ⟨nofun, nofun, fun w hw => ?_, fun hheld => ?_,
    fun hpast => absurd hpast (not_pastClear hcensus)⟩
  · obtain rfl := Owner.bcast.inj hw
    rw [State.slot_setSlot_same]
    exact ⟨hactive.1, hactive.2, hport⟩
  · rw [show s.lockHeld = true from hheld] at hopen
    nomatch hopen

/-- What an eligible slot is (R106). -/
theorem eligible_facts (h : s.eligible p v = true) :
    s.censusRunning = false ∧ (s.slot v).waiting = true ∧ (s.slot v).isBcast = false
      ∧ ∀ k, (s.slot v).kind = some k → s.lockHeld = true → k.lockRefuses = false := by
  simp only [State.eligible, State.atFront, Bool.and_eq_true, Bool.not_eq_eq_eq_not, Bool.not_true] at h
  obtain ⟨⟨⟨⟨⟨⟨⟨⟨⟨hcensus, -⟩, -⟩, -⟩, htargeted⟩, hstate⟩, -⟩, -⟩, -⟩, hcheck⟩ := h
  refine ⟨hcensus, ?_, ?_, fun k hk hheld => ?_⟩
  · simp only [Bool.or_eq_true, Bool.and_eq_true] at hstate
    simp only [Slot.waiting, Bool.or_eq_true]
    exact hstate.imp_right And.left
  · rw [Bool.eq_false_iff]
    intro hb
    have hkind : (s.slot v).kind = some .bcastWrite := by simpa [Slot.isBcast] using hb
    rw [hkind] at htargeted
    nomatch htargeted
  · rw [Option.isNone_iff_eq_none] at hcheck
    rw [Bool.eq_false_iff]
    intro hrefuses
    simp only [State.frontCheck, hk, hrefuses, hheld, Bool.and_self, if_true] at hcheck
    split at hcheck
    · nomatch hcheck
    · split at hcheck <;> nomatch hcheck

theorem Traffic.startSlot (h : Traffic NoTag s) (hidle : s.inFlight p = none) (heligible : s.eligible p v = true) :
    Traffic NoTag (startSlot p v s) := by
  obtain ⟨hcensus, hwaits, hkind, hlock⟩ := eligible_facts heligible
  have hunfinished := unfinished_of_waiting hwaits
  have hfree : NotInFlight v s := by
    refine notInFlight_of_not_active h fun hactive => ?_
    rw [waiting_of_finishedOrActive (.inr hactive)] at hwaits
    nomatch hwaits
  unfold Machine.startSlot
  split
  · next hresync =>
    simp only [State.needsResync, Bool.and_eq_true, beq_iff_eq] at hresync
    refine h.makeResync hidle hfree (not_done_of_unfinished hunfinished) hkind hcensus ?_
    rw [Bool.eq_false_iff]
    intro hheld
    nomatch hlock _ hresync.1.1 hheld
  · split
    · next k hk =>
      exact h.makeAttempt hidle hfree (not_done_of_unfinished hunfinished) hkind hcensus (hlock k hk)
    · exact h

theorem Traffic.startHost (h : Traffic NoTag s) (hidle : s.inFlight p = none) (hcensus : s.censusRunning = false)
    {f : HostFrame} (hf : s.hostFrame p = some f) : Traffic NoTag (startHost p f s) := by
  have hmarker : Traffic NoTag (setMarker p .host s) := h.stands ⟨rfl, rfl, rfl, rfl, rfl, fun _ => rfl⟩
  unfold State.hostFrame at hf
  split at hf
  · next w hw =>
    obtain rfl := Option.some.inj hf
    have hready := List.find?_some hw
    simp only [Bool.and_eq_true, beq_iff_eq] at hready
    obtain ⟨⟨⟨hkind, hstate⟩, hport⟩, -⟩ := hready
    exact hmarker.startBcast hidle hcensus ⟨hstate, hkind⟩ hport
  · obtain ⟨w, hw, rfl⟩ := Option.map_eq_some_iff.1 hf
    have heligible : s.eligible p w = true := by
      unfold State.nextEligible at hw
      exact List.find?_some hw
    exact hmarker.startSlot hidle heligible

theorem Traffic.handShared (h : Traffic NoTag s) (hidle : s.inFlight p = none) (hcensus : s.censusRunning = false) :
    Traffic NoTag (handShared p s) := by
  have hsweep (c : SweepChoice) : Traffic NoTag (Machine.startSweep p c (setMarker p .sweep s)) :=
    (h.stands (t := setMarker p .sweep s) ⟨rfl, rfl, rfl, rfl, rfl, fun _ => rfl⟩).startSweep hidle hcensus c
  unfold Machine.handShared
  split
  · exact h
  · exact hsweep _
  · exact h.startHost hidle hcensus ‹_›
  · split
    · exact hsweep _
    · exact h.startHost hidle hcensus ‹_›

theorem Traffic.arbitrate (h : Traffic NoTag s) (hidle : s.inFlight p = none) : Traffic NoTag (arbitrate p s) := by
  unfold Machine.arbitrate
  split
  · exact h.handCensus hidle
  · next hruns =>
    have hcensus : s.censusRunning = false := by simpa using hruns
    have htested : Stands s (testBacklog p s) := by
      unfold testBacklog
      split
      · exact ⟨rfl, rfl, rfl, rfl, rfl, fun _ => rfl⟩
      · exact .refl s
    have hnot : (testBacklog p s).censusRunning = false := by
      unfold State.censusRunning
      rw [htested.census]
      exact hcensus
    split
    · split
      · exact h.startProbe hidle hcensus _ _
      · split
        · exact h.startProbe hidle hcensus _ _
        · exact h
    · split
      · exact h.startProbe hidle hcensus _ _
      · exact (h.stands htested).handShared ((htested.flight p).trans hidle) hnot

end Sys2Proof.Proofs
end

section
/-! Laws 1, 8 and 9 through the commands of CMD, the census clear and stop and the resets; with the rules before,
every step keeps them (R54, R63 to R68, R78, R79, R86, R97, R98, R173, R180). -/

namespace Sys2Proof.Proofs

-- one theorem after the other: many proofs elaborated at once ask for a stack each
set_option Elab.async false

open Sys2Proof.Machine Sys2Proof.Safety

variable {s t u : State} {p : Port} {v : Tag} {D E : Tag → Prop}

/-! ## Broadcasts stopped (R65, R98, R100) -/

theorem bcastInFlight_iff (v : Tag) (s : State) :
    s.bcastInFlight v = true ↔ ∃ q, s.carries q (.bcast v) = true := by
  simp only [State.bcastInFlight, State.bcastSending, Bool.or_eq_true]
  constructor
  · rintro (h | h)
    · exact ⟨.a, h⟩
    · exact ⟨.b, h⟩
  · rintro ⟨q, h⟩
    cases q with
    | a => exact .inl h
    | b => exact .inr h

theorem stoppedPorts_get (v : Tag) (s : State) (q : Port) :
    ({ a := (s.slot v).bcastPorts.a && s.bcastSending v .a,
       b := (s.slot v).bcastPorts.b && s.bcastSending v .b } : Pair Bool).get q
      = ((s.slot v).bcastPorts.get q && s.carries q (.bcast v)) := by cases q <;> rfl

/-- An ACTIVE slot of no attempt in flight that is a broadcast with no frame being sent is in flight nowhere. -/
theorem notInFlight_of_bcast (h : Traffic D s) (hkind : (s.slot v).isBcast = true)
    (hno : s.bcastInFlight v = false) : NotInFlight v s := by
  refine fun q y hy => ⟨fun ho => ?_, fun ho => ?_⟩
  · rw [((h.flights q y hy).targeted v ho).2] at hkind
    nomatch hkind
  · rw [(bcastInFlight_iff v s).2 ⟨q, (carries_iff _).2 ⟨y, hy, ho⟩⟩] at hno
    nomatch hno

/-- A stopped broadcast keeps the ports it is being sent on, and is carried on each. -/
theorem Traffic.stopBcast (h : Traffic D s) (hactive : ActiveBcast (s.slot v)) (hothers : ∀ w, w ≠ v → D w → E w)
    (hcarried : s.bcastInFlight v = true ∨ E v) : Traffic E (stopBcast v s) := by
  unfold Machine.stopBcast
  refine h.setSlot .rfl (fun q x hx ho => (h.flights q x hx).targeted v ho) (fun q x hx ho => ⟨hactive, ?_⟩) hothers
    (fun _ => h.opened v hactive) (fun hE _ => ⟨?_, fun _ q hq => ?_⟩)
  · rw [stoppedPorts_get, ((h.flights q x hx).bcast v ho).2.2, (carries_iff _).2 ⟨x, hx, ho⟩]
    rfl
  · obtain ⟨q, hq⟩ := (bcastInFlight_iff v s).1 (hcarried.resolve_right hE)
    obtain ⟨x, hx, ho⟩ := (carries_iff _).1 hq
    refine ⟨q, ?_⟩
    rw [stoppedPorts_get, ((h.flights q x hx).bcast v ho).2.2, hq]
    rfl
  · rw [stoppedPorts_get, Bool.and_eq_true] at hq
    exact hq.2

/-- A broadcast of which no frame is being sent is stopped and ended. -/
theorem Traffic.endBcast (h : Traffic D s) (hactive : ActiveBcast (s.slot v)) (hno : s.bcastInFlight v = false)
    (st : Status) (hothers : ∀ w, w ≠ v → D w → E w) : Traffic E (finish v st (Machine.stopBcast v s)) := by
  have hstopped : Traffic (fun w => D w ∨ w = v) (Machine.stopBcast v s) :=
    h.stopBcast hactive (fun w _ hw => .inl hw) (.inr (.inr rfl))
  have hfree : NotInFlight v (Machine.stopBcast v s) := (notInFlight_of_bcast h hactive.2 hno).congr fun _ => rfl
  exact hstopped.complete hfree st false [] fun w hne hw => hothers w hne (hw.resolve_right hne)

theorem Traffic.cancelActive (h : Traffic NoTag s) (hstate : (s.slot v).state = .active) :
    Traffic NoTag (cancelActive v s) := by
  unfold Machine.cancelActive
  split
  · next hkind =>
    split
    · next hsent =>
      have hstopped : Traffic NoTag (Machine.stopBcast v s) :=
        h.stopBcast ⟨hstate, hkind⟩ (fun _ _ hd => hd) (.inl hsent)
      exact hstopped.setSlot_alike rfl rfl rfl
    · next hno => exact h.endBcast ⟨hstate, hkind⟩ (by simpa using hno) _ fun _ _ hd => hd
  · exact h.setSlot_alike rfl rfl rfl

/-! ## START_CENSUS (R63, R65, R66) -/

/-- A slot that the flush deals with is dealt with no more. -/
theorem Traffic.flushAtStart {l : List Tag} (h : Traffic (fun w => w ∈ v :: l) s) :
    Traffic (fun w => w ∈ l) (flushAtStart v s) := by
  have hothers (w : Tag) (hne : w ≠ v) (hw : w ∈ v :: l) : w ∈ l := List.mem_of_ne_of_mem hne hw
  have hrests (hstate : (s.slot v).state ≠ .active) : Traffic (fun w => w ∈ l) s :=
    h.mono fun w hactive hw => hothers w (fun hwv => hstate (hwv ▸ hactive.1)) hw
  unfold Machine.flushAtStart
  simp only
  split
  · next hstate =>
    exact (hrests (by simp [hstate])).settles (settles_finish (by simp [Slot.waiting, hstate]) _)
  · next hstate =>
    have hr := hrests (by simp [hstate])
    split
    · exact hr.setSlot_alike rfl rfl rfl
    · exact hr.settles (settles_finish (by simp [Slot.waiting, hstate]) _)
  · next hstate =>
    split
    · next hkind =>
      split
      · next hsent => exact h.stopBcast ⟨hstate, hkind⟩ hothers (.inl hsent)
      · next hno => exact h.endBcast ⟨hstate, hkind⟩ (by simpa using hno) _ hothers
    · next hkind =>
      exact h.mono fun w hactive hw => hothers w (fun hwv => hkind (hwv ▸ hactive.2)) hw
  · next hstate _ => exact hrests ‹_›

theorem Traffic.flushes {l : List Tag} (h : Traffic (fun w => w ∈ l) s) :
    Traffic NoTag (l.foldl (fun s' w => Machine.flushAtStart w s') s) := by
  induction l generalizing s with
  | nil => exact h.mono fun w _ hw => absurd hw List.not_mem_nil
  | cons w l ih => exact ih h.flushAtStart

/-- In DRAINING the census has not passed its clear. -/
theorem Traffic.startCensus (h : Traffic NoTag s) : Traffic NoTag (startCensus s) := by
  have hdraining (c : Census) (hc : c.state = .draining) :
      Traffic (fun w => w ∈ s.unfinishedTags) { s with census := c } := by
    refine ⟨h.queue, fun q x hx => ?_, h.opened, fun w hw hactive => absurd ?_ hw⟩
    · have hok := h.flights q x hx
      refine ⟨hok.targeted, hok.alone, hok.bcast, hok.lock, fun hpast => ?_⟩
      unfold pastClear at hpast
      simp [hc] at hpast
    · rw [mem_unfinishedTags]
      simp [Slot.unfinished, show (s.slot w).state = .active from hactive.1]
  have habandon (q : Port) (r : State) : Settles r (abandonCheck q r) := by
    unfold abandonCheck
    simp only
    split
    · exact .refl r
    · exact settles_setCheck q _ r
  unfold Machine.startCensus
  exact ((hdraining _ rfl).flushes.settles (habandon .a _)).settles (habandon .b _)

/-! ## The clear and the stop (R67, R68, R79) -/

theorem Quiet.settles (h : Quiet s) (hs : Settles s t) (hcensus : s.censusRunning = true) : Quiet t := by
  refine ⟨hs.queue h.queue, fun q => (hs.flight q).trans (h.flights q), fun v hv => ?_⟩
  rcases hs.slot v with heq | ⟨-, hdone | hchosen⟩
  · exact h.bcasts v (heq ▸ hv)
  · rw [hv.1] at hdone
    nomatch hdone
  · rw [hchosen.2.2.2.1] at hcensus
    nomatch hcensus

theorem Quiet.stopCensus (h : Quiet s) (c : StopCause) : Traffic NoTag (stopCensus c s) := by
  have hended : Quiet (endCensus c.result c.reason
      { s with rosterState := .partly, fingerprint := s.computeFingerprint }) := h.congr rfl rfl rfl
  exact hended.traffic.settles
    (((settles_frontPass _).trans (settles_startCheckIfDown .a _)).trans (settles_startCheckIfDown .b _))

theorem settles_flushQueued (s : State) : Settles s (flushQueued s) := by
  refine settles_foldl (fun r w => ?_) _ s
  unfold flushAtClear
  split
  · next hqueued => exact settles_finish (by simp [Slot.waiting, hqueued]) _
  · exact .refl r

theorem inFlight_of_atRest (h : (s.port p).exch.atRest = true) : s.inFlight p = none := by
  unfold State.inFlight
  cases hexch : (s.port p).exch with
  | held => rfl
  | idle => rfl
  | sending => simp [Exchange.atRest, hexch] at h
  | awaiting => simp [Exchange.atRest, hexch] at h

theorem Traffic.makeClear (h : Traffic NoTag s) (hdrained : s.drained = true) : Traffic NoTag (makeClear s) := by
  simp only [State.drained, Bool.and_eq_true, beq_iff_eq] at hdrained
  obtain ⟨⟨hstate, ha⟩, hb⟩ := hdrained
  have hruns : s.censusRunning = true := by simp [State.censusRunning, hstate]
  have hquiet : Quiet s := by
    refine quiet_of_noFlight h (fun q => ?_) hruns
    cases q with
    | a => exact inFlight_of_atRest ha
    | b => exact inFlight_of_atRest hb
  have hflushed : Quiet (flushQueued s) := hquiet.settles (settles_flushQueued s) hruns
  have hcleared : Quiet (clearCensus s) := by
    unfold clearCensus
    generalize flushQueued s = r at hflushed
    exact hflushed.congr rfl rfl rfl
  have hafter {r : State} (hr : Quiet r) : Traffic NoTag (afterClear r) := by
    unfold afterClear
    split
    · exact hr.stopCensus _
    · split
      · exact Quiet.traffic (hr.congr (by rfl) (by rfl) (by rfl))
      · exact Quiet.traffic (hr.congr (by rfl) (by rfl) (by rfl))
  unfold Machine.makeClear
  exact (hafter hcleared).settles (settles_settle _)

theorem Traffic.makeStop (h : Traffic NoTag s) : Traffic NoTag (makeStop s) := by
  unfold Machine.makeStop
  split
  · next c hready =>
    have hstop : pastClear s ∧ s.censusInFlight = false := by
      unfold State.stopReady at hready
      have hnot {o : Option StopCause} (ho : (if s.censusInFlight = true then none else o) = some c) :
          s.censusInFlight = false := by
        rw [Bool.eq_false_iff]
        intro hin
        simp [hin] at ho
      split at hready
      · next hstate => exact ⟨.inl hstate, hnot hready⟩
      · next hstate => exact ⟨.inr (.inl hstate), hnot hready⟩
      · next hstate => exact ⟨.inr (.inr hstate), hnot hready⟩
      · nomatch hready
      · nomatch hready
    obtain ⟨hpast, hno⟩ := hstop
    simp only [State.censusInFlight, Bool.or_eq_false_iff] at hno
    have hnone (q : Port) : s.inFlight q = none := by
      cases hx : s.inFlight q with
      | none => rfl
      | some x =>
        have hcarries := (carries_iff _).2 ⟨x, hx, ((h.flights q x hx).census hpast).1⟩
        cases q with
        | a => rw [hno.1] at hcarries; nomatch hcarries
        | b => rw [hno.2] at hcarries; nomatch hcarries
    exact ((quiet_of_noFlight h hnone (running_of_pastClear hpast)).stopCensus c).settles (settles_settle _)
  · exact h

theorem Traffic.endSettle (h : Traffic NoTag s) (hsettling : s.settling = true) : Traffic NoTag (endSettle s) := by
  simp only [State.settling, Bool.and_eq_true, beq_iff_eq] at hsettling
  unfold Machine.endSettle
  simp only
  split
  · exact h.of_pastClear (.inl hsettling.1) rfl rfl rfl
  · exact h.of_pastClear (.inl hsettling.1) rfl rfl rfl

/-! ## SUBMIT and POP_COMPLETION (R86, R89, R97) -/

theorem Traffic.takeSlot (h : Traffic NoTag s) (hfree : s.lowestFree = some v) : Traffic NoTag (takeSlot v s) := by
  have hstate : (s.slot v).state = .free := by
    unfold State.lowestFree at hfree
    simpa using List.find?_some hfree
  have hnot : NotInFlight v s := notInFlight_of_not_active h (by simp [hstate])
  have htaken (y : Slot) (hy : y.state = .queued) (n : BitVec 32) :
      Traffic NoTag { s.setSlot v y with submissionCounter := n, submitResult := .accepted v }
        ∧ (({ s.setSlot v y with submissionCounter := n, submitResult := .accepted v } : State).slot v).waiting
          = true := by
    have hset : Traffic NoTag (s.setSlot v y) :=
      h.setSlot_rests hnot (by simp [hy, hstate]) (by simp [hy]) fun _ _ hd => hd
    refine ⟨hset.stands ⟨rfl, rfl, rfl, rfl, rfl, fun _ => rfl⟩, ?_⟩
    show ((s.setSlot v y).slot v).waiting = true
    rw [State.slot_setSlot_same]
    simp [Slot.waiting, hy]
  have hvalidate {r : State} (hr : (r.slot v).waiting = true) : Settles r (validateTarget v r) := by
    unfold validateTarget
    split
    · exact .refl r
    · split
      · split
        · exact settles_finish hr _
        · split
          · exact settles_finish hr _
          · exact .refl r
      · exact .refl r
  unfold Machine.takeSlot
  simp only
  split
  · obtain ⟨htraffic, hwaits⟩ := htaken (slotFromMailbox s.mailbox s.submissionCounter (mailboxValid s.mailbox)) rfl
      (s.submissionCounter + 1)
    exact htraffic.settles (hvalidate hwaits)
  · obtain ⟨htraffic, hwaits⟩ := htaken (slotFromMailbox s.mailbox s.submissionCounter (mailboxValid s.mailbox)) rfl
      (s.submissionCounter + 1)
    exact htraffic.settles (settles_finish hwaits _)

theorem Traffic.popHead (h : Traffic NoTag s) {rest : List Tag} (hqueue : s.completionQueue = v :: rest) :
    Traffic NoTag (popHead v rest s) := by
  obtain ⟨hnodup, hmem⟩ := h.queue
  rw [hqueue] at hnodup
  have hdone : (s.slot v).state = .done := (hmem v).1 (by simp [hqueue])
  have hnot : NotInFlight v s := notInFlight_of_not_active h (by simp [hdone])
  have hfreed : Traffic NoTag (s.setSlot v { Slot.free with state := .done }) :=
    h.setSlot_rests hnot (by simp [hdone]) nofun fun _ _ hd => hd
  have hslot (w : Tag) : (Machine.popHead v rest s).slot w = if w = v then Slot.free else s.slot w :=
    State.slot_setSlot s v w Slot.free
  have hne {w : Tag} (hw : ActiveBcast ((Machine.popHead v rest s).slot w)) : w ≠ v := by
    rintro rfl
    rw [hslot, if_pos rfl] at hw
    nomatch hw.1
  refine ⟨⟨(List.nodup_cons.1 hnodup).2, fun w => ?_⟩, fun q x hx => ?_, fun w hw => ?_, fun w _ hw => ?_⟩
  · rw [hslot]
    show w ∈ rest ↔ _
    split
    · next hwv =>
      rw [hwv]
      exact ⟨fun hin => absurd hin (List.nodup_cons.1 hnodup).1, nofun⟩
    · next hwv => rw [← hmem w, hqueue, List.mem_cons, or_iff_right hwv]
  · have hok := h.flights q x hx
    refine ⟨fun w hw => ?_, hok.alone, fun w hw => ?_, hok.lock, hok.census⟩
    · rw [hslot, if_neg fun hwv : w = v => (hnot q x hx).1 (hwv ▸ hw)]
      exact hok.targeted w hw
    · rw [hslot, if_neg fun hwv : w = v => (hnot q x hx).2 (hwv ▸ hw)]
      exact hok.bcast w hw
  · have hold := hw
    rw [hslot, if_neg (hne hw)] at hold
    exact h.opened w hold
  · have hold := hw
    rw [hslot, if_neg (hne hw)] at hold ⊢
    exact h.carried w not_false hold

/-! ## The lock opened, and the resets (R55, R173, R180) -/

theorem Traffic.openLock (h : Traffic NoTag s) : Traffic NoTag { s with lockHeld := false } :=
  ⟨h.queue, fun q x hx =>
    have hok := h.flights q x hx
    ⟨hok.targeted, hok.alone, hok.bcast, nofun, hok.census⟩, fun _ _ => rfl, h.carried⟩

/-- After a reset every slot is FREE and nothing is in flight. -/
theorem quiet_of_reset (hslots : t.slots = Vector.replicate 16 Slot.free) (hqueue : t.completionQueue = [])
    (hflights : ∀ q, t.inFlight q = none) : Quiet t := by
  have hslot (v : Tag) : t.slot v = Slot.free := by
    unfold State.slot
    simp [hslots]
  refine ⟨⟨by simp [hqueue], fun v => ?_⟩, hflights, fun v hv => ?_⟩
  · rw [hqueue, hslot]
    exact ⟨nofun, nofun⟩
  · rw [hslot] at hv
    nomatch hv.1

theorem quiet_softReset (s : State) : Quiet (softReset s) := by
  have hrests (y : ChainPort) : (softResetPort y).exch.xfer = none := by
    unfold softResetPort
    simp only
    split <;> rfl
  refine quiet_of_reset rfl rfl fun q => ?_
  cases q with
  | a => exact hrests s.ports.a
  | b => exact hrests s.ports.b

theorem quiet_hardwareReset (s : State) : Quiet (hardwareReset s) :=
  quiet_of_reset rfl rfl fun q => by cases q <;> rfl

/-! ## The statement -/

/-- Every act keeps the law. -/
theorem Traffic.act (hact : Act s t) (h : Traffic NoTag s) : Traffic NoTag t := by
  cases hact with
  | stands hs => exact h.stands hs
  | endExchange hx o => exact h.endExchange hx o
  | leaveUp p l => exact h.leaveUp p l
  | arbitrate hcan => exact h.arbitrate (inFlight_of_canHand hcan)
  | takeSlot hfree => exact (h.takeSlot hfree).settles (settles_settle _)
  | cancelWaiting hwaits => exact h.settles ((settles_finish hwaits _).trans (settles_settle _))
  | cancelActive hstate => exact h.cancelActive hstate
  | endBcast hstate => exact (h.cancelActive hstate).settles (settles_settle _)
  | popHead hqueue => exact h.popHead hqueue
  | startCensus _ => exact h.startCensus
  | openLock => exact h.openLock
  | softReset => exact (quiet_softReset s).traffic
  | hardwareReset => exact (quiet_hardwareReset s).traffic
  | makeClear hdrained => exact h.makeClear hdrained
  | endSettle hsettling => exact h.endSettle hsettling
  | makeStop => exact h.makeStop
  | endBackoff v => exact h.setSlot_alike rfl rfl rfl
  | startProbing p => exact h.settles (settles_startProbing p s)

/-- A port in ALIGNING makes no exchange, so entering UP leaves what is in flight (R29, R30). -/
theorem stands_enterUp (hports : PortsLaw s) (halign : (s.port p).link = .aligning) : Stands s (enterUp p s) := by
  have hheld : (s.port p).exch = .held := (portsLaw_port hports p).1.2 (by simp [halign])
  have hset : Stands s (s.setPort p { s.port p with
      link := .up, idleRun := Config.alignRun, lossTimer := false, exch := .idle, rx := .nothing }) := by
    refine stands_setPort ?_
    unfold State.inFlight
    rw [hheld]
    rfl
  obtain ⟨hslots, hqueue, hroster, hlock, hcensus, hflight⟩ := hset
  exact ⟨hslots, hqueue, hroster, hlock, hcensus, hflight⟩

theorem Traffic.hearIdle (h : Traffic NoTag s) (hports : PortsLaw s) (p : Port) : Traffic NoTag (hearIdle p s) := by
  unfold Machine.hearIdle
  split
  · next halign =>
    simp only
    split
    · exact h.stands (stands_setPort rfl)
    · exact h.stands (stands_enterUp hports (eq_of_beq halign))
  · exact h

/-- Settles O57: every act keeps the law of the exchanges in flight; the ports keep theirs. -/
theorem stepKeepsTrafficLaw : Obligations.StepKeepsTrafficLaw := by
  unfold Obligations.StepKeepsTrafficLaw
  intro s t hlaw hstep
  obtain ⟨hports, htraffic⟩ := (trafficLaw_iff s).1 hlaw
  refine (trafficLaw_iff t).2 ⟨stepKeepsPortsLaw s t hports hstep, ?_⟩
  unfold step at hstep
  split at hstep
  · cases hstep
    have hread := htraffic.stands (stands_plainReadByte s)
    have hreadPorts : PortsLaw (plainReadByte s) := portsLaw_of_ports hports (plainReadByte_ports s).1
    unfold idleSymbols outsideReset
    split
    · exact hread
    · exact (hread.hearIdle hreadPorts .a).hearIdle (portsLaw_hearIdle hreadPorts) .b
  · next rest _ =>
    have hrest : Traffic NoTag { s with pending := rest } :=
      htraffic.stands ⟨rfl, rfl, rfl, rfl, rfl, fun _ => rfl⟩
    rcases exec_acts _ hstep with hacts | ⟨q, halign, rfl⟩
    · exact hacts.keep Traffic.act hrest
    · exact hrest.stands (stands_enterUp (portsLaw_of_ports hports rfl) halign)

end Sys2Proof.Proofs
end

section
/-! ACCEPT_ROSTER, the window selects, the steps that change the epoch and the values after a hardware reset (R55, R56,
R59, R137, R180). -/

namespace Sys2Proof.Proofs

-- one theorem after the other: many proofs elaborated at once ask for a stack each
set_option Elab.async false

open Sys2Proof.Machine Sys2Proof.Safety

variable {s t : State} {p : Port}

/-! ## ACCEPT_ROSTER and the selects -/

/-- Settles O12: a roster that has been taken opens the lock, any other refuses. -/
theorem acceptRosterOpensLock : Obligations.AcceptRosterOpensLock := by
  unfold Obligations.AcceptRosterOpensLock
  intro s hat
  have hexec := exec_acceptRoster hat
  refine ⟨fun hstate => ?_, fun hstate => ?_⟩
  · have htaken : acceptRosterAnswer s = .taken { s with lockHeld := false } := by
      rcases hstate with hstate | hstate <;> simp [acceptRosterAnswer, hstate]
    rw [hexec, issue, htaken]
    rfl
  · have hrefused : acceptRosterAnswer s = .refused .state := by
      rcases hstate with hstate | hstate <;> simp [acceptRosterAnswer, hstate]
    rw [hexec, issue, hrefused]
    rfl

/-- Settles O16: the selects are plain copies, and an address outside 1..62 has no entry. -/
theorem selectsTakeSnapshots : Obligations.SelectsTakeSnapshots := by
  unfold Obligations.SelectsTakeSnapshots
  intro s v
  have hout (h : v.toNat = 0 ∨ 62 < v.toNat) : ¬(1 ≤ v.toNat ∧ v.toNat ≤ 62) := by omega
  exact ⟨fun hat => ⟨exec_rosterSelWrite hat, fun h => State.entry_outside s (hout h)⟩,
    fun hat => ⟨exec_mirrorSelWrite hat, fun h => State.status_outside s (hout h)⟩⟩

/-! ## The epoch (R56) -/

theorem leaveUp_epoch (p : Port) (l : LinkState) (s : State) : (leaveUp p l s).epoch = s.epoch := by
  have hblocks := (endTraffic_touches p l s).trans
    ((censusPortLeft_touches p _).trans (tellChecks_touches p _))
  exact (settleFrom_touches _ _).epoch.trans hblocks.epoch

theorem writePortEnable_epoch (p : Port) (on : Bool) (s : State) : (writePortEnable p on s).epoch = s.epoch := by
  unfold writePortEnable enablePort disablePort
  split
  · split <;> rfl
  · split
    · exact leaveUp_epoch p _ s
    · rfl
    · rfl

theorem writeControl_epoch (v : Byte) (s : State) : (writeControl v s).epoch = s.epoch := by
  unfold writeControl
  rw [writePortEnable_epoch, writePortEnable_epoch]
  rfl

theorem writeMirrorCtrl_epoch (v : Byte) (s : State) : (writeMirrorCtrl v s).epoch = s.epoch :=
  (setStatus_touches _ _ s).epoch

theorem takeSlot_epoch (v : Tag) (s : State) : (takeSlot v s).epoch = s.epoch := by
  have hvalidate (r : State) : (validateTarget v r).epoch = r.epoch := by
    unfold validateTarget
    split
    · rfl
    · split
      · split
        · exact (finish_touches _ _ _).epoch
        · split
          · exact (finish_touches _ _ _).epoch
          · rfl
      · rfl
  unfold takeSlot
  simp only
  split
  · exact hvalidate _
  · exact (finish_touches _ _ _).epoch

theorem cancelSlot_epoch {v : Tag} (h : cancelSlot v s = .taken t) : t.epoch = s.epoch := by
  unfold cancelSlot at h
  split at h
  · rw [← Answer.taken.inj h, (settle_touches _).epoch, (finish_touches _ _ _).epoch]
  · rw [← Answer.taken.inj h, (settle_touches _).epoch, (finish_touches _ _ _).epoch]
  · split at h
    · rw [← Answer.taken.inj h, (settle_touches _).epoch, (cancelActive_touches _ _).epoch]
    · rw [← Answer.taken.inj h, (cancelActive_touches _ _).epoch]
  · nomatch h
  · nomatch h

theorem ofCode_softReset {code : Byte} (h : Command.ofCode code = some .softReset) : code = 0x5A := by
  have hcodes : ∀ c : Byte, Command.ofCode c = some .softReset → c = 0x5A := by decide +kernel
  exact hcodes code h

/-- Of the commands of CMD only SOFT_RESET changes the epoch (R56, R173). -/
theorem commandAnswer_epoch {code : Byte} (h : commandAnswer code s = .taken t) :
    t.epoch = s.epoch ∨ (code = 0x5A ∧ t.epoch = s.epoch + 1) := by
  unfold commandAnswer at h
  split at h
  · unfold submitAnswer at h
    split at h
    · rw [← Answer.taken.inj h, (settle_touches _).epoch, takeSlot_epoch]
      exact .inl rfl
    · exact .inl (by rw [← Answer.taken.inj h])
  · unfold cancelAnswer at h
    split at h
    · exact .inl (cancelSlot_epoch h)
    · nomatch h
  · unfold popCompletionAnswer at h
    split at h
    · nomatch h
    · rw [← Answer.taken.inj h]
      exact .inl rfl
  · unfold popNoticeAnswer at h
    split at h
    · nomatch h
    · exact .inl (by rw [← Answer.taken.inj h])
  · unfold startCensusAnswer at h
    split at h
    · nomatch h
    · exact .inl (by rw [← Answer.taken.inj h, (startCensus_touches s).epoch])
  · unfold abortCensusAnswer at h
    split at h
    · rw [← Answer.taken.inj h]
      exact .inl rfl
    · nomatch h
  · unfold acceptRosterAnswer at h
    split at h
    · exact .inl (by rw [← Answer.taken.inj h])
    · exact .inl (by rw [← Answer.taken.inj h])
    · nomatch h
    · nomatch h
  · rw [← Answer.taken.inj h]
    exact .inl rfl
  · next hcode =>
    rw [← Answer.taken.inj h]
    exact .inr ⟨ofCode_softReset hcode, rfl⟩
  · nomatch h

/-- Where the epoch goes from a state by a byte with a code: nowhere, or on by one with SOFT_RESET's. -/
def EpochGoes (code : Byte) (s t : State) : Prop := t.epoch = s.epoch ∨ (code = 0x5A ∧ t.epoch = s.epoch + 1)

theorem writeCmd_epoch (code : Byte) (s : State) : EpochGoes code s (writeCmd code s) := by
  unfold writeCmd answerCommand
  split
  · next htaken =>
    have h := commandAnswer_epoch htaken
    exact h
  · exact .inl rfl

/-- A byte written to a register other than CMD leaves the epoch; one written to CMD is its command (log 17). -/
theorem writeRegister_epoch (a : RegAddr) (v : Byte) (s : State) :
    (writeRegister a v s).epoch = s.epoch ∨ (a = Reg.cmd ∧ EpochGoes v s (writeRegister a v s)) := by
  by_cases ha : a = Reg.cmd
  · exact .inr ⟨ha, by rw [writeRegister, if_pos ha]; exact writeCmd_epoch v s⟩
  · left
    rw [writeRegister, if_neg ha]
    repeat' split
    · rfl
    · rfl
    · rfl
    · rfl
    · exact writeControl_epoch v s
    · rfl
    · rfl
    · rfl
    · rfl
    · exact writeMirrorCtrl_epoch v s
    · rfl

theorem makeClear_epoch (s : State) : (makeClear s).epoch = s.epoch + 1 := by
  have hclear : (clearCensus s).epoch = s.epoch + 1 := congrArg (· + 1) (flushQueued_touches s).epoch
  unfold makeClear
  rw [(settle_touches _).epoch, (afterClear_touches _).epoch, hclear]

theorem hostWrite_epoch {a : RegAddr} {f : State → State} {P : BitVec 8 → Prop} (h : P s.epoch)
    (hf : P (f s).epoch) : P (hostWrite a f s).epoch := by
  rcases hostWrite_cases a f s with ⟨-, heq⟩ | heq
  · rw [heq]
    exact hf
  · rw [heq]
    exact h

theorem hostRead_epoch {a : RegAddr} {f : State → State} (hf : (f s).epoch = s.epoch) :
    (hostRead a f s).epoch = s.epoch := by
  rcases hostRead_cases a f s with ⟨-, heq⟩ | heq
  · rw [heq]
    exact hf
  · rw [heq]

theorem event_epoch {c : State → Bool} {f : State → State} (hf : (f s).epoch = s.epoch) :
    (outsideReset (onlyIf c f) s).epoch = s.epoch := by
  unfold outsideReset onlyIf
  split
  · rfl
  · split
    · exact hf
    · rfl

theorem outsideReset_epoch {f : State → State} (hf : (f s).epoch = s.epoch) :
    (outsideReset f s).epoch = s.epoch := by
  unfold outsideReset
  split
  · rfl
  · exact hf

theorem arbitrate_epoch (p : Port) (s : State) : (arbitrate p s).epoch = s.epoch := by
  have hsweep (c : SweepChoice) (r : State) : (startSweep p c r).epoch = r.epoch := by
    unfold startSweep
    split <;> rfl
  have hhost (f : HostFrame) (r : State) : (startHost p f r).epoch = r.epoch := by
    unfold startHost
    split
    · rfl
    · exact (startSlot_touches p _ _).epoch
  have hshared (r : State) : (handShared p r).epoch = r.epoch := by
    unfold handShared
    split
    · rfl
    · exact hsweep _ _
    · exact hhost _ r
    · split
      · exact hsweep _ _
      · exact hhost _ r
  have htest (r : State) : (testBacklog p r).epoch = r.epoch := by
    unfold testBacklog
    split <;> rfl
  unfold arbitrate
  split
  · exact (handCensus_touches p s).epoch
  · split
    · split
      · rfl
      · split <;> rfl
    · split
      · rfl
      · exact (hshared _).trans (htest s)

/-- The commands at which the epoch may change (R56, log 17). -/
def ClearsRoster (c : Instr) : Prop :=
  c = .censusClear ∨ c = .softReset ∨ c = .unknownCommand 0x5A ∨ c = .registerWrite 0x0008 0x5A

/-- What a command does to the epoch: nothing, but at a hardware reset and at a clear, which counts it. -/
theorem exec_epoch (c : Instr) (hexec : exec c s = .next t) :
    t.epoch = s.epoch ∨ (c = .resetnLow ∨ c = .resetnHigh)
      ∨ (t.epoch = s.epoch + 1 ∧ ClearsRoster c) := by
  have hcode {f : State → State} (code : Byte) (hf : f s = writeCmd code s) :
      EpochGoes code s (hostWrite Reg.cmd f s) :=
    hostWrite_epoch (P := fun e => e = s.epoch ∨ (code = 0x5A ∧ e = s.epoch + 1)) (.inl rfl)
      (hf ▸ writeCmd_epoch code s)
  have hplain (code : Byte) (hne : code ≠ 0x5A) (f : State → State) (hf : f s = writeCmd code s) :
      (hostWrite Reg.cmd f s).epoch = s.epoch := (hcode code hf).resolve_right fun h => hne h.1
  have hhost {a : RegAddr} {f : State → State} (hf : (f s).epoch = s.epoch) :
      (hostWrite a f s).epoch = s.epoch := hostWrite_epoch (P := fun e => e = s.epoch) rfl hf
  have hcontrol (v : Byte) : (hostWrite Reg.control (writeControl v) s).epoch = s.epoch :=
    hhost (writeControl_epoch v s)
  have hmirror (v : Byte) : (hostWrite Reg.mirrorCtrl (writeMirrorCtrl v) s).epoch = s.epoch :=
    hhost (writeMirrorCtrl_epoch v s)
  cases c <;> cases hexec
  case resetnLow => exact .inr (.inl (.inl rfl))
  case resetnHigh => exact .inr (.inl (.inr rfl))
  case softReset =>
    exact (hcode 0x5A rfl).imp_right fun h => .inr ⟨h.2, .inr (.inl rfl)⟩
  case unknownCommand code =>
    refine (hcode code rfl).imp_right fun h => .inr ⟨h.2, .inr (.inr (.inl ?_))⟩
    rw [h.1]
  case registerWrite a v =>
    rcases writeRegister_epoch a v s with heq | ⟨ha, hgoes⟩
    · exact .inl (hhost heq)
    · have h : EpochGoes v s (hostWrite a (writeRegister a v) s) :=
        hostWrite_epoch (P := fun e => e = s.epoch ∨ (v = 0x5A ∧ e = s.epoch + 1)) (.inl rfl) hgoes
      refine h.imp_right fun h => .inr ⟨h.2, .inr (.inr (.inr ?_))⟩
      rw [ha, h.1]
      rfl
  case censusClear =>
    unfold outsideReset onlyIf
    split
    · exact .inl rfl
    · split
      · exact .inr (.inr ⟨makeClear_epoch s, .inl rfl⟩)
      · exact .inl rfl
  all_goals left
  case submit => exact hplain 0x01 (by decide) _ rfl
  case cancel => exact hplain 0x02 (by decide) _ rfl
  case popCompletion => exact hplain 0x03 (by decide) _ rfl
  case popNotice => exact hplain 0x04 (by decide) _ rfl
  case startCensus => exact hplain 0x10 (by decide) _ rfl
  case abortCensus => exact hplain 0x11 (by decide) _ rfl
  case acceptRoster => exact hplain 0x12 (by decide) _ rfl
  case clearAllChanged => exact hplain 0x20 (by decide) _ rfl
  case setWatch => exact hmirror _
  case clearWatch => exact hmirror _
  case clearChanged => exact hmirror _
  case mirrorCtrlUndefinedAction code => exact hmirror _
  case rosterSelWrite v => exact hhost rfl
  case mirrorSelWrite v => exact hhost rfl
  case causeClear w v => exact hhost rfl
  case enableWrite w v => exact hhost rfl
  case portEnableSet q v => exact hcontrol v
  case portEnableClear q v => exact hcontrol v
  case sweepEnableOn v => exact hcontrol v
  case sweepEnableOff v => exact hcontrol v
  case replyBaseLowWrite v => exact hhost rfl
  case replyBaseHighWrite v => exact hhost rfl
  case counterRead q k => exact hostRead_epoch rfl
  case timeoutsLowRead q => exact hostRead_epoch rfl
  case msecTimerLowRead => exact hostRead_epoch rfl
  case dupNoticesRead => exact hostRead_epoch rfl
  case csnFall =>
    unfold csnFalls
    split
    · split <;> rfl
    · rfl
  case headerComplete v => exact event_epoch rfl
  case csnRise =>
    unfold csnRises
    split
    · rfl
    · split <;> rfl
  case signalDetected q => exact event_epoch rfl
  case idleRunComplete q =>
    unfold outsideReset onlyIf
    split
    · rfl
    · split
      · next halign =>
        rw [completeRun_aligning q s (eq_of_beq halign)]
        rfl
      · rfl
  case aligningSignalLoss q => exact event_epoch rfl
  case signalAbsent q => exact event_epoch (loseSignal_touches q s).epoch
  case signalReturn q => exact event_epoch rfl
  case signalLossTimerExpiry q => exact event_epoch (leaveUp_epoch q _ s)
  case arbiterHand q => exact event_epoch (arbitrate_epoch q s)
  case frameSent q => exact outsideReset_epoch (finishSending_touches q s).epoch
  case replyWindowExpiry q => exact outsideReset_epoch (windowRunsOut_touches q s).epoch
  case frameReceived q r => exact event_epoch (endReception_touches q r s).epoch
  case lateFrame q r => exact event_epoch (endReception_touches q r s).epoch
  case releaseSettleExpiry => exact event_epoch (endSettle_touches s).epoch
  case censusStop => exact outsideReset_epoch (makeStop_touches s).epoch
  case backoffExpiry v => exact event_epoch rfl
  case msecTick => exact outsideReset_epoch rfl
  case probingBegin q => exact event_epoch (startProbing_touches q s).epoch
  case startDelimiterReceived q => exact event_epoch (startFrame_touches q s).epoch
  case idleRunReset q => exact event_epoch rfl

/-- Settles O60: the epoch is counted at the clears only. -/
theorem epochChangesOnlyAtClears : Obligations.EpochChangesOnlyAtClears := by
  unfold Obligations.EpochChangesOnlyAtClears
  intro c s t hexec hne
  rcases exec_epoch c hexec with heq | (hlow | hhigh) | hclear
  · exact absurd heq hne
  · exact .inl hlow
  · exact .inr (.inl hhigh)
  · exact .inr (.inr hclear)

end Sys2Proof.Proofs
end

section
/-! CANCEL of a waiting slot, and the state after a hardware reset (R47, R91, R94, R98, R180). -/

namespace Sys2Proof.Proofs

-- one theorem after the other: many proofs elaborated at once ask for a stack each
set_option Elab.async false

open Sys2Proof.Machine Sys2Proof.Safety

variable {s t u : State} {v : Tag} {a : Nat}

/-! ## Which entry a completion changes (R91) -/

theorem kind_write_iff (x : Slot) : x.kind = some .write ↔ x.kindCode = 2 := by
  have hcodes : ∀ c : Byte, ReqKind.ofCode c = some .write ↔ c = 2 := by decide +kernel
  exact hcodes x.kindCode

theorem effectOf_write_unknown (h : History) : effectOf (some .write) h = .unknown ↔ h = .sentNoReply := by
  cases h <;> decide

/-- A completion makes UNSURE the toggle of an unanswered WRITE's present target, and changes no other entry (R91). -/
theorem complete_entry_eq (hu : (s.slot v).unfinished = true) (st : Status) (late : Bool) (data : List Byte) (b : Nat) :
    (UnansweredWrite b (s.slot v) ∧ (s.entry b).state ≠ .vacant →
        (complete v st late data s).entry b = { s.entry b with toggle := .unsure })
      ∧ (¬(UnansweredWrite b (s.slot v) ∧ (s.entry b).state ≠ .vacant) →
        (complete v st late data s).entry b = s.entry b) := by
  have hqueued (c : Nat) : (queuedDone v st late data s).entry c = s.entry c := rfl
  have hcomplete : complete v st late data s
      = if (s.slot v).kind == some .write && effectOf (s.slot v).kind (s.slot v).history == .unknown then
          match (s.slot v).target with
          | some c => setToggle c .unsure (queuedDone v st late data s)
          | none => queuedDone v st late data s
        else queuedDone v st late data s := by
    unfold complete
    simp only [hu, if_true]
    rfl
  rw [hcomplete]
  split
  · next hwrite =>
    simp only [Bool.and_eq_true, beq_iff_eq] at hwrite
    obtain ⟨hkind, heffect⟩ := hwrite
    rw [hkind, effectOf_write_unknown] at heffect
    have hcode := (kind_write_iff _).1 hkind
    split
    · next c hc =>
      have hiff : UnansweredWrite b (s.slot v) ↔ b = c := by
        refine ⟨fun h => ?_, fun h => ⟨hu, hcode, h ▸ hc, heffect⟩⟩
        exact Option.some.inj (h.2.2.1.symm.trans hc)
      rw [setToggle_entry, hqueued, hqueued, hiff]
      have hpresent : b = c ∧ (s.entry b).state ≠ .vacant ↔ b = c ∧ (s.entry c).state ≠ .vacant :=
        and_congr_right fun h => by rw [h]
      rw [hpresent]
      exact ⟨fun h => if_pos h, fun h => if_neg h⟩
    · next hnone =>
      refine ⟨fun h => ?_, fun _ => rfl⟩
      exact nomatch h.1.2.2.1.symm.trans hnone
  · next hno =>
    refine ⟨fun h => absurd ?_ hno, fun _ => rfl⟩
    obtain ⟨-, hcode, -, hhistory⟩ := h.1
    simp [(kind_write_iff _).2 hcode, hhistory, (effectOf_write_unknown _).2]

/-! ## Settling with no unanswered WRITE (R91, R107) -/

/-- No unfinished slot is an unanswered WRITE to an address. -/
def NoneUnanswered (b : Nat) (s : State) : Prop := ∀ w, ¬UnansweredWrite b (s.slot w)

/-- Slots move, and the entry of an address with no unanswered WRITE stands. -/
structure KeepsToggles (s t : State) : Prop where
  moves : Moves s t
  entries : ∀ b, NoneUnanswered b s → t.entry b = s.entry b

theorem NoneUnanswered.moves (h : NoneUnanswered a s) (hm : Moves s t) : NoneUnanswered a t := by
  rintro w ⟨hu, hcode, htarget, hhistory⟩
  rcases hm.slot w with heq | ⟨hold, -, hcode', htarget', hhistory'⟩
  · exact h w (heq ▸ ⟨hu, hcode, htarget, hhistory⟩)
  · exact h w ⟨hold, hcode'.symm.trans hcode, htarget'.symm.trans htarget, hhistory'.symm.trans hhistory⟩

theorem KeepsToggles.refl (s : State) : KeepsToggles s s := ⟨.refl s, fun _ _ => rfl⟩

theorem KeepsToggles.trans (h : KeepsToggles s t) (k : KeepsToggles t u) : KeepsToggles s u :=
  ⟨h.moves.trans k.moves, fun b hnone => (k.entries b (hnone.moves h.moves)).trans (h.entries b hnone)⟩

theorem finish_keepsToggles (w : Tag) (st : Status) (s : State) : KeepsToggles s (finish w st s) := by
  refine ⟨(finish_moves w st s).moves, fun b hnone => ?_⟩
  by_cases hu : (s.slot w).unfinished = true
  · exact (complete_entry_eq hu st false [] b).2 fun h => hnone w h.1
  · exact congrArg (fun r : State => r.entry b) (complete_finished w st false [] (by simpa using hu))

theorem frontStep_keepsToggles (s : State) (w : Tag) : KeepsToggles s (frontStep w s) := by
  refine ⟨(frontStep_requests w s).moves, ?_⟩
  unfold frontStep chooseBcast
  simp only
  split
  · split
    · exact (finish_keepsToggles w _ s).entries
    · split
      · split
        · exact fun _ _ => rfl
        · exact (finish_keepsToggles w _ s).entries
      · exact fun _ _ => rfl
  · exact fun _ _ => rfl

theorem frontPass_keepsToggles (s : State) : KeepsToggles s (frontPass s) :=
  foldl_relates .refl .trans frontStep_keepsToggles _ s

/-- With both checks IDLE settling is the front checks alone. -/
theorem settle_keepsToggles (hidle : ∀ q, (s.checks.get q).state = .idle) : KeepsToggles s (settle s) := by
  have hrests (q : Port) : CheckRests q s := checkRests_of_idle (hidle q)
  have hfirst := frontPass_moves s
  have hsecond := hfirst.trans (frontPass_moves _)
  rw [settle_eq, advanceCheck_rests ((hrests .a).requests hfirst.requests),
    advanceCheck_rests ((hrests .b).requests hsecond.requests)]
  exact ((frontPass_keepsToggles s).trans (frontPass_keepsToggles _)).trans (frontPass_keepsToggles _)

/-! ## CANCEL of a waiting slot -/

theorem cancelTarget_of_tag (h : s.cancelTag.toNat = v.val) : s.cancelTarget = some v := by
  have hlt : s.cancelTag.toNat < 16 := h ▸ v.isLt
  unfold State.cancelTarget
  rw [dif_pos hlt]
  exact congrArg some (Fin.ext h)

/-- CANCEL of a waiting slot ends it CANCELLED and settles. -/
theorem exec_cancel_waiting (hat : WritingAt s 0x0008) (htag : s.cancelTag.toNat = v.val)
    (hwaits : (s.slot v).state = .queued ∨ (s.slot v).state = .waitingRetry) :
    exec .cancel s = .next { settle (finish v .cancelled s) with
      addrCounter := 0x0009, cmd := 0x02, cmdResult := .done } := by
  have htaken : cancelAnswer s = .taken (settle (finish v .cancelled s)) := by
    unfold cancelAnswer
    rw [cancelTarget_of_tag htag]
    simp only [cancelSlot]
    rcases hwaits with h | h <;> rw [h]
  rw [exec_cancel hat, issue, htaken]
  exact congrArg Host.Outcome.next (answerCommand_taken 0x02 s _)

/-- The registers of the host port beside, two states differ in what they differed in before. -/
theorem touchesSettling_answered (h : TouchesSettling s t) (a : RegAddr) (code : Byte) (r : CmdResult) :
    TouchesSettling { s with addrCounter := a, cmd := code, cmdResult := r }
      { t with addrCounter := a, cmd := code, cmdResult := r } := by
  have e : t = _ := h
  exact congrArg (fun x : State => { x with addrCounter := a, cmd := code, cmdResult := r }) e

/-- Settles O6: the slot is the first the step ends, and of the entries only its target's toggle can change. -/
theorem cancelEndsWaitingSlot : Obligations.CancelEndsWaitingSlot := by
  unfold Obligations.CancelEndsWaitingSlot
  intro s v hat htag hwaits x unsure
  have hunfinished : (s.slot v).unfinished = true := by rcases hwaits with h | h <;> simp [Slot.unfinished, h]
  have htouches : TouchesSettling s (settle (finish v .cancelled s)) :=
    (finish_touches v .cancelled s).toSettling.trans (settle_touches _)
  have hends : Completes v
      (doneWith x .cancelled (effectByHistory x.kindCode x.history) false [] s.epoch) s
      (settle (finish v .cancelled s)) := by
    refine completes_of_moves v (t := finish v .cancelled s)
      ⟨?_, [], complete_queue v .cancelled false [] hunfinished⟩ rfl (settle_moves _)
    rw [finish, complete_slot v _ _ _ hunfinished, if_pos rfl, doneSlot_eq]
  have hunsure (a : Nat) : unsure a ↔ UnansweredWrite a (s.slot v) ∧ (s.entry a).state ≠ .vacant :=
    ⟨fun ⟨hcode, hhistory, htarget, hpresent⟩ => ⟨⟨hunfinished, hcode, htarget, hhistory⟩, hpresent⟩,
      fun ⟨⟨_, hcode, htarget, hhistory⟩, hpresent⟩ => ⟨hcode, hhistory, htarget, hpresent⟩⟩
  have hmoves := (finish_moves v .cancelled s).moves.trans (settle_moves (finish v .cancelled s))
  have hentries (hidle : ∀ p, (s.checks.get p).state = .idle)
      (hothers : ∀ u : Tag, u ≠ v → (s.slot u).unfinished = true → (s.slot u).kindCode = 2 →
        (s.slot u).history ≠ .sentNoReply) (a : Nat) :
      (unsure a → (settle (finish v .cancelled s)).entry a = { s.entry a with toggle := .unsure })
        ∧ (¬unsure a → (settle (finish v .cancelled s)).entry a = s.entry a) := by
    have hnone : NoneUnanswered a (finish v .cancelled s) := by
      rintro w ⟨hu, hcode, htarget, hhistory⟩
      rw [finish, complete_slot v _ _ _ hunfinished] at hu hcode htarget hhistory
      by_cases hwv : w = v
      · rw [if_pos hwv] at hu
        nomatch hu
      · rw [if_neg hwv] at hu hcode hhistory
        exact hothers w hwv hu hcode hhistory
    have hsettled : (settle (finish v .cancelled s)).entry a = (finish v .cancelled s).entry a :=
      (settle_keepsToggles fun q => by rw [(finish_touches v .cancelled s).checks]; exact hidle q).entries a hnone
    have hended := complete_entry_eq hunfinished .cancelled false [] a
    exact ⟨fun ha => hsettled.trans (hended.1 ((hunsure a).1 ha)),
      fun ha => hsettled.trans (hended.2 fun h => ha ((hunsure a).2 h))⟩
  have hexec := exec_cancel_waiting hat htag hwaits
  generalize settle (finish v .cancelled s) = r at *
  obtain ⟨hslot, rest, hqueue⟩ := hends
  refine ⟨_, rest, hexec, touchesSettling_answered htouches 0x0009 0x02 .done, hslot, hqueue, fun a ha => ?_, hentries⟩
  obtain ⟨hwrite, hpresent⟩ := (hunsure a).1 ha
  exact hmoves.unsure v a hwrite hpresent (by rw [hslot]; rfl)

/-! ## The state after a hardware reset -/

theorem reset_entry (a : Nat) : State.reset.entry a = RosterEntry.vacant := by
  unfold State.entry
  split
  · simp [State.reset]
  · rfl

theorem reset_status (a : Nat) : State.reset.status a = MirrorEntry.empty := by
  unfold State.status
  split
  · simp [State.reset]
  · rfl

theorem reset_slot (v : Tag) : State.reset.slot v = Slot.free := by
  unfold State.slot
  simp [State.reset]

/-- The state after a hardware reset obeys every law. -/
theorem reset_laws : NoticeLaw State.reset ∧ RosterLaw State.reset ∧ MirrorLaw State.reset
    ∧ ParamsLaw State.reset.params ∧ TrafficLaw State.reset := by
  refine ⟨Nat.zero_le _, fun a => ?_, fun a => ?_, ?_, ?_⟩
  · rw [reset_entry]
    exact entryLaw_vacant
  · rw [reset_status]
    exact ⟨nofun, fun _ => ⟨rfl, rfl, rfl, rfl, rfl⟩, Nat.zero_le _, Nat.zero_le _, Nat.zero_le _⟩
  · unfold ParamsLaw
    decide
  · exact (trafficLaw_iff _).2 ⟨portsLaw_hardwareReset State.reset, (quiet_hardwareReset State.reset).traffic⟩

/-- Settles O58: the blocks stand at the values of their reset rules. -/
theorem resetObeysLaws : Obligations.ResetObeysLaws := by
  unfold Obligations.ResetObeysLaws
  refine ⟨reset_laws, fun p => ?_, ⟨reset_entry, rfl, rfl, rfl, rfl, rfl, rfl, rfl, rfl, rfl⟩,
    ⟨rfl, rfl, rfl, rfl, rfl, rfl, rfl, rfl⟩, ⟨reset_slot, rfl, rfl, rfl, rfl, rfl, rfl, rfl, rfl, rfl⟩,
    ⟨rfl, rfl⟩, ⟨reset_status, rfl, rfl, rfl, rfl⟩, ⟨rfl, rfl, rfl⟩, fun p => ?_,
    ⟨rfl, rfl, rfl, rfl, rfl, rfl, fun c => ?_⟩, rfl⟩
  · cases p <;> exact ⟨rfl, rfl, rfl, rfl, rfl, rfl, rfl, rfl, rfl⟩
  · cases p <;> exact ⟨rfl, rfl, rfl, rfl, rfl, rfl, rfl, rfl⟩
  · cases c <;> exact ⟨by decide, by decide⟩

end Sys2Proof.Proofs
end

section
/-! An accepted reply to a POLL or a FETCH, and a POLL that times out: what mirror, records and notice queue hold after
them (R46, R131 to R135, R141 to R147). -/

namespace Sys2Proof.Proofs

-- one theorem after the other: many proofs elaborated at once ask for a stack each
set_option Elab.async false

open Sys2Proof.Machine Sys2Proof.Safety

variable {s t : State} {p : Port} {x : Xfer} {w a b : Nat} {r : Bool} {bytes : List Byte} {f : Frame}

/-! ## An exchange that ends with a reply (R34, R38) -/

/-- The state with the port's exchange over and nothing being received. -/
def freed (p : Port) (s : State) : State :=
  { s with ports := s.ports.set p { s.port p with exch := .idle, rx := .nothing } }

/-- The state after the owner of an exchange has been told the reply, and all that follows in the same step. -/
def afterReply (p : Port) (x : Xfer) (f : Frame) (s : State) : State :=
  settle (applyOutcome p x (.reply f) (freed p s))

/-- A good reply that the exchange accepts ends it and is told to its owner. -/
theorem exec_accepted (hreset : s.inReset = false) (hrx : (s.port p).rx = .ofExchange)
    (hexch : (s.port p).exch = .awaiting x w r) (hj : judge bytes = .good f)
    (haccepts : acceptsReply x.frame f = true) :
    exec (.frameReceived p (.content bytes)) s = .next (afterReply p x f s) := by
  rw [exec_frameReceived hreset hrx hexch]
  simp [judgeInWindow, hj, haccepts, endExchange, afterReply, freed, State.setExch, State.setPort, State.port]

theorem afterReply_touches (p : Port) (x : Xfer) (f : Frame) (s : State) :
    TouchesOutcome s (afterReply p x f s) :=
  (setPort_touches p { s.port p with exch := .idle, rx := .nothing } s).trans
    ((applyOutcome_touches _ _ _ _).trans (settle_touches _).toOutcome)

/-! ## The good reply (R46) -/

theorem reportGood_entry (a b : Nat) (s : State) :
    (reportGood a s).entry b
      = if b = a ∧ (s.entry a).live = true then { s.entry b with failCount := 0 } else s.entry b := by
  unfold reportGood
  by_cases hlive : (s.entry a).live = true
  · rw [if_pos hlive, State.entry_setEntry]
    by_cases hb : b = a
    · subst hb
      rw [if_pos ⟨rfl, address_of_live hlive⟩, if_pos ⟨rfl, hlive⟩]
    · rw [if_neg fun h => hb h.1, if_neg fun h => hb h.1]
  · rw [if_neg hlive, if_neg fun h => hlive h.2]

/-- A good reply changes nothing of an entry but its fail_count. -/
theorem reportGood_entry_eq (a b : Nat) (s : State) :
    (reportGood a s).entry b = { s.entry b with failCount := ((reportGood a s).entry b).failCount } := by
  rw [reportGood_entry]
  split <;> rfl

theorem reportGood_failCount (h : (s.entry a).live = true) : ((reportGood a s).entry a).failCount = 0 := by
  rw [reportGood_entry, if_pos ⟨rfl, h⟩]

theorem reportGood_live (a b : Nat) (s : State) : ((reportGood a s).entry b).live = (s.entry b).live := by
  rw [reportGood_entry]
  split <;> rfl

/-- A good reply changes the roster only. -/
theorem reportGood_frame (a : Nat) (s : State) :
    reportGood a s = { s with roster := (reportGood a s).roster } := by
  unfold reportGood State.setEntry
  split
  · split <;> rfl
  · rfl

theorem reportGood_status (a b : Nat) (s : State) : (reportGood a s).status b = s.status b := by
  rw [reportGood_frame]
  rfl

/-! ## The answer to a POLL (R131 to R135) -/

/-- Storing a STATUS changes the mirror only. -/
theorem storeStatus_frame (a : Nat) (q : StatusReport) (s : State) :
    storeStatus a q s = { s with mirror := (storeStatus a q s).mirror } := by
  unfold storeStatus State.setStatus
  split
  · split <;> rfl
  · rfl

theorem storeStatus_status_ne (h : b ≠ a) (q : StatusReport) (s : State) :
    (storeStatus a q s).status b = s.status b := by
  unfold storeStatus
  split
  · exact State.status_setStatus_ne s h _
  · rfl

theorem storeStatus_status (h : (s.entry a).live = true) (q : StatusReport) :
    (storeStatus a q s).status a = storedStatus (s.status a) q (s.entry a).capable := by
  unfold storeStatus
  rw [if_pos h]
  exact State.status_setStatus_same s (address_of_live h) _

theorem countMiss_status_ne (h : b ≠ a) (s : State) : (countMiss a s).status b = s.status b := by
  unfold countMiss
  simp only
  split
  · split
    · exact State.status_setStatus_ne s h _
    · exact State.status_setStatus_ne s h _
  · rfl

/-- The answer to a POLL is a good reply that changes of the rest mirror and causes only. -/
theorem pollOutcome_reply_frame (a : Nat) (f : Frame) (s : State) :
    pollOutcome a (.reply f) s = { reportGood a s with
      mirror := (pollOutcome a (.reply f) s).mirror, sticky := (pollOutcome a (.reply f) s).sticky } := by
  unfold pollOutcome
  simp only
  split
  · rw [storeStatus_frame]
  · rw [countMiss_frame]

theorem pollOutcome_reply_status_ne (h : b ≠ a) (f : Frame) (s : State) :
    (pollOutcome a (.reply f) s).status b = s.status b := by
  unfold pollOutcome
  simp only
  split
  · rw [storeStatus_status_ne h, reportGood_status]
  · rw [countMiss_status_ne h, reportGood_status]

/-- With both checks IDLE only the front checks follow the answer to a POLL. -/
theorem pollOutcome_reply_settles (hidle : ∀ q, (s.checks.get q).state = .idle) (a : Nat) (f : Frame) :
    RequestMoves (pollOutcome a (.reply f) s) (settle (pollOutcome a (.reply f) s)) := by
  refine settle_requests_of_idle hidle ?_
  rw [pollOutcome_reply_frame, reportGood_frame]

/-- The entry a STATUS is stored in, as R131, R132 and R135 give it. -/
theorem storedStatus_eq (m : MirrorEntry) (n : StatusReport) (e : RosterEntry) :
    storedStatus m n e.capable =
      { state := .fresh, health := n.health, record := n.record, pendingCount := n.pendingCount
        fetchWanted :=
          (e.identity.map Identity.noticeCapable).getD false && decide (1 ≤ n.pendingCount)
        age := 0, missCount := 0
        changed :=
          m.changed || (m.watch
            && decide (m.state = .empty ∨ m.health ≠ n.health ∨ m.record ≠ n.record))
        watch := m.watch, lostMark := m.lostMark } := by
  have hcapable : e.capable = (e.identity.map Identity.noticeCapable).getD false := by
    unfold RosterEntry.capable
    cases e.identity <;> rfl
  have hdiffers : reportDiffers m n
      = decide (m.state = .empty ∨ m.health ≠ n.health ∨ m.record ≠ n.record) := by
    rw [Bool.eq_iff_iff]
    simp [reportDiffers, or_assoc]
  simp only [storedStatus, hcapable, hdiffers]

/-- The answer to a POLL ends the exchange and leaves the ports otherwise. -/
theorem afterReply_poll (howner : x.owner = .poll a) (p : Port) (f : Frame) (s : State) :
    afterReply p x f s = settle (pollOutcome a (.reply f) (freed p s)) := by
  simp only [afterReply, applyOutcome, howner]

/-- Settles O42: a STATUS is stored whole, a NAK counts a miss. -/
theorem pollReplyReachesMirror : Obligations.PollReplyReachesMirror := by
  unfold Obligations.PollReplyReachesMirror
  intro s p x w r a bytes f hreset hrx hexch howner hj haccepts _ _ hstate hidle m n
  refine ⟨_, exec_accepted hreset hrx hexch hj haccepts, afterReply_touches p x f s, ?_⟩
  rw [afterReply_poll howner]
  have hlive : ((freed p s).entry a).live = true := (live_iff _).2 hstate
  have hgood : ((reportGood a (freed p s)).entry a).live = true := (reportGood_live _ _ _).trans hlive
  have hmoves := pollOutcome_reply_settles (s := freed p s) hidle a f
  have hstatus (b : Nat) := State.status_eq_of_mirror hmoves.touches.mirror b
  refine ⟨?_, fun b hb => ?_, ?_, fun hkind => ?_, fun hkind => ?_⟩
  · rw [hmoves.touches.ports, (pollOutcome_touches _ _ _).ports]
    rfl
  · rw [hstatus, pollOutcome_reply_status_ne hb]
    rfl
  · rw [(hmoves.moves.entry a).1, pollOutcome_reply_frame]
    exact reportGood_failCount hlive
  · have hpoll : pollOutcome a (.reply f) (freed p s) = storeStatus a n (reportGood a (freed p s)) :=
      if_pos hkind
    have hidentity : ((reportGood a (freed p s)).entry a).identity = (s.entry a).identity := by
      rw [reportGood_entry_eq]
      rfl
    rw [hstatus, hmoves.touches.sticky, hpoll]
    refine ⟨?_, ?_⟩
    · rw [storeStatus_frame, reportGood_frame]
      rfl
    · rw [storeStatus_status hgood, storedStatus_eq, reportGood_status, hidentity]
      rfl
  · have hpoll : pollOutcome a (.reply f) (freed p s) = countMiss a (reportGood a (freed p s)) := by
      refine if_neg ?_
      rw [hkind]
      decide
    have hmissed := countMiss_missed hgood
    unfold Missed at hmissed ⊢
    rw [hstatus, hmoves.touches.sticky, hpoll]
    have hframe := reportGood_frame a (freed p s)
    have hsticky : (reportGood a (freed p s)).sticky = s.sticky := by rw [hframe]; rfl
    have hparams : (reportGood a (freed p s)).params = s.params := by rw [hframe]; rfl
    rw [reportGood_status, hsticky, hparams] at hmissed
    exact hmissed

/-- Settles O43, by what a failed POLL tells (`ReplyWindowRunsOut`): the failure and the miss, each with its limit. -/
theorem pollTimeoutCountsFailureAndMiss : Obligations.PollTimeoutCountsFailureAndMiss := by
  unfold Obligations.PollTimeoutCountsFailureAndMiss
  intro s p q x w a hreset hrx hexch howner _ _ hstate hroute hcensus hidle n m
  have hend : FailedEnd p x _ s (timeoutExchange p x (s.setPort p (s.port p))) :=
    timeoutExchange_failedEnd x rfl
  rw [setPort_self] at hend
  obtain ⟨htouches, -, -, -, -, -, -, hpoll, -⟩ := hend
  refine ⟨_, by rw [exec_replyWindowExpiry hreset, windowRunsOut_silent hexch hrx], htouches, ?_⟩
  generalize timeoutExchange p x s = t at hpoll ⊢
  obtain ⟨hfailed, hmiss⟩ := hpoll a howner
  have hlive : (s.entry a).live = true := (live_iff _).2 hstate
  obtain ⟨hcount, hlimits⟩ := hfailed hlive
  obtain ⟨hreaches, hbelow⟩ := hlimits hidle
  obtain ⟨hmissCount, hmissed⟩ := hmiss hlive
  obtain ⟨hstale, hstays⟩ := hmissed hidle
  refine ⟨hcount, hmissCount, fun ⟨hactive, hlimit⟩ => ?_, hbelow, fun ⟨hnot, hlimit⟩ => ?_, hstays⟩
  · obtain ⟨hsuspect, hchecks⟩ := hreaches hactive hlimit
    exact ⟨hsuspect, (hchecks q hroute).trans (if_pos hcensus)⟩
  · obtain ⟨hstatus, hsticky⟩ := hstale hnot hlimit
    exact ⟨by rw [hstatus], hsticky⟩

/-! ## The answer to a FETCH (R135, R141 to R147) -/

/-- A NOTICE with the sequence of last_seq is counted and discarded, its reservation released. -/
theorem judgeNotice_duplicate (h : (s.entry a).lastSeq = some f.control) (p : Port) :
    judgeNotice p a f s = release p { s with dupNotices := satInc 255 s.dupNotices } := if_pos h

/-- Any other joins the queue by the port's reservation, and last_seq takes its sequence. -/
theorem judgeNotice_joins (h : (s.entry a).lastSeq ≠ some f.control)
    (hreserved : s.reservations.get p = some b) :
    judgeNotice p a f s = setLastSeq a (some f.control)
      (release p { s with notices := s.notices ++ [noticeRecord a f s] }) := by
  unfold judgeNotice
  rw [if_neg h, hreserved]
  rfl

theorem setLastSeq_entry (h : (s.entry a).state ≠ .vacant) (q : Option Seq) :
    (setLastSeq a q s).entry a = { s.entry a with lastSeq := q } := by
  have ha : 1 ≤ a ∧ a ≤ 62 := by
    by_contra hout
    exact h (by rw [State.entry_outside s hout]; rfl)
  unfold setLastSeq
  rw [if_neg h]
  exact State.entry_setEntry_same s ha _

/-- Setting last_seq changes nothing else of an entry. -/
theorem setLastSeq_entry_eq (a b : Nat) (q : Option Seq) (s : State) :
    (setLastSeq a q s).entry b = { s.entry b with lastSeq := ((setLastSeq a q s).entry b).lastSeq } := by
  unfold setLastSeq
  split
  · rfl
  · rw [State.entry_setEntry]
    split
    · next h => rw [h.1]
    · rfl

/-- Judging a NOTICE changes of an entry last_seq only. -/
theorem judgeNotice_entry_eq (p : Port) (a b : Nat) (f : Frame) (s : State) :
    (judgeNotice p a f s).entry b = { s.entry b with lastSeq := ((judgeNotice p a f s).entry b).lastSeq } := by
  unfold judgeNotice
  split
  · rfl
  · split
    · rw [setLastSeq_entry_eq]
      rfl
    · rfl

theorem judgeNotice_checks (p : Port) (a : Nat) (f : Frame) (s : State) :
    (judgeNotice p a f s).checks = s.checks := by
  unfold judgeNotice
  split
  · rfl
  · split
    · exact (setLastSeq_touches _ _ _).checks
    · rfl

theorem judgeNotice_mirror (p : Port) (a : Nat) (f : Frame) (s : State) :
    (judgeNotice p a f s).mirror = s.mirror := by
  unfold judgeNotice
  split
  · rfl
  · split
    · exact (setLastSeq_touches _ _ _).mirror
    · rfl

theorem fetchOutcome_notice (h : f.kind = .notice) (p : Port) (a : Nat) (s : State) :
    fetchOutcome p a (.reply f) s = judgeNotice p a f (reportGood a s) := if_pos h

theorem fetchOutcome_refused (h : f.kind ≠ .notice) (p : Port) (a : Nat) (s : State) :
    fetchOutcome p a (.reply f) s = release p (setFetchWanted a false (reportGood a s)) := if_neg h

/-- Setting fetch_wanted changes the mirror only. -/
theorem setFetchWanted_frame (a : Nat) (wanted : Bool) (s : State) :
    setFetchWanted a wanted s = { s with mirror := (setFetchWanted a wanted s).mirror } := by
  unfold setFetchWanted State.setStatus
  split <;> rfl

theorem fetchOutcome_reply_checks (p : Port) (a : Nat) (f : Frame) (s : State) :
    (fetchOutcome p a (.reply f) s).checks = s.checks := by
  by_cases h : f.kind = .notice
  · rw [fetchOutcome_notice h, judgeNotice_checks, reportGood_frame]
  · rw [fetchOutcome_refused h]
    rw [setFetchWanted_frame]
    exact (reportGood_touches a s).checks

/-- The answer to a FETCH is a good reply (R46). -/
theorem fetchOutcome_reply_failCount (p : Port) (a b : Nat) (f : Frame) (s : State) :
    ((fetchOutcome p a (.reply f) s).entry b).failCount = ((reportGood a s).entry b).failCount := by
  by_cases h : f.kind = .notice
  · rw [fetchOutcome_notice h, judgeNotice_entry_eq]
  · rw [fetchOutcome_refused h]
    rw [setFetchWanted_frame]
    rfl

theorem afterReply_fetch (howner : x.owner = .fetch a) (p : Port) (f : Frame) (s : State) :
    afterReply p x f s = settle (fetchOutcome p a (.reply f) (freed p s)) := by
  simp only [afterReply, applyOutcome, howner]

/-- The record of a NOTICE, as R141 and R147 give it. -/
theorem noticeRecord_eq (a : Nat) (f : Frame) (s : State) :
    noticeRecord a f s =
      { source := a, epoch := s.epoch, seq := f.control, code := f.payload.getD 0 0
        payload := f.payload.drop 1
        gap := match (s.entry a).lastSeq with
          | none => false
          | some q => decide (f.control ≠ q + 1)
        arrival := s.msecTimer } := by
  unfold noticeRecord
  cases (s.entry a).lastSeq with
  | none => rfl
  | some q =>
    have hgap : (f.control != q + 1) = decide (f.control ≠ q + 1) := by
      rw [Bool.eq_iff_iff]
      simp
    simp only [hgap]
    rfl

/-- What a NOTICE makes of the state by a reservation of its port (R141, R144, R147). -/
theorem judgeNotice_reserved (hpresent : (s.entry a).state ≠ .vacant)
    (hreserved : s.reservations.get p = some b) (f : Frame) :
    (judgeNotice p a f s).reservations = s.reservations.set p none
      ∧ ((judgeNotice p a f s).entry a).lastSeq = some f.control
      ∧ ((s.entry a).lastSeq = some f.control →
          (judgeNotice p a f s).notices = s.notices
            ∧ (judgeNotice p a f s).dupNotices = satInc 255 s.dupNotices)
      ∧ ((s.entry a).lastSeq ≠ some f.control →
          (judgeNotice p a f s).dupNotices = s.dupNotices
            ∧ (judgeNotice p a f s).notices = s.notices ++ [noticeRecord a f s]) := by
  by_cases hsame : (s.entry a).lastSeq = some f.control
  · rw [judgeNotice_duplicate hsame]
    exact ⟨rfl, hsame, fun _ => ⟨rfl, rfl⟩, fun hnew => absurd hsame hnew⟩
  · have htouches := setLastSeq_touches a (some f.control)
      (release p { s with notices := s.notices ++ [noticeRecord a f s] })
    rw [judgeNotice_joins hsame hreserved]
    refine ⟨htouches.reservations, ?_, fun h => absurd h hsame, fun _ => ⟨htouches.dupNotices, htouches.notices⟩⟩
    exact congrArg RosterEntry.lastSeq (setLastSeq_entry (by exact hpresent) _)

/-- What an ACK or a NAK makes of the state (R135, R145). -/
theorem fetchOutcome_refused_ends (h : f.kind ≠ .notice) (ha : 1 ≤ a ∧ a ≤ 62) (p : Port) (s : State) :
    (fetchOutcome p a (.reply f) s).reservations = s.reservations.set p none
      ∧ (fetchOutcome p a (.reply f) s).status a = { s.status a with fetchWanted := false }
      ∧ (∀ b, b ≠ a → (fetchOutcome p a (.reply f) s).status b = s.status b)
      ∧ ((fetchOutcome p a (.reply f) s).entry a).lastSeq = (s.entry a).lastSeq
      ∧ (fetchOutcome p a (.reply f) s).notices = s.notices
      ∧ (fetchOutcome p a (.reply f) s).dupNotices = s.dupNotices := by
  have hframe := reportGood_frame a s
  rw [fetchOutcome_refused h]
  refine ⟨?_, ?_, fun b hb => ?_, ?_, ?_, ?_⟩
  · rw [setFetchWanted_frame, hframe]
    rfl
  · refine (State.status_setStatus_same _ ha _).trans ?_
    rw [reportGood_status]
  · refine (State.status_setStatus_ne _ hb _).trans ?_
    rw [reportGood_status]
  · have hroster : (release p (setFetchWanted a false (reportGood a s))).roster = (reportGood a s).roster := by
      rw [setFetchWanted_frame]
      rfl
    rw [State.entry_eq_of_roster hroster, reportGood_entry_eq]
  · rw [setFetchWanted_frame, hframe]
    rfl
  · rw [setFetchWanted_frame, hframe]
    rfl

/-- Settles O44: the answer is a good reply; a NOTICE is judged, ACK and NAK end fetch_wanted. -/
theorem fetchReplyIsJudged : Obligations.FetchReplyIsJudged := by
  unfold Obligations.FetchReplyIsJudged
  intro s p x w r a bytes f hreset hrx hexch howner hj haccepts ha ha' hidle
  refine ⟨_, exec_accepted hreset hrx hexch hj haccepts, afterReply_touches p x f s, ?_⟩
  rw [afterReply_fetch howner]
  have hmoves := settle_requests_of_idle (s := freed p s) hidle (fetchOutcome_reply_checks p a f _)
  have hlastSeq : ((settle (fetchOutcome p a (.reply f) (freed p s))).entry a).lastSeq
      = ((fetchOutcome p a (.reply f) (freed p s)).entry a).lastSeq := by rw [hmoves.entry]
  have hframe := reportGood_frame a (freed p s)
  have hentry := reportGood_entry_eq a a (freed p s)
  have hseq : ((reportGood a (freed p s)).entry a).lastSeq = (s.entry a).lastSeq := by
    rw [hentry]
    rfl
  refine ⟨?_, fun hlive => ?_, fun hkind hpresent hreserved => ?_, fun hkind => ?_⟩
  · rw [hmoves.touches.ports, fetchOutcome_ports]
    rfl
  · rw [(hmoves.moves.entry a).1, fetchOutcome_reply_failCount]
    exact reportGood_failCount hlive
  · have hstate : ((reportGood a (freed p s)).entry a).state ≠ .vacant := by
      rw [hentry]
      exact hpresent
    have hheld : (reportGood a (freed p s)).reservations.get p = some a := by
      rw [hframe]
      exact hreserved
    obtain ⟨hreleased, hlast, hduplicate, hjoins⟩ := judgeNotice_reserved hstate hheld f
    rw [hlastSeq, hmoves.touches.reservations, hmoves.touches.mirror, hmoves.touches.notices,
      hmoves.touches.dupNotices, fetchOutcome_notice hkind, judgeNotice_mirror]
    rw [hseq] at hduplicate hjoins
    rw [noticeRecord_eq, hseq] at hjoins
    generalize judgeNotice p a f (reportGood a (freed p s)) = u at *
    rw [hframe] at hreleased hduplicate hjoins
    rw [hframe]
    exact ⟨hreleased, rfl, hlast, hduplicate, hjoins⟩
  · have hnot : f.kind ≠ .notice := by rcases hkind with h | h <;> rw [h] <;> decide
    have hstatus (b : Nat) := State.status_eq_of_mirror hmoves.touches.mirror b
    obtain ⟨hreleased, hwanted, hothers, hlast, hnotices, hduplicates⟩ :=
      fetchOutcome_refused_ends hnot ⟨ha, ha'⟩ p (freed p s)
    refine ⟨hmoves.touches.reservations.trans hreleased, (hstatus a).trans hwanted,
      fun b hb => (hstatus b).trans (hothers b hb), hlastSeq.trans hlast,
      hmoves.touches.notices.trans hnotices, hmoves.touches.dupNotices.trans hduplicates⟩

end Sys2Proof.Proofs
end

section
/-! The census clear: with a roster of VACANT entries under a HELD lock, the front checks can only end slots, and no check
has a module to start for (R67, R68, R78, R79, R107). -/

namespace Sys2Proof.Proofs

-- one theorem after the other: many proofs elaborated at once ask for a stack each
set_option Elab.async false

open Sys2Proof.Machine Sys2Proof.Safety

variable {s t u : State} {v : Tag} {a : Nat}

/-! ## Slots that end, and nothing else -/

/-- Only slots and the completion queue differ, and each slot stands or is DONE. -/
def OnlyEnds (s t : State) : Prop :=
  t = { s with slots := t.slots, completionQueue := t.completionQueue }
    ∧ ∀ v, t.slot v = s.slot v ∨ (t.slot v).state = .done

theorem OnlyEnds.refl (s : State) : OnlyEnds s s := ⟨rfl, fun _ => .inl rfl⟩

theorem OnlyEnds.trans (h : OnlyEnds s t) (k : OnlyEnds t u) : OnlyEnds s u := by
  obtain ⟨hframe, hslot⟩ := h
  obtain ⟨kframe, kslot⟩ := k
  refine ⟨by rw [kframe, hframe], fun v => ?_⟩
  rcases kslot v with heq | hdone
  · rw [heq]
    exact hslot v
  · exact .inr hdone

theorem OnlyEnds.roster (h : OnlyEnds s t) : t.roster = s.roster := by rw [h.1]

theorem OnlyEnds.checks (h : OnlyEnds s t) : t.checks = s.checks := by rw [h.1]

theorem OnlyEnds.notQueued (h : OnlyEnds s t) (hs : (s.slot v).state ≠ .queued) :
    (t.slot v).state ≠ .queued := by
  rcases h.2 v with heq | hdone
  · rw [heq]
    exact hs
  · rw [hdone]
    decide

/-! ## An empty roster under a HELD lock -/

/-- The lock is HELD and every entry VACANT, as the clear leaves them (R60). -/
def Barred (s : State) : Prop := s.lockHeld = true ∧ ∀ a, s.entry a = RosterEntry.vacant

theorem Barred.vacant (h : Barred s) (a : Nat) : (s.entry a).state = .vacant := by
  rw [h.2 a]
  rfl

theorem Barred.unrouted (h : Barred s) (p : Port) : s.anyRouted p = false := by
  simp [State.anyRouted, h.2, RosterEntry.vacant]

theorem OnlyEnds.barred (h : OnlyEnds s t) (hs : Barred s) : Barred t := by
  refine ⟨by rw [h.1]; exact hs.1, fun a => ?_⟩
  rw [State.entry_eq_of_roster h.roster]
  exact hs.2 a

/-- A slot of a VACANT target ends and leaves the roster as it is (R43, R91). -/
theorem complete_onlyEnds (hvacant : ∀ a, (s.entry a).state = .vacant) (v : Tag) (st : Status)
    (late : Bool) (data : List Byte) : OnlyEnds s (complete v st late data s) := by
  by_cases h : (s.slot v).unfinished = true
  · have heq : complete v st late data s = queuedDone v st late data s := by
      rcases complete_unfinished v st late data h with ⟨heq, -⟩ | ⟨b, heq, -⟩
      · exact heq
      · rw [heq]
        exact if_pos (hvacant b)
    refine ⟨by rw [heq]; rfl, fun w => ?_⟩
    rw [complete_slot v st late data h]
    split
    · exact .inr rfl
    · exact .inl rfl
  · rw [complete_finished v st late data (by simpa using h)]
    exact .refl s

/-- Under a HELD lock no BCAST_WRITE passes the front checks, so a slot that meets them ends or stands (R107). -/
theorem frontStep_onlyEnds (h : Barred s) (v : Tag) : OnlyEnds s (frontStep v s) := by
  unfold frontStep
  split
  · split
    · exact complete_onlyEnds h.vacant _ _ _ _
    · next hnone =>
      rw [if_neg]
      · exact .refl s
      · intro hbcast
        have hkind : (s.slot v).kind = some .bcastWrite := by simpa [Slot.isBcast] using hbcast
        simp [State.frontCheck, hkind, ReqKind.targeted, ReqKind.lockRefuses, h.1] at hnone
  · exact .refl s

/-- A fold of steps that end slots does so as a whole. -/
theorem foldl_onlyEnds {f : State → Tag → State} (hf : ∀ {s} v, Barred s → OnlyEnds s (f s v))
    (l : List Tag) (h : Barred s) : OnlyEnds s (l.foldl f s) := by
  induction l generalizing s with
  | nil => exact .refl s
  | cons v l ih => exact (hf v h).trans (ih ((hf v h).barred h))

theorem frontPass_onlyEnds (h : Barred s) : OnlyEnds s (frontPass s) :=
  foldl_onlyEnds (fun v hs => frontStep_onlyEnds hs v) _ h

/-- With both checks IDLE, settling is the front checks. -/
theorem settle_onlyEnds (h : Barred s) (hidle : ∀ q, (s.checks.get q).state = .idle) :
    OnlyEnds s (settle s) := by
  have hcheck {r : State} (hr : OnlyEnds s r) (q : Port) : advanceCheck q r = r :=
    advanceCheck_rests (checkRests_of_idle (by rw [hr.checks]; exact hidle q))
  have hfirst := frontPass_onlyEnds h
  have hsecond := hfirst.trans (frontPass_onlyEnds (hfirst.barred h))
  rw [settle_eq, hcheck hfirst, hcheck hsecond]
  exact hsecond.trans (frontPass_onlyEnds (hsecond.barred h))

/-- With no entry present the fingerprint is 0 (R57). -/
theorem computeFingerprint_of_vacant (h : ∀ a, (s.entry a).state = .vacant) : s.computeFingerprint = 0 := by
  have hinput : s.fingerprintInput = [] := by simp [State.fingerprintInput, h]
  simp [State.computeFingerprint, hinput]

/-! ## The flush of the clear (R67 step 1) -/

theorem flushAtClear_slot (v w : Tag) (s : State) :
    (flushAtClear v s).slot w = s.slot w ∨ ((flushAtClear v s).slot w).state = .done := by
  unfold flushAtClear
  split
  · next hqueued =>
    have hu : (s.slot v).unfinished = true := by simp [Slot.unfinished, hqueued]
    unfold finish
    rw [complete_slot v _ _ _ hu]
    split
    · exact .inr rfl
    · exact .inl rfl
  · exact .inl rfl

theorem flushAtClear_notQueued (v : Tag) (s : State) : ((flushAtClear v s).slot v).state ≠ .queued := by
  by_cases hqueued : (s.slot v).state = .queued
  · have hu : (s.slot v).unfinished = true := by simp [Slot.unfinished, hqueued]
    unfold flushAtClear finish
    rw [if_pos hqueued, complete_slot v _ _ _ hu, if_pos rfl]
    exact nofun
  · unfold flushAtClear
    rwa [if_neg hqueued]

/-- A slot that is not QUEUED, or whose turn comes, is not QUEUED after the flush. -/
theorem foldl_flushAtClear_notQueued (l : List Tag) (s : State) (v : Tag)
    (h : (s.slot v).state ≠ .queued ∨ v ∈ l) :
    ((l.foldl (fun s w => flushAtClear w s) s).slot v).state ≠ .queued := by
  induction l generalizing s with
  | nil => exact h.resolve_right (by simp)
  | cons w l ih =>
    rw [List.foldl_cons]
    refine ih _ ?_
    by_cases hw : v = w
    · subst hw
      exact .inl (flushAtClear_notQueued v s)
    · refine h.imp (fun hs => ?_) fun hmem => (List.mem_cons.1 hmem).resolve_left hw
      rcases flushAtClear_slot w v s with heq | hdone
      · rwa [heq]
      · rw [hdone]
        decide

theorem flushQueued_notQueued (s : State) (v : Tag) : ((flushQueued s).slot v).state ≠ .queued := by
  refine foldl_flushAtClear_notQueued _ s v ?_
  by_cases hqueued : (s.slot v).state = .queued
  · exact .inr ((mem_unfinishedTags s v).2 (by simp [Slot.unfinished, hqueued]))
  · exact .inl hqueued

/-! ## The clear (R67, R68) -/

/-- The registers of the walk as the clear fixes them (R67). -/
def clearedWalk (s : State) : Census :=
  { s.census with
    ports := { a := s.isUp .a, b := s.isUp .b }
    nextAddr := 1, position := 0, tries := 0
    released := { a := false, b := false }, settleTimer := false }

/-- The state the clear makes, with what follows it left open (R60, R67, R138, R153). -/
def clearedState (r : RosterState) (c : Census) (st : StickyBits) (s : State) : State :=
  { s with
    roster := Vector.replicate 62 RosterEntry.vacant
    rosterState := r, ringState := .unknown, tails := { a := 0, b := 0 }
    exceeded := false, lockHeld := true, epoch := s.epoch + 1, fingerprint := 0
    mirror := Vector.replicate 62 MirrorEntry.empty, cursors := { a := 0, b := 0 }
    reservations := { a := none, b := none }
    census := c, sticky := st
    slots := (flushQueued s).slots, completionQueue := (flushQueued s).completionQueue }

theorem clearCensus_eq (s : State) :
    clearCensus s = clearedState .building (clearedWalk s) s.sticky s := by
  have htouches : flushQueued s = _ := flushQueued_touches s
  have hup (p : Port) : (flushQueued s).isUp p = s.isUp p := by
    rw [htouches]
    rfl
  have hunfold : clearCensus s = { clearMirror (clearRoster (flushQueued s)) with
      reservations := { a := none, b := none }
      census := { (flushQueued s).census with
        ports := { a := (flushQueued s).isUp .a, b := (flushQueued s).isUp .b }
        nextAddr := 1, position := 0, tries := 0
        released := { a := false, b := false }, settleTimer := false } } := rfl
  rw [hunfold, hup, hup]
  generalize hr : flushQueued s = r at htouches ⊢
  rw [clearedState, hr, htouches]
  rfl

theorem clearedState_barred (r : RosterState) (c : Census) (st : StickyBits) (s : State) :
    Barred (clearedState r c st s) := by
  refine ⟨rfl, fun a => ?_⟩
  unfold State.entry
  split
  · simp [clearedState, RosterEntry.vacant]
  · rfl

/-- What the clear and its end make is as `clearedState` says, and leaves no slot QUEUED. -/
def ClearsTo (r : RosterState) (c : Census) (st : StickyBits) (s t : State) : Prop :=
  t = { clearedState r c st s with slots := t.slots, completionQueue := t.completionQueue }
    ∧ ∀ u : Tag, (t.slot u).state ≠ .queued

theorem clearsTo_of_onlyEnds {r : RosterState} {c : Census} {st : StickyBits}
    (h : OnlyEnds (clearedState r c st s) t) : ClearsTo r c st s t :=
  ⟨h.1, fun v => h.notQueued (flushQueued_notQueued s v)⟩

/-- A stop in the step of the clear ends the census with its cause and starts no check (R79, log 32). -/
theorem stopCensus_cleared (c : StopCause) (w : Census) (st : StickyBits) (s : State) :
    OnlyEnds
      (clearedState .partly
        { w with state := .idle, result := c.result, reason := c.reason, settleTimer := false }
        { st with censusDone := true } s)
      (stopCensus c (clearedState .building w st s)) := by
  have hfingerprint := computeFingerprint_of_vacant (clearedState_barred .building w st s).vacant
  have hends : endCensus c.result c.reason { clearedState .building w st s with
        rosterState := .partly, fingerprint := (clearedState .building w st s).computeFingerprint }
      = clearedState .partly
        { w with state := .idle, result := c.result, reason := c.reason, settleTimer := false }
        { st with censusDone := true } s := by
    rw [hfingerprint]
    rfl
  have hfront := frontPass_onlyEnds (clearedState_barred .partly
    { w with state := .idle, result := c.result, reason := c.reason, settleTimer := false }
    { st with censusDone := true } s)
  have hquiet {r : State} (hr : Barred r) (p : Port) : startCheckIfDown p r = r := by
    simp [startCheckIfDown, hr.unrouted]
  have hbarred := hfront.barred (clearedState_barred _ _ _ s)
  unfold stopCensus
  simp only
  rw [hends, hquiet hbarred, hquiet hbarred]
  exact hfront

theorem afterClear_releases (hstop : s.census.stopPending = none)
    (hports : (s.census.ports.a || s.census.ports.b) = true) :
    afterClear s = { s with census := { s.census with state := .releasing } } := by
  simp [afterClear, hstop, hports]

theorem afterClear_noPort (hstop : s.census.stopPending = none)
    (hports : (s.census.ports.a || s.census.ports.b) = false) :
    afterClear s = endCensus .failed .noPort { s with rosterState := .partly } := by
  simp [afterClear, hstop, hports]

theorem afterClear_stops {c : StopCause} (hstop : s.census.stopPending = some c) :
    afterClear s = stopCensus c s := by
  simp [afterClear, hstop]

/-- With draining over the clear is made. -/
theorem exec_censusClear (hreset : s.inReset = false) (hstate : s.census.state = .draining)
    (hports : ∀ p, (s.port p).exch = .idle ∨ (s.port p).exch = .held) :
    exec .censusClear s = .next (makeClear s) := by
  have hrest (p : Port) : (s.port p).exch.atRest = true := by
    rcases hports p with h | h <;> rw [h] <;> rfl
  simp [exec, execCensusClear, outsideReset, onlyIf, State.drained, hreset, hstate, hrest]

/-- Whatever the clear comes to, settling after it only ends slots. -/
theorem makeClear_clearsTo {r : RosterState} {c : Census} {st : StickyBits}
    (hidle : ∀ p, (s.checks.get p).state = .idle)
    (h : OnlyEnds (clearedState r c st s) (afterClear (clearCensus s))) : ClearsTo r c st s (makeClear s) := by
  have hsettle := settle_onlyEnds (h.barred (clearedState_barred r c st s)) fun p => by
    rw [h.checks]
    exact hidle p
  exact clearsTo_of_onlyEnds (h.trans hsettle)

/-- Settles O45: a port UP goes on to RELEASING, none fails with NO_PORT, a stop pending stops the census. -/
theorem censusClearEmptiesRoster : Obligations.CensusClearEmptiesRoster := by
  unfold Obligations.CensusClearEmptiesRoster
  intro s hreset hstate hports hidle walk cleared
  have hup (p : Port) : s.isUp p = true ↔ (s.port p).link = .up := by simp [State.isUp]
  have hclears {r : RosterState} {c : Census} {st : StickyBits}
      (h : OnlyEnds (clearedState r c st s) (afterClear (clearCensus s))) :
      ∃ t, exec .censusClear s = .next t ∧ cleared r c st t :=
    ⟨_, exec_censusClear hreset hstate hports, makeClear_clearsTo hidle h⟩
  refine ⟨fun hstop hlink => hclears ?_, fun hstop hlink => hclears ?_, fun c hstop => hclears ?_⟩
  · have hcensus : (s.isUp .a || s.isUp .b) = true := by
      obtain ⟨p, hp⟩ := hlink
      rw [Bool.or_eq_true, hup, hup]
      cases p
      · exact .inl hp
      · exact .inr hp
    have hafter : afterClear (clearCensus s)
        = clearedState .building { walk with state := .releasing } s.sticky s := by
      rw [clearCensus_eq]
      exact afterClear_releases hstop hcensus
    rw [hafter]
    exact .refl _
  · have hcensus : (s.isUp .a || s.isUp .b) = false := by
      rw [Bool.or_eq_false_iff, ← Bool.not_eq_true, ← Bool.not_eq_true, hup, hup]
      exact ⟨hlink .a, hlink .b⟩
    have hafter : afterClear (clearCensus s)
        = clearedState .partly { walk with state := .idle, result := .failed, reason := .noPort }
            { s.sticky with censusDone := true } s := by
      rw [clearCensus_eq]
      exact afterClear_noPort hstop hcensus
    rw [hafter]
    exact .refl _
  · have hafter : afterClear (clearCensus s)
        = stopCensus c (clearedState .building (clearedWalk s) s.sticky s) := by
      rw [clearCensus_eq]
      exact afterClear_stops hstop
    rw [hafter]
    have hends := stopCensus_cleared c (clearedWalk s) s.sticky s
    cases c <;> exact hends

end Sys2Proof.Proofs
end

section
/-! The answer to a CLAIM: an entry of the roster, the closing of the ring, a stop, or the finish of the census (R49, R53,
R72, R73, R75 to R79). -/

namespace Sys2Proof.Proofs

-- one theorem after the other: many proofs elaborated at once ask for a stack each
set_option Elab.async false

open Sys2Proof.Machine Sys2Proof.Safety

variable {s t u : State} {p : Port} {x : Xfer} {f : Frame}

/-! ## What the IDENT says (R72, R75) -/

theorem isClaim_iff (s : State) (f : Frame) :
    isClaim s f = true ↔ f.control = 0 ∨ f.source = s.census.nextAddr ∧ s.census.tries = 2 := by
  simp [isClaim, identFresh]

theorem isClosure_iff (s : State) (f : Frame) :
    isClosure s f = true
      ↔ s.tails.b = 0 ∧ 1 ≤ s.tails.a ∧ (s.entry f.source).hops.a = some s.tails.a := by
  simp [isClosure, and_assoc]

/-- The walk a port takes part in. -/
def Walks (p : Port) (s : State) : Prop :=
  p = .a ∧ s.census.state = .walkA ∨ p = .b ∧ s.census.state = .walkB

theorem Walks.running (h : Walks p s) : s.censusRunning = true := by
  rcases h with ⟨-, h⟩ | ⟨-, h⟩ <;> simp [State.censusRunning, h]

/-- A claim creates its entry in either walk. -/
theorem censusOutcome_claim (hwalk : Walks p s) (h : isClaim s f = true) :
    censusOutcome p (.reply f) s = afterClaim (takeClaim p f s) := by
  rcases hwalk with ⟨rfl, hstate⟩ | ⟨rfl, hstate⟩
  · simp [censusOutcome, hstate, claimOutcomeA, h]
  · simp [censusOutcome, hstate, claimOutcomeB, h]

theorem censusOutcome_stale (hstate : s.census.state = .walkA) (h : isClaim s f = false) (p : Port) :
    censusOutcome p (.reply f) s = failCensus .staleAddress s := by
  simp [censusOutcome, hstate, claimOutcomeA, h]

theorem censusOutcome_closure (hstate : s.census.state = .walkB) (h : isClaim s f = false)
    (hclosure : isClosure s f = true) (p : Port) : censusOutcome p (.reply f) s = closeRing s := by
  simp [censusOutcome, hstate, claimOutcomeB, h, hclosure]

theorem censusOutcome_conflict (hstate : s.census.state = .walkB) (h : isClaim s f = false)
    (hclosure : isClosure s f = false) (p : Port) :
    censusOutcome p (.reply f) s = failCensus .ringConflict s := by
  simp [censusOutcome, hstate, claimOutcomeB, h, hclosure]

/-! ## A claim (R49, R53, R73) -/

theorem takeClaim_frame (p : Port) (f : Frame) (s : State) :
    takeClaim p f s =
      { s with
        roster := (takeClaim p f s).roster
        tails := s.tails.set p (s.tails.get p + 1)
        census := { s.census with nextAddr := s.census.nextAddr + 1 } } := by
  unfold takeClaim State.setEntry
  simp only
  split <;> rfl

theorem takeClaim_entry (p : Port) (f : Frame) (s : State) (a : Nat) :
    (takeClaim p f s).entry a
      = if a = s.census.nextAddr ∧ 1 ≤ s.census.nextAddr ∧ s.census.nextAddr ≤ 62 then
          createdEntry p s.census.position (Identity.ofBytes f.payload)
        else s.entry a :=
  State.entry_setEntry s s.census.nextAddr a _

theorem afterClaim_goesOn (h : ¬(s.census.nextAddr = 63 ∧ s.census.stopPending = none)) :
    afterClaim s = s := if_neg h

theorem afterClaim_exceeds (h : s.census.nextAddr = 63) (hstop : s.census.stopPending = none) :
    afterClaim s = finishCensus { s with exceeded := true } := if_pos ⟨h, hstop⟩

/-! ## The finish (R77) -/

/-- A census that has no other address to offer finishes EXCEEDED (R73, R77). -/
theorem finishCensus_exceeds (h : s.exceeded = true) : Finishes .exceeded s (finishCensus s) := by
  rw [finishCensus_eq, decideLock_eq, h]
  refine ⟨rfl, rfl, ?_, rfl, rfl⟩
  exact computeFingerprint_congr (fun _ => rfl) (fun _ => rfl)

/-- A finish rests on census, parameters and causes of the state before only. -/
theorem Finishes.congr {c : CensusResult} (h : Finishes c s t) (hcensus : u.census = s.census)
    (hparams : u.params = s.params) (hsticky : u.sticky = s.sticky) : Finishes c u t := by
  unfold Finishes at h ⊢
  rw [hcensus, hparams, hsticky]
  exact h

theorem TouchesWalkEnd.roster (h : TouchesWalkEnd s t) : t.roster = s.roster := by
  have e : t = _ := h
  rw [e]

theorem TouchesWalkEnd.tails (h : TouchesWalkEnd s t) : t.tails = s.tails := by
  have e : t = _ := h
  rw [e]

theorem TouchesWalkEnd.exceeded (h : TouchesWalkEnd s t) : t.exceeded = s.exceeded := by
  have e : t = _ := h
  rw [e]

/-- The 62nd claim with no stop pending finishes the census EXCEEDED, and only front checks follow (R73, R77). -/
theorem lastClaim_finishes (hlast : s.census.nextAddr = 62)
    (hm : RequestMoves (finishCensus { takeClaim p f s with exceeded := true }) t) :
    t.ports = s.ports ∧ t.exceeded = true ∧ t.ringState = s.ringState
      ∧ t.tails = s.tails.set p (s.tails.get p + 1)
      ∧ Finishes .exceeded { s with census := { s.census with nextAddr := 63 } } t
      ∧ t.entry 62 =
          { createdEntry p s.census.position (Identity.ofBytes f.payload) with
            toggle := (t.entry 62).toggle } := by
  have hframe := takeClaim_frame p f s
  have hcreated : (takeClaim p f s).entry 62
      = createdEntry p s.census.position (Identity.ofBytes f.payload) := by
    rw [takeClaim_entry, hlast]
    rfl
  generalize takeClaim p f s = c at hframe hcreated hm
  have htouches := finishCensus_touchesWalkEnd { c with exceeded := true }
  have hfinish := finishCensus_exceeds (s := { c with exceeded := true }) rfl
  have hcensus : c.census = { s.census with nextAddr := 63 } := by
    rw [hframe, hlast]
  have hentry : (finishCensus { c with exceeded := true }).entry 62 = c.entry 62 :=
    State.entry_eq_of_roster htouches.roster 62
  refine ⟨?_, ?_, ?_, ?_, ?_, ?_⟩
  · rw [hm.touches.ports, htouches.ports, hframe]
  · rw [hm.touches.exceeded, htouches.exceeded]
  · rw [hm.touches.ringState, htouches.ringState, hframe]
  · rw [hm.touches.tails, htouches.tails, hframe]
  · refine finishes_requests (Finishes.congr hfinish hcensus.symm ?_ ?_) hm
    · rw [hframe]
    · rw [hframe]
  · have hkept := hm.entry 62
    rw [hentry, hcreated] at hkept
    exact hkept

/-! ## Ring closure (R76) -/

theorem closedHops_some {e : RosterEntry} {h : Nat} (n : Nat) (he : e.hops.a = some h) :
    (closedHops n e).hops = { a := some h, b := some (n - h + 1) } := by
  simp [closedHops, he]

theorem closedHops_none {e : RosterEntry} (n : Nat) (he : e.hops.a = none) : closedHops n e = e := by
  simp [closedHops, he]

/-- The ring CLOSED, and every entry of walk A with its hop count on port B. -/
def ringClosed (s : State) : State :=
  { s with ringState := .closed, roster := mapCells (closedHops s.tails.a) s.roster }

theorem ringClosed_entry (s : State) (a : Nat) :
    (ringClosed s).entry a = closedHops s.tails.a (s.entry a) :=
  State.entry_mapCells s (closedHops s.tails.a) rfl a

theorem closeRing_waits (h : s.census.stopPending ≠ none) : closeRing s = ringClosed s := if_neg h

theorem closeRing_finishes (h : s.census.stopPending = none) :
    closeRing s = finishCensus (ringClosed s) := if_pos h

/-- Ring closure is the closed ring and what the end of a walk writes. -/
theorem closeRing_touchesWalkEnd (s : State) : TouchesWalkEnd (ringClosed s) (closeRing s) := by
  by_cases h : s.census.stopPending = none
  · rw [closeRing_finishes h]
    exact finishCensus_touchesWalkEnd _
  · rw [closeRing_waits h]
    rfl

/-- The closing of the ring and the front checks that may follow it (R76, R78). -/
theorem closeRing_closes (hm : RequestMoves (closeRing s) t) :
    t.ports = s.ports ∧ t.ringState = .closed ∧ t.tails = s.tails
      ∧ (∀ a h, (s.entry a).hops.a = some h →
          (t.entry a).hops = { a := some h, b := some (s.tails.a - h + 1) })
      ∧ (∀ a, (s.entry a).hops.a = none → (t.entry a).hops = (s.entry a).hops)
      ∧ (s.census.stopPending = none → s.exceeded = false → Finishes .ok s t) := by
  have htouches := closeRing_touchesWalkEnd s
  have hhops (a : Nat) : (t.entry a).hops = (closedHops s.tails.a (s.entry a)).hops := by
    rw [hm.hops, State.entry_eq_of_roster htouches.roster, ringClosed_entry]
  refine ⟨?_, ?_, ?_, fun a h ha => ?_, fun a ha => ?_, fun hstop hexceeded => ?_⟩
  · rw [hm.touches.ports, htouches.ports]
    rfl
  · rw [hm.touches.ringState, htouches.ringState]
    rfl
  · rw [hm.touches.tails, htouches.tails]
    rfl
  · rw [hhops, closedHops_some _ ha]
  · rw [hhops, closedHops_none _ ha]
  · rw [closeRing_finishes hstop] at hm
    have hfinish : Finishes .ok (ringClosed s) (finishCensus (ringClosed s)) := finishCensus_finishes hexceeded
    exact finishes_requests (Finishes.congr hfinish rfl rfl rfl) hm

/-! ## The answers -/

theorem afterReply_census (howner : x.owner = .census) (p : Port) (f : Frame) (s : State) :
    afterReply p x f s = settle (censusOutcome p (.reply f) (freed p s)) := by
  simp only [afterReply, applyOutcome, howner]

/-- While the census runs on with both checks IDLE, its outcome is all that happens. -/
theorem afterReply_census_eq (howner : x.owner = .census) (hidle : ∀ q, (s.checks.get q).state = .idle)
    (hout : censusOutcome p (.reply f) (freed p s) = t) (hchecks : t.checks = s.checks)
    (hruns : t.censusRunning = true) : afterReply p x f s = t := by
  rw [afterReply_census howner, hout]
  exact settle_of_census hruns fun q => by rw [hchecks]; exact hidle q

theorem failCensus_running (why : CensusReason) (s : State) :
    (failCensus why s).censusRunning = s.censusRunning := by
  rw [failCensus_eq]
  rfl

/-- Settles O47: a claim, its 62nd, a stale address, a conflict and the closing of the ring. -/
theorem claimAnswersBuildTheRoster : Obligations.ClaimAnswersBuildTheRoster := by
  unfold Obligations.ClaimAnswersBuildTheRoster
  intro s p x w r bytes f hreset hrx hexch howner _ hwalk hj haccepts hn hidle n claim closure ports stops
  have hexec := exec_accepted hreset hrx hexch hj haccepts
  have hwalks : Walks p (freed p s) := hwalk
  have hruns := hwalks.running
  have hclaim : isClaim (freed p s) f = true ↔ claim := isClaim_iff _ _
  have hclosure : isClosure (freed p s) f = true ↔ closure := isClosure_iff _ _
  have hquiet {u : State} (h : u.checks = s.checks) : RequestMoves u (settle u) :=
    settle_requests_of_idle hidle h
  have hstops (why : CensusReason) (h : censusOutcome p (.reply f) (freed p s) = failCensus why (freed p s)) :
      exec (.frameReceived p (.content bytes)) s = .next (stops why) := by
    have hchecks : (failCensus why (freed p s)).checks = s.checks := by
      rw [failCensus_eq]
      rfl
    rw [hexec, afterReply_census_eq howner hidle h hchecks ((failCensus_running why _).trans hruns),
      failCensus_eq]
    rfl
  have hnotClaim (h : ¬claim) : isClaim (freed p s) f = false := by simpa using hclaim.not.2 h
  have hwalkB (hp : p = .b) : (freed p s).census.state = .walkB := by
    rcases hwalk with ⟨h, -⟩ | ⟨-, h⟩
    · exact absurd (hp.symm.trans h) (by decide)
    · exact h
  refine ⟨fun hc hgoes => ?_, fun hc hlast hstop => ?_, fun hc hp => ?_, fun hc hp hno => ?_,
    fun hc hp hyes => ?_⟩
  · have hout : censusOutcome p (.reply f) (freed p s) = takeClaim p f (freed p s) := by
      rw [censusOutcome_claim hwalks (hclaim.2 hc), afterClaim_goesOn]
      rw [takeClaim_frame]
      rintro ⟨h63 : n + 1 = 63, hnone⟩
      rcases hgoes with hlt | ⟨-, hstop⟩
      · omega
      · exact hstop hnone
    have hframe := takeClaim_frame p f (freed p s)
    have hafter := afterReply_census_eq howner hidle hout (by rw [hframe]; rfl) (by rw [hframe]; exact hruns)
    have hlast : n ≤ 62 := by
      rcases hgoes with hlt | ⟨hlast, -⟩ <;> omega
    refine ⟨_, hexec, ?_, ?_, fun a ha => ?_⟩
    · rw [hafter]
      exact hframe
    · rw [hafter, takeClaim_entry, if_pos ⟨rfl, hn, hlast⟩]
      rfl
    · rw [hafter, takeClaim_entry, if_neg fun h => ha h.1]
      rfl
  · have hcensus : (takeClaim p f (freed p s)).census = { s.census with nextAddr := 63 } := by
      rw [takeClaim_frame]
      show ({ s.census with nextAddr := n + 1 } : Census) = _
      rw [hlast]
    have hout : censusOutcome p (.reply f) (freed p s)
        = finishCensus { takeClaim p f (freed p s) with exceeded := true } := by
      rw [censusOutcome_claim hwalks (hclaim.2 hc), afterClaim_exceeds]
      · rw [hcensus]
      · rw [hcensus]
        exact hstop
    have hm := hquiet (u := finishCensus { takeClaim p f (freed p s) with exceeded := true })
      ((finishCensus_touchesWalkEnd _).checks.trans (by rw [takeClaim_frame]; rfl))
    refine ⟨_, hexec, afterReply_touches p x f s, ?_⟩
    rw [afterReply_census howner, hout]
    exact lastClaim_finishes (s := freed p s) hlast hm
  · have hstate : (freed p s).census.state = .walkA := by
      rcases hwalk with ⟨-, h⟩ | ⟨h, -⟩
      · exact h
      · exact absurd (hp.symm.trans h) (by decide)
    exact hstops _ (censusOutcome_stale hstate (hnotClaim hc) p)
  · have hstate := hwalkB hp
    exact hstops _ (censusOutcome_conflict hstate (hnotClaim hc)
      (by simpa using hclosure.not.2 hno) p)
  · have hout : censusOutcome p (.reply f) (freed p s) = closeRing (freed p s) :=
      censusOutcome_closure (hwalkB hp) (hnotClaim hc) (hclosure.2 hyes) p
    have hm := hquiet (u := closeRing (freed p s)) ((closeRing_touchesWalkEnd _).checks.trans rfl)
    obtain ⟨hports, hring, htails, hclosed, hopen, hfinish⟩ := closeRing_closes hm
    refine ⟨_, hexec, afterReply_touches p x f s, ?_⟩
    rw [afterReply_census howner, hout]
    refine ⟨hports, hring, htails, hclosed, hopen, fun hstop => ?_, hfinish⟩
    have hwaits := closeRing_waits (s := freed p s) hstop
    rw [settle_of_census (s := closeRing (freed p s)) (by rw [hwaits]; exact hruns)
      (by rw [hwaits]; exact hidle), hwaits]
    rfl

end Sys2Proof.Proofs
end

section
/-! A reach check that begins to probe, and an answer to one of its PROBEs: the next module of its list, its end with
NO_BREAK, or a module re-routed (R46, R159 to R162, R166). -/

namespace Sys2Proof.Proofs

-- one theorem after the other: many proofs elaborated at once ask for a stack each
set_option Elab.async false

open Sys2Proof.Machine Sys2Proof.Safety

variable {s t u r : State} {p q : Port} {x : Xfer} {f : Frame} {a b n : Nat}

/-! ## The probe list (R159) -/

theorem insertByKey_perm {α : Type} (key : α → Nat) (y : α) (l : List α) :
    (insertByKey key y l).Perm (y :: l) := by
  induction l with
  | nil => exact .refl _
  | cons z l ih =>
    unfold insertByKey
    split
    · exact .refl _
    · exact (ih.cons z).trans (.swap y z l)

theorem sortByKey_perm {α : Type} (key : α → Nat) (l : List α) : (sortByKey key l).Perm l := by
  induction l with
  | nil => exact .refl _
  | cons y l ih => exact (insertByKey_perm key y _).trans (ih.cons y)

theorem insertByKey_sorted {α : Type} (key : α → Nat) (y : α) {l : List α}
    (h : l.Pairwise fun c d => key d ≤ key c) :
    (insertByKey key y l).Pairwise fun c d => key d ≤ key c := by
  induction l with
  | nil => exact List.pairwise_singleton _ _
  | cons z l ih =>
    obtain ⟨hz, hl⟩ := List.pairwise_cons.1 h
    unfold insertByKey
    split
    · next hle =>
      refine List.pairwise_cons.2 ⟨fun d hd => ?_, h⟩
      rcases List.mem_cons.1 hd with rfl | hd
      · omega
      · have := hz d hd
        omega
    · next hgt =>
      refine List.pairwise_cons.2 ⟨fun d hd => ?_, ih hl⟩
      rcases List.mem_cons.1 ((insertByKey_perm key y l).mem_iff.1 hd) with rfl | hd
      · omega
      · exact hz d hd

/-- The list is in order of descending key. -/
theorem sortByKey_sorted {α : Type} (key : α → Nat) (l : List α) :
    (sortByKey key l).Pairwise fun c d => key d ≤ key c := by
  induction l with
  | nil => exact .nil
  | cons y l ih => exact insertByKey_sorted key y ih

theorem probeListOf_perm (s : State) (p : Port) : (s.probeListOf p).Perm (s.routedLive p) :=
  (List.reverse_perm _).trans (sortByKey_perm _ _)

theorem mem_probeListOf (s : State) (p : Port) :
    b ∈ s.probeListOf p ↔ (s.entry b).live = true ∧ (s.entry b).route = some p :=
  (probeListOf_perm s p).mem_iff.trans (mem_routedLive p s)

theorem probeListOf_nodup (s : State) (p : Port) : (s.probeListOf p).Nodup :=
  (probeListOf_perm s p).nodup_iff.2 ((routedLive_sorted p s).imp Nat.ne_of_lt)

/-- The modules of the probe list stand in ascending hop count. -/
theorem probeListOf_sorted (s : State) (p : Port) :
    (s.probeListOf p).Pairwise fun c d =>
      ((s.entry c).hops.get p).getD 0 ≤ ((s.entry d).hops.get p).getD 0 :=
  List.pairwise_reverse.2 (sortByKey_sorted _ _)

/-! ## Probing begins (R159) -/

theorem exec_probingBegin (hreset : s.inReset = false) (hstate : (s.checks.get p).state = .probing)
    (hbegun : (s.checks.get p).begun = false) (hexch : (s.port p).exch = .idle) :
    exec (.probingBegin p) s = .next (startProbing p s) := by
  simp [exec, execProbingBegin, outsideReset, onlyIf, State.canProbe, hreset, hstate, hbegun, hexch]

/-- One check that waits, the other IDLE: only the front checks are made. -/
theorem settle_of_oneRests (hrests : CheckRests p s) (hother : (s.checks.get p.other).state = .idle) :
    FrontMoves s (settle s) := by
  refine settle_of_rests fun y => ?_
  rcases Port.eq_or_other p y with rfl | rfl
  · exact hrests
  · exact checkRests_of_idle hother

/-- The cursor of a probe list just fixed stands at a module routed on the port, so the check waits to probe it. -/
theorem beginProbing_settles (hprobing : (s.checks.get p).state = .probing) (hother : (s.checks.get p.other).state = .idle)
    (hsome : ∃ a, (s.entry a).live = true ∧ (s.entry a).route = some p) :
    FrontMoves (beginProbing p s) (startProbing p s) := by
  have hcheck : (beginProbing p s).checks.get p
      = { s.checks.get p with begun := true, probeList := s.probeListOf p, cursor := 0, tries := 0 } :=
    Pair.get_set_same _ _ _
  refine settle_of_oneRests (p := p) ⟨fun hstate _ => ?_, fun hstate => ?_⟩ ?_
  · obtain ⟨a, ha⟩ := hsome
    have hne := List.ne_nil_of_mem ((mem_probeListOf s p).2 ha)
    obtain ⟨b, l, hl⟩ := List.exists_cons_of_ne_nil hne
    rw [hcheck]
    refine ⟨b, by rw [hl]; rfl, ?_⟩
    exact ((mem_probeListOf s p).1 (by rw [hl]; exact List.mem_cons_self)).2
  · rw [hcheck] at hstate
    exact absurd (hprobing.symm.trans hstate) (by decide)
  · show ((s.checks.set p _).get p.other).state = .idle
    rw [Pair.get_set_other]
    exact hother

/-! ## The answer to a check's PROBE (R46, R160, R162) -/

/-- A module has answered its probe and is ACTIVE on a route; nothing but its entry differs. -/
structure Answers (a : Nat) (route : Option Port) (s t : State) : Prop where
  frame : t = { s with roster := t.roster }
  other : ∀ b, b ≠ a → t.entry b = s.entry b
  state : (t.entry a).state = .active
  failCount : (t.entry a).failCount = 0
  hops : (t.entry a).hops = (s.entry a).hops
  route : (t.entry a).route = route

theorem setToggle_frame (a : Nat) (g : Toggle) (s : State) :
    setToggle a g s = { s with roster := (setToggle a g s).roster } := by
  unfold setToggle State.setEntry
  split
  · rfl
  · split <;> rfl

theorem not_vacant_of_live (h : (s.entry a).live = true) : (s.entry a).state ≠ .vacant := by
  rcases (live_iff _).1 h with hs | hs <;> rw [hs] <;> decide

/-- The report of an answer changes of the roster only the module's fail_count, to 0, and its toggle. -/
theorem reportProbe_reply (hlive : (s.entry a).live = true) (f : Frame) :
    ∃ g, reportProbe a (.reply f) s = { s with roster := (reportProbe a (.reply f) s).roster }
      ∧ ∀ b, (reportProbe a (.reply f) s).entry b
          = if b = a then { s.entry b with failCount := 0, toggle := g } else s.entry b := by
  have hgood (b : Nat) : (reportGood a s).entry b
      = if b = a then { s.entry b with failCount := 0 } else s.entry b := by
    rw [reportGood_entry]
    simp only [hlive, and_true]
  unfold reportProbe
  by_cases hkind : f.kind = .ident
  · simp only [hkind, if_true]
    refine ⟨.zero, by rw [setToggle_frame, reportGood_frame], fun b => ?_⟩
    have hpresent := not_vacant_of_live ((reportGood_live a a s).trans hlive)
    rw [setToggle_entry]
    by_cases hb : b = a
    · rw [if_pos ⟨hb, hpresent⟩, if_pos hb, hgood, if_pos hb]
    · rw [if_neg fun h => hb h.1, if_neg hb, hgood, if_neg hb]
  · simp only [hkind, if_false]
    refine ⟨(s.entry a).toggle, reportGood_frame a s, fun b => ?_⟩
    rw [hgood]
    by_cases hb : b = a
    · rw [if_pos hb, if_pos hb, hb]
    · rw [if_neg hb, if_neg hb]

theorem setEntry_frame (a : Nat) (e : RosterEntry) (s : State) :
    s.setEntry a e = { s with roster := (s.setEntry a e).roster } := by
  unfold State.setEntry
  split <;> rfl

/-- The module probed in PROBING is ACTIVE on its route (R160). -/
theorem answered_answers (hlive : (s.entry a).live = true) (f : Frame) :
    Answers a (s.entry a).route s (answered a (reportProbe a (.reply f) s)) := by
  obtain ⟨g, hframe, hentry⟩ := reportProbe_reply hlive f
  have ha := address_of_live hlive
  generalize reportProbe a (.reply f) s = c at hframe hentry
  have hanswered (b : Nat) : (answered a c).entry b
      = if b = a then { s.entry b with state := .active, failCount := 0, toggle := g } else s.entry b := by
    have hself : c.entry a = { s.entry a with failCount := 0, toggle := g } := (hentry a).trans (if_pos rfl)
    unfold answered
    by_cases hsuspect : (c.entry a).state = .suspect
    · rw [if_pos hsuspect, State.entry_setEntry, hself, hentry]
      by_cases hb : b = a
      · rw [if_pos ⟨hb, ha⟩, if_pos hb, hb]
      · rw [if_neg fun h => hb h.1, if_neg hb, if_neg hb]
    · have hactive : (s.entry a).state = .active := by
        rw [hself] at hsuspect
        exact ((live_iff _).1 hlive).resolve_right hsuspect
      rw [if_neg hsuspect, hentry]
      by_cases hb : b = a
      · rw [if_pos hb, if_pos hb, hb, ← hactive]
      · rw [if_neg hb, if_neg hb]
  have hkept : answered a c = { s with roster := (answered a c).roster } := by
    unfold answered
    split
    · rw [setEntry_frame, hframe]
    · exact hframe
  have hself := (hanswered a).trans (if_pos rfl)
  exact ⟨hkept, fun b hb => (hanswered b).trans (if_neg hb), by rw [hself], by rw [hself], by rw [hself],
    by rw [hself]⟩

/-- A cut-off module that answers is ACTIVE on the other port (R162). -/
theorem rerouted_answers (hlive : (s.entry a).live = true) (f : Frame) (q : Port) :
    Answers a (some q) s ((reportProbe a (.reply f) s).setEntry a
      (reroutedEntry ((reportProbe a (.reply f) s).entry a) q)) := by
  obtain ⟨g, hframe, hentry⟩ := reportProbe_reply hlive f
  have ha := address_of_live hlive
  generalize reportProbe a (.reply f) s = c at hframe hentry
  have hself : (c.setEntry a (reroutedEntry (c.entry a) q)).entry a
      = { s.entry a with state := .active, route := some q, failCount := 0, toggle := g } := by
    rw [State.entry_setEntry_same _ ha, hentry, if_pos rfl]
    rfl
  refine ⟨by rw [setEntry_frame, hframe], fun b hb => ?_, by rw [hself], by rw [hself], by rw [hself],
    by rw [hself]⟩
  rw [State.entry_setEntry_ne _ hb, hentry, if_neg hb]

theorem Answers.allHops {route : Option Port} (h : Answers a route s t) (b : Nat) : (t.entry b).hops = (s.entry b).hops := by
  by_cases hb : b = a
  · rw [hb, h.hops]
  · rw [h.other b hb]

theorem Answers.vacant {route : Option Port} (h : Answers a route s t) (hlive : (s.entry a).live = true)
    (b : Nat) : (t.entry b).state = .vacant ↔ (s.entry b).state = .vacant := by
  by_cases hb : b = a
  · subst hb
    rw [h.state]
    exact ⟨nofun, fun hv => absurd hv (not_vacant_of_live hlive)⟩
  · rw [h.other b hb]

/-! ## What settling leaves of the roster -/

/-- Of every entry at most the toggle differs. -/
def ButToggles (s t : State) : Prop := ∀ b, t.entry b = { s.entry b with toggle := (t.entry b).toggle }

theorem ButToggles.trans (h : ButToggles s t) (k : ButToggles t u) : ButToggles s u := fun b => by
  rw [k b, h b]

theorem ButToggles.of_roster (h : t.roster = s.roster) : ButToggles s t := fun b => by
  rw [State.entry_eq_of_roster h]

theorem endCheck_butToggles (p : Port) (s : State) : ButToggles s (endCheck p s) := by
  have hentry := (endRequests_moves p s).entry
  rw [endCheck_eq]
  exact hentry

/-- Passing over modules and ending the check at the end of its list makes no module LOST (R159, R161). -/
theorem advanceProbing_butToggles (p : Port) (s : State) : ButToggles s (advanceProbing p s) := by
  unfold advanceProbing
  simp only
  split
  · split
    · exact ButToggles.trans (t := s.setCheck p _) (.of_roster rfl) (endCheck_butToggles _ _)
    · split
      · exact .of_roster rfl
      · exact .of_roster rfl
  · exact .of_roster rfl

/-- From PROBING a check goes on probing or ends, but decides nothing (R161). -/
theorem advanceCheck_probing (h : (s.checks.get p).state = .probing) :
    advanceCheck p s = advanceProbing p s := by
  refine decideModules_rests _ fun hrerouting => absurd hrerouting ?_
  unfold advanceProbing
  simp only
  split
  · split
    · rw [endCheck_idle]
      nofun
    · split
      · rw [h]
        nofun
      · show ((s.checks.set p _).get p).state ≠ _
        rw [Pair.get_set_same]
        simp [h]
  · rw [h]
    nofun

/-- While a check is in PROBING and the other IDLE, settling makes no module LOST. -/
theorem settle_probing_butToggles (h : (s.checks.get p).state = .probing)
    (hother : (s.checks.get p.other).state = .idle) : ButToggles s (settle s) := by
  obtain ⟨r, hbefore, hafter⟩ := settle_of_otherIdle p hother
  rw [advanceCheck_probing (by rw [hbefore.requests.touches.checks]; exact h)] at hafter
  exact (ButToggles.trans hbefore.requests.entry (advanceProbing_butToggles p r)).trans hafter.requests.entry

/-- REROUTING makes LOST only modules that are PENDING (R162). -/
theorem decideModules_keeps (n : Nat) (h : a ∉ pendingAddrs (s.checks.get p).cutOff) :
    (decideModules p n s).entry a
      = { s.entry a with toggle := ((decideModules p n s).entry a).toggle } := by
  induction n generalizing s with
  | zero => rfl
  | succ n ih =>
    unfold decideModules
    simp only
    split
    · split
      · exact endCheck_butToggles p s a
      · next m hm =>
        split
        · have hne : a ≠ m := by
            rintro rfl
            obtain ⟨m', hmem, hlow, -⟩ := exists_lowest (l := pendingAddrs (s.checks.get p).cutOff) (by
              intro hnil
              rw [hnil] at hm
              nomatch hm)
            rw [hm] at hlow
            exact h (Option.some.inj hlow ▸ hmem)
          have hentry : (loseModule p m s).entry a = s.entry a := by
            rw [loseModule_entry, if_neg fun k => hne k.1]
          have hpending : a ∉ pendingAddrs ((loseModule p m s).checks.get p).cutOff := by
            rw [loseModule_checks, Pair.get_set_same]
            show a ∉ pendingAddrs (setMark m .lost (s.checks.get p).cutOff)
            rw [pendingAddrs_setMark_lost]
            exact fun hmem => h (List.mem_filter.1 hmem).1
          rw [← hentry]
          exact ih hpending
        · rfl
    · rfl

/-- Settling leaves the entry of a module that a check in REROUTING has decided (R162). -/
theorem settle_rerouting_keeps (h : (s.checks.get p).state = .rerouting)
    (hother : (s.checks.get p.other).state = .idle) (hdecided : a ∉ pendingAddrs (s.checks.get p).cutOff) :
    (settle s).entry a = { s.entry a with toggle := ((settle s).entry a).toggle } := by
  obtain ⟨r, hbefore, hafter⟩ := settle_of_otherIdle p hother
  have hchecks := hbefore.requests.touches.checks
  rw [advanceCheck_rerouting (by rw [hchecks]; exact h)] at hafter
  have hkept := decideModules_keeps ((r.checks.get p).cutOff.length + 1) (by rw [hchecks]; exact hdecided)
  rw [hafter.requests.entry a, hkept, hbefore.requests.entry a]

/-! ## PROBING goes on or ends (R160, R161, R166) -/

/-- The front checks made while a check runs leave a slot that is left to it (R107). -/
theorem leftToCheck_stands (hslots : t.slots = s.slots) (hlock : t.lockHeld = s.lockHeld)
    (hvacant : ∀ b, (t.entry b).state = .vacant ↔ (s.entry b).state = .vacant)
    (hruns : (t.checks.get p).state ≠ .idle) (hm : FrontMoves t r) {v : Tag} (hleft : LeftToCheck v b s) :
    r.slot v = s.slot v := by
  obtain ⟨-, htarget, hcode, hpresent, hpasses⟩ := hleft
  have hslot : t.slot v = s.slot v := State.slot_eq_of_slots hslots v
  rw [hm.passing v, hslot]
  unfold PassesFront
  rw [hslot]
  refine ⟨not_isBcast_of_code hcode, frontCheck_passes htarget ?_ (.inr (checksIdle_eq_false hruns)) ?_⟩
  · rw [Ne, hvacant]
    exact hpresent
  · rw [hlock]
    exact hpasses

/-- A check whose list is at its end ends with NO_BREAK (R161). -/
theorem advanceCheck_noBreak (hstate : (s.checks.get p).state = .probing)
    (hbegun : (s.checks.get p).begun = true)
    (hend : (s.checks.get p).probeList.length ≤ (s.checks.get p).cursor) :
    advanceCheck p s = endCheck p (s.setCheck p { s.checks.get p with result := .noBreak }) := by
  rw [advanceCheck_probing hstate]
  unfold advanceProbing
  simp only
  rw [if_pos ⟨hstate, hbegun⟩, List.drop_eq_nil_of_le hend, skipUnrouted, if_pos hend]

/-- The check of a port in PROBING after an answer, the next module of its list to be probed (R160). -/
def nextProbe (c : Check) : Check := { c with cursor := c.cursor + 1, tries := 0 }

/-- An answer in PROBING: the module is ACTIVE, and the check goes on to the next one or ends with NO_BREAK. -/
theorem nextProbe_settles {c : Check} {route : Option Port}
    (hother : (s.checks.get p.other).state = .idle)
    (hstate : c.state = .probing) (hbegun : c.begun = true) (hlive : (s.entry a).live = true)
    (h : Answers a route s t) :
    (∀ b, c.probeList[c.cursor + 1]? = some b → (s.entry b).route = some p → route = (s.entry a).route →
        (settle (t.setCheck p (nextProbe c))).checks = s.checks.set p (nextProbe c))
      ∧ (c.probeList[c.cursor + 1]? = none → c.cutOff = [] →
        EndsAs p { c with result := .noBreak } s (settle (t.setCheck p (nextProbe c)))) := by
  have hchecks : (t.setCheck p (nextProbe c)).checks = s.checks.set p (nextProbe c) := by
    rw [h.frame]
    rfl
  have hcheck : (t.setCheck p (nextProbe c)).checks.get p = nextProbe c := by
    rw [hchecks, Pair.get_set_same]
  have hotherIdle : ((t.setCheck p (nextProbe c)).checks.get p.other).state = .idle := by
    rw [hchecks, Pair.get_set_other]
    exact hother
  refine ⟨fun b hb hroute hkept => ?_, fun hnone hcut => ?_⟩
  · have hroute' : (t.entry b).route = some p := by
      by_cases hba : b = a
      · rw [hba, h.route, hkept, ← hba]
        exact hroute
      · rw [h.other b hba]
        exact hroute
    have hrests : CheckRests p (t.setCheck p (nextProbe c)) := by
      unfold CheckRests
      rw [hcheck]
      refine ⟨fun _ _ => ⟨b, hb, hroute'⟩, fun hr => ?_⟩
      exact absurd (hstate.symm.trans hr) (by decide)
    rw [(settle_of_oneRests hrests hotherIdle).requests.touches.checks, hchecks]
  · obtain ⟨r, hbefore, hafter⟩ := settle_of_otherIdle p hotherIdle
    have htouches := hbefore.requests.touches
    have hr : r.checks.get p = nextProbe c := by rw [htouches.checks, hcheck]
    have hend : (r.checks.get p).probeList.length ≤ (r.checks.get p).cursor := by
      rw [hr]
      exact List.getElem?_eq_none_iff.1 hnone
    rw [advanceCheck_noBreak (by rw [hr]; exact hstate) (by rw [hr]; exact hbegun) hend, hr] at hafter
    refine endsAs_endCheck (r := r.setCheck p { nextProbe c with result := .noBreak })
      (d := { nextProbe c with result := .noBreak }) ?_ rfl rfl ?_ ?_ (fun v b hleft => ?_) hafter
    · show r.checks.set p _ = _
      rw [htouches.checks, hchecks, Pair.set_set]
    · show r.ringState = _
      rw [htouches.ringState, h.frame]
      rfl
    · show r.epoch = _
      rw [htouches.epoch, h.frame]
      rfl
    · refine leftToCheck_stands (p := p) (t := t.setCheck p (nextProbe c)) ?_ ?_ (h.vacant hlive) ?_ hbefore hleft
      · rw [h.frame]
        rfl
      · rw [h.frame]
        rfl
      · rw [hcheck]
        simp [nextProbe, hstate]

/-! ## REROUTING goes on (R162) -/

/-- The check of a port in REROUTING after an answer: the module counted as re-routed (R162). -/
def reroutedCheck (a : Nat) (c : Check) : Check :=
  { c with cutOff := decided a .rerouted c.cutOff, rerouted := c.rerouted + 1, deciding := none }

/-- A module that is decided is not PENDING. -/
theorem not_pending_decided (a : Nat) (l : List CutOff) : a ∉ pendingAddrs (decided a .rerouted l) := by
  rw [mem_pendingAddrs]
  intro hmem
  obtain ⟨m, -, hm⟩ := List.mem_map.1 hmem
  by_cases h : m.addr = a
  · rw [if_pos h] at hm
    exact absurd (congrArg CutOff.mark hm) nofun
  · rw [if_neg h] at hm
    exact h (congrArg CutOff.addr hm)

theorem rerouted_decides {c : Check} {route : Option Port} (hlive : (s.entry a).live = true)
    (hstate : c.state = .rerouting) (h : Answers a route s t) :
    CheckDecides p (reroutedCheck a c) s (t.setCheck p (reroutedCheck a c)) where
  touches := by
    rw [h.frame]
    rfl
  slots := by
    rw [h.frame]
    rfl
  ringState := by
    rw [h.frame]
    rfl
  vacant := h.vacant hlive
  hops := h.allHops
  checks := by
    rw [h.frame]
    rfl
  rerouting := hstate
  deciding := rfl

/-! ## The answers -/

theorem afterReply_check (howner : x.owner = .check p) (q : Port) (f : Frame) (s : State) :
    afterReply q x f s = settle (checkOutcome q p x.frame.dest (.reply f) (freed q s)) := by
  simp only [afterReply, applyOutcome, howner]

theorem checkOutcome_nextProbe (hstate : (s.checks.get p).state = .probing)
    (hbegun : (s.checks.get p).begun = true)
    (htarget : (s.checks.get p).probeList[(s.checks.get p).cursor]? = some a)
    (hchecks : (reportProbe a (.reply f) s).checks = s.checks) :
    checkOutcome p p a (.reply f) s
      = (answered a (reportProbe a (.reply f) s)).setCheck p (nextProbe (s.checks.get p)) := by
  have hprobe : (s.checks.get p).probeTarget = some a := by
    rw [Check.probeTarget, if_pos ⟨hstate, hbegun⟩, htarget]
  simp only [checkOutcome, if_true, hchecks, hprobe, probingOutcome, nextProbe]

theorem checkOutcome_reroutes (hstate : (s.checks.get p).state = .rerouting)
    (hdeciding : (s.checks.get p).deciding = some a)
    (hchecks : (reportProbe a (.reply f) s).checks = s.checks)
    (hcan : canReroute ((reportProbe a (.reply f) s).entry a) p.other = true) :
    checkOutcome p.other p a (.reply f) s
      = ((reportProbe a (.reply f) s).setEntry a
          (reroutedEntry ((reportProbe a (.reply f) s).entry a) p.other)).setCheck p
          (reroutedCheck a (s.checks.get p)) := by
  have hkept : ((reportProbe a (.reply f) s).setEntry a
      (reroutedEntry ((reportProbe a (.reply f) s).entry a) p.other)).checks = s.checks := by
    rw [setEntry_frame]
    exact hchecks
  simp only [checkOutcome, if_neg (Port.other_ne p), hchecks]
  rw [if_pos ⟨hstate, hdeciding⟩]
  simp only [reroutingOutcome, hcan, if_true, rerouteModule, hkept]
  rfl

theorem freed_link (p q : Port) (s : State) : ((freed p s).port q).link = (s.port q).link := by
  rcases Port.eq_or_other p q with rfl | rfl
  · show ((s.ports.set _ _).get _).link = _
    rw [Pair.get_set_same]
  · show ((s.ports.set _ _).get _).link = _
    rw [Pair.get_set_other]
    rfl

/-- How REROUTING goes on does not rest on the exchange that is over. -/
theorem goesOn_freed {c : Check} (h : GoesOn p c (freed q s) t) : GoesOn p c s t := by
  simp only [GoesOn, freed_link] at h
  exact h

/-- The answer to a probe of PROBING (R46, R160, R166). -/
theorem probing_answered (hother : (s.checks.get p.other).state = .idle)
    (hstate : (s.checks.get p).state = .probing) (hbegun : (s.checks.get p).begun = true)
    (htarget : (s.checks.get p).probeList[(s.checks.get p).cursor]? = some a)
    (hlive : (s.entry a).live = true) (hout : t = settle (checkOutcome p p a (.reply f) s)) :
    (t.entry a).state = .active ∧ (t.entry a).failCount = 0 ∧ (t.entry a).route = (s.entry a).route
      ∧ (∀ b, (s.checks.get p).probeList[(s.checks.get p).cursor + 1]? = some b → (s.entry b).route = some p →
          t.checks = s.checks.set p (nextProbe (s.checks.get p)))
      ∧ ((s.checks.get p).probeList[(s.checks.get p).cursor + 1]? = none → (s.checks.get p).cutOff = [] →
          EndsAs p { s.checks.get p with result := .noBreak } s t) := by
  obtain ⟨-, hframe, -⟩ := reportProbe_reply hlive f
  have hchecks : (reportProbe a (.reply f) s).checks = s.checks := by rw [hframe]
  have h := answered_answers hlive f
  rw [checkOutcome_nextProbe hstate hbegun htarget hchecks] at hout
  generalize answered a (reportProbe a (.reply f) s) = c at h hout
  obtain ⟨hnext, hends⟩ := nextProbe_settles (p := p) hother hstate hbegun hlive h
  have hkept : ButToggles (c.setCheck p (nextProbe (s.checks.get p))) t := by
    rw [hout]
    refine settle_probing_butToggles (p := p) ?_ ?_
    · show ((c.checks.set p _).get p).state = _
      rw [Pair.get_set_same]
      exact hstate
    · show ((c.checks.set p _).get p.other).state = _
      rw [Pair.get_set_other, h.frame]
      exact hother
  have hentry : t.entry a = { c.entry a with toggle := (t.entry a).toggle } := hkept a
  rw [← hout] at hnext hends
  refine ⟨?_, ?_, ?_, fun b hb hroute => hnext b hb hroute rfl, hends⟩
  · rw [hentry]
    exact h.state
  · rw [hentry]
    exact h.failCount
  · rw [hentry]
    exact h.route

/-- The answer to a re-route probe (R162, R166). -/
theorem rerouting_answered (hother : (s.checks.get p.other).state = .idle)
    (hstate : (s.checks.get p).state = .rerouting) (hdeciding : (s.checks.get p).deciding = some a)
    (hlive : (s.entry a).live = true) (hhops : ((s.entry a).hops.get p.other).isSome = true)
    (hout : t = settle (checkOutcome p.other p a (.reply f) s)) :
    (t.entry a).state = .active ∧ (t.entry a).failCount = 0 ∧ (t.entry a).route = some p.other
      ∧ (t.entry a).hops = (s.entry a).hops ∧ GoesOn p (reroutedCheck a (s.checks.get p)) s t := by
  obtain ⟨g, hframe, hentry⟩ := reportProbe_reply hlive f
  have hchecks : (reportProbe a (.reply f) s).checks = s.checks := by rw [hframe]
  have hcan : canReroute ((reportProbe a (.reply f) s).entry a) p.other = true := by
    rw [hentry, if_pos rfl]
    simp only [canReroute, hhops, Bool.and_true]
    exact hlive
  have h := rerouted_answers hlive f p.other
  rw [checkOutcome_reroutes hstate hdeciding hchecks hcan] at hout
  generalize (reportProbe a (.reply f) s).setEntry a _ = c at h hout
  have hdecides := rerouted_decides (p := p) hlive hstate h
  have hkept : t.entry a = { c.entry a with toggle := (t.entry a).toggle } := by
    rw [hout]
    refine settle_rerouting_keeps (p := p) ?_ ?_ ?_
    · rw [hdecides.check]
      exact hstate
    · rw [hdecides.other]
      exact hother
    · rw [hdecides.check]
      exact not_pending_decided a _
  refine ⟨?_, ?_, ?_, ?_, ?_⟩
  · rw [hkept]
    exact h.state
  · rw [hkept]
    exact h.failCount
  · rw [hkept]
    exact h.route
  · rw [hkept]
    exact h.hops
  · rw [hout]
    exact goesOn_settle hdecides hother

/-- Settles O49: the begin of probing, and an answer in PROBING and in REROUTING. -/
theorem reachCheckProbes : Obligations.ReachCheckProbes := by
  unfold Obligations.ReachCheckProbes
  intro s p hreset hother c
  refine ⟨fun hstate hbegun hexch hsome => ?_, fun q x w r a bytes f hrx hexch howner hdest hj haccepts hlive => ?_⟩
  · refine ⟨_, s.probeListOf p, exec_probingBegin hreset hstate hbegun hexch,
      (beginProbing_settles hstate hother hsome).requests.touches, probeListOf_nodup s p,
      fun a => mem_probeListOf s p, probeListOf_sorted s p⟩
  · have hafter := afterReply_check howner q f s
    rw [hdest] at hafter
    refine ⟨_, exec_accepted hreset hrx hexch hj haccepts, afterReply_touches q x f s, ?_, ?_, ?_⟩
    · rw [hafter, (settle_touches _).ports, (checkOutcome_touches _ _ _ _ _).ports]
      rfl
    · rintro rfl hstate hbegun htarget
      exact probing_answered (s := freed q s) hother hstate hbegun htarget hlive hafter
    · rintro rfl hstate hdeciding hhops
      obtain ⟨hactive, hcount, hroute, hkept, hgoes⟩ :=
        rerouting_answered (s := freed p.other s) hother hstate hdeciding hlive hhops hafter
      exact ⟨hactive, hcount, hroute, hkept, goesOn_freed hgoes⟩

end Sys2Proof.Proofs
end

section
/-! The accepted reply to a targeted attempt or to a resynchronising PROBE: what its slot becomes, and the records of its
module (R46, R47, R91, R93, R94, R99, R110, R111, R118, R119). -/

namespace Sys2Proof.Proofs

-- one theorem after the other: many proofs elaborated at once ask for a stack each
set_option Elab.async false

open Sys2Proof.Machine Sys2Proof.Safety

variable {s t u r : State} {p : Port} {x : Xfer} {v : Tag} {a : Nat} {f sent : Frame} {z : Slot} {k : ReqKind}

/-! ## NAK reasons and identities -/

/-- A good frame has a payload of a length its kind allows (R181). -/
theorem lengthOk_of_good {bytes : List Byte} (h : judge bytes = .good f) :
    f.kind.lengthOk f.payload.length = true := by
  unfold judge at h
  split at h
  · nomatch h
  · split at h
    · nomatch h
    · split at h
      · nomatch h
      · split at h
        · split at h
          · next hcoded =>
            cases h
            simp only [RawFrame.wellCoded, Bool.and_eq_true] at hcoded
            exact hcoded.1.2
          · nomatch h
        · nomatch h

/-- A NAK is BUSY where its one byte is 1 (section 11.1). -/
theorem nakReason_busy_iff (hkind : f.kind = .nak) (hlength : f.kind.lengthOk f.payload.length = true) :
    nakReason f = .busy ↔ f.payload = [1] := by
  rw [hkind] at hlength
  obtain ⟨b, hb⟩ := List.length_eq_one_iff.1 (beq_iff_eq.1 hlength)
  have hreason : nakReason f = .busy ↔ b.toNat = 1 := by
    unfold nakReason
    rw [hb]
    split
    · next h => exact ⟨fun _ => h, fun _ => rfl⟩
    · next h => exact ⟨nofun, fun h' => absurd (h.symm.trans h') (by decide)⟩
    · next h => exact ⟨nofun, fun h' => absurd (h.symm.trans h') (by decide)⟩
    · next h _ _ => exact ⟨nofun, fun h' => absurd h' h⟩
  rw [hreason, hb, List.cons.injEq, and_iff_left rfl]
  exact ⟨fun h => BitVec.eq_of_toNat_eq h, fun h => by rw [h]; rfl⟩

theorem identStatus_eq {e : RosterEntry} {i : Identity} (h : e.identity = some i) (f : Frame) :
    identStatus e f
      = if i.maker = (Identity.ofBytes f.payload).maker ∧ i.typeCode = (Identity.ofBytes f.payload).typeCode
            ∧ i.serial = (Identity.ofBytes f.payload).serial then .ok
        else .identityMismatch := by
  simp only [identStatus, h, Identity.sameModule, Bool.and_eq_true, beq_iff_eq, and_assoc]

/-! ## A slot decided after a reply was reported -/

/-- A reply has been reported: of the rest only roster, mirror, slots and follow-up WRITEs differ, and the modules
ACTIVE or SUSPECT are the same. -/
structure ReplyReported (s t : State) : Prop where
  frame : t = { s with
    roster := t.roster, mirror := t.mirror, slots := t.slots, followUps := t.followUps }
  live : ∀ b, (t.entry b).live = (s.entry b).live

theorem ReplyReported.queue (h : ReplyReported s t) : t.completionQueue = s.completionQueue := by
  rw [h.frame]

theorem ReplyReported.epoch (h : ReplyReported s t) : t.epoch = s.epoch := by rw [h.frame]

theorem ReplyReported.checks (h : ReplyReported s t) : t.checks = s.checks := by rw [h.frame]

theorem ReplyReported.params (h : ReplyReported s t) : t.params = s.params := by rw [h.frame]

theorem ReplyReported.lockHeld (h : ReplyReported s t) : t.lockHeld = s.lockHeld := by rw [h.frame]

theorem ReplyReported.censusRunning (h : ReplyReported s t) :
    t.censusRunning = true ↔ s.census.state ≠ .idle := by
  have hcensus : t.census = s.census := by rw [h.frame]
  simp [State.censusRunning, hcensus]

/-- A slot replaced after the report leaves it reported. -/
theorem ReplyReported.setSlot (h : ReplyReported s t) (v : Tag) (z : Slot) :
    ReplyReported s (t.setSlot v z) := by
  refine ⟨?_, h.live⟩
  have hframe := h.frame
  generalize hu : t.setSlot v z = u
  have hset : u = { t with slots := u.slots } := by
    rw [← hu]
    rfl
  rw [hset, hframe]

/-- A slot that its reply ends is the first the step completes, and stays as it ended (R91). -/
theorem ReplyReported.ends (h : ReplyReported s r) (hslot : r.slot v = z) (hu : z.unfinished = true)
    (st : Status) (late : Bool) (data : List Byte) :
    Completes v (doneWith z st (effectByHistory z.kindCode z.history) late data s.epoch) s
      (settle (completeActive v st late data r)) := by
  subst hslot
  have hends := completes_of_moves v (completeActive_completes v st late data hu) rfl (settle_moves _)
  unfold Completes at hends ⊢
  rw [h.queue, h.epoch] at hends
  exact hends

/-- In a census a slot that is to wait ends ROSTER_CHANGED (R65). -/
theorem ReplyReported.flushed (h : ReplyReported s r) (hslot : r.slot v = z) (hu : z.unfinished = true)
    (hcensus : s.census.state ≠ .idle) (b : Option Nat) :
    Completes v (doneWith z .rosterChanged (effectByHistory z.kindCode z.history) false [] s.epoch) s
      (settle (waitOrFlush v b r)) := by
  rw [waitOrFlush_census b (h.censusRunning.2 hcensus)]
  exact h.ends hslot hu _ _ _

/-- A slot that waits again with nothing else deciding it waits on through the front checks (R107, R111). -/
theorem ReplyReported.waits (h : ReplyReported s r) (hslot : r.slot v = z) (hu : z.unfinished = true)
    (hfree : FreeToWait v a s) (htarget : z.target = some a) (hcode : z.kindCode = (s.slot v).kindCode)
    (hbcast : z.kindCode ≠ 3) (b : Option Nat) :
    (settle (waitOrFlush v b r)).slot v = { z with state := .waitingRetry, backoff := b } := by
  subst hslot
  obtain ⟨hcensus, hidle, hlive, hlock⟩ := hfree
  rw [waitOrFlush_waits b fun hc => h.censusRunning.1 hc hcensus]
  generalize hw : ({ r.slot v with state := .waitingRetry, backoff := b } : Slot) = w
  have hwcode : w.kindCode = (s.slot v).kindCode := by
    rw [← hw]
    exact hcode
  have hreported := h.setSlot v w
  have hwslot : (r.setSlot v w).slot v = w := State.slot_setSlot_same _ _ _
  have hstate : ((r.setSlot v w).entry a).state = .active ∨ ((r.setSlot v w).entry a).state = .suspect :=
    (live_iff _).1 ((hreported.live a).trans hlive)
  have hfront := settle_of_rests (s := r.setSlot v w) fun q =>
    checkRests_of_idle (by rw [hreported.checks]; exact hidle q)
  rw [hfront.passing v ?_, hwslot]
  unfold PassesFront
  rw [hwslot, ← hw]
  refine ⟨not_isBcast_of_code hbcast, frontCheck_passes (a := a) htarget ?_ (.inl ?_) ?_⟩
  · rw [hw]
    rcases hstate with hs | hs <;> simp [hs]
  · rw [hw]
    rcases hstate with hs | hs <;> simp [hs]
  · rw [hw, hreported.lockHeld, hwcode]
    exact hlock

/-! ## The report of a reply to an attempt (R46, R47, R119) -/

theorem setLastSeq_frame (a : Nat) (q : Option Seq) (s : State) :
    setLastSeq a q s = { s with roster := (setLastSeq a q s).roster } := by
  unfold setLastSeq State.setEntry
  split
  · rfl
  · split <;> rfl

theorem clearStatus_frame (a : Nat) (s : State) :
    clearStatus a s = { s with mirror := (clearStatus a s).mirror } := by
  unfold clearStatus State.setStatus
  simp only
  split <;> rfl

theorem restartAcked_frame (a : Nat) (s : State) :
    restartAcked a s
      = { s with roster := (restartAcked a s).roster, mirror := (restartAcked a s).mirror } := by
  unfold restartAcked
  rw [clearStatus_frame, setLastSeq_frame, setToggle_frame]

theorem setToggle_live (a b : Nat) (g : Toggle) (s : State) :
    ((setToggle a g s).entry b).live = (s.entry b).live := by
  rw [setToggle_entry]
  split <;> rfl

theorem restartAcked_entry (a b : Nat) (s : State) :
    (restartAcked a s).entry b = (setLastSeq a none (setToggle a .zero s)).entry b := by
  unfold restartAcked
  rw [clearStatus_frame]
  rfl

theorem restartAcked_live (a b : Nat) (s : State) :
    ((restartAcked a s).entry b).live = (s.entry b).live := by
  rw [restartAcked_entry, setLastSeq_entry_eq]
  exact setToggle_live a b .zero s

/-- The report of a reply to an attempt is the good reply's, with the records of its kind (R46, R47, R119). -/
theorem reportAttempt_reply_cases (k : ReqKind) (a : Nat) (sent f : Frame) (s : State) :
    reportAttempt k a sent (.reply f) s = reportGood a s
      ∨ (∃ g, reportAttempt k a sent (.reply f) s = setToggle a g (reportGood a s))
      ∨ reportAttempt k a sent (.reply f) s = restartAcked a (reportGood a s) := by
  unfold reportAttempt
  simp only
  split
  · exact .inr (.inl ⟨_, rfl⟩)
  · exact .inr (.inl ⟨_, rfl⟩)
  · exact .inr (.inr rfl)
  · exact .inl rfl

theorem reportAttempt_reported (k : ReqKind) (a : Nat) (sent f : Frame) (s : State) :
    ReplyReported s (reportAttempt k a sent (.reply f) s) := by
  rcases reportAttempt_reply_cases k a sent f s with h | ⟨g, h⟩ | h
  · rw [h]
    exact ⟨by rw [reportGood_frame], fun b => reportGood_live a b s⟩
  · rw [h]
    exact ⟨by rw [setToggle_frame, reportGood_frame],
      fun b => (setToggle_live a b g _).trans (reportGood_live a b s)⟩
  · rw [h]
    exact ⟨by rw [restartAcked_frame, reportGood_frame],
      fun b => (restartAcked_live a b _).trans (reportGood_live a b s)⟩

theorem reportAttempt_slots (k : ReqKind) (a : Nat) (sent f : Frame) (s : State) (w : Tag) :
    (reportAttempt k a sent (.reply f) s).slot w = s.slot w := by
  rcases reportAttempt_reply_cases k a sent f s with h | ⟨g, h⟩ | h
  · rw [h, reportGood_frame]
    rfl
  · rw [h, setToggle_frame, reportGood_frame]
    rfl
  · rw [h, restartAcked_frame, reportGood_frame]
    rfl

/-! ## The reply to an attempt (R110) -/

/-- The slot of an attempt after its reply, not yet decided: history and the count of attempts (R87, R110, R111). -/
def repliedSlot (f : Frame) (d : Decision) (y : Slot) : Slot :=
  { y with history := historyAfter y.history (.reply f), attempts := attemptsAfter y.attempts d }

/-- The state in which the slot of an attempt is decided. -/
def replied (k : ReqKind) (v : Tag) (sent f : Frame) (s : State) : State :=
  (reportAttempt k ((s.slot v).target.getD 0) sent (.reply f) s).setSlot v
    (repliedSlot f (decisionOf (s.entry ((s.slot v).target.getD 0)) (.reply f)) (s.slot v))

theorem attemptOutcome_reply (hkind : (s.slot v).kind = some k) (sent f : Frame) :
    attemptOutcome v sent (.reply f) s
      = decideSlot v (decisionOf (s.entry ((s.slot v).target.getD 0)) (.reply f)) (replied k v sent f s) := by
  unfold attemptOutcome replied repliedSlot
  simp only [hkind, reportAttempt_slots]

theorem replied_reported (k : ReqKind) (v : Tag) (sent f : Frame) (s : State) :
    ReplyReported s (replied k v sent f s) := (reportAttempt_reported _ _ _ _ _).setSlot _ _

theorem replied_slot (k : ReqKind) (v : Tag) (sent f : Frame) (s : State) :
    (replied k v sent f s).slot v
      = repliedSlot f (decisionOf (s.entry ((s.slot v).target.getD 0)) (.reply f)) (s.slot v) :=
  State.slot_setSlot_same _ _ _

/-! ## The slot decisions -/

theorem decideSlot_success (st : Status) (data : List Byte) (s : State) :
    decideSlot v (.success st data) s = completeActive v st (s.slot v).cancelRequested data s := by
  unfold decideSlot
  cases (s.slot v).cancelRequested <;> rfl

theorem decideSlot_rejected (s : State) :
    decideSlot v .rejected s
      = completeActive v (if (s.slot v).cancelRequested then .cancelled else .rejected) false [] s := by
  unfold decideSlot
  cases (s.slot v).cancelRequested <;> rfl

theorem decideSlot_busy_cancelled (h : (s.slot v).cancelRequested = true) :
    decideSlot v .busy s = completeActive v .cancelled false [] s := if_pos h

theorem decideSlot_busy (h : (s.slot v).cancelRequested = false) : decideSlot v .busy s = busyDecision v s :=
  if_neg (by simp [h])

/-- The slot that one more NAK BUSY leaves to wait (R111). -/
def busier (y : Slot) : Slot := { y with busyCount := y.busyCount + 1 }

theorem busyDecision_exhausted (h : s.params.busyLimit ≤ (s.slot v).busyCount) :
    busyDecision v s = completeActive v .busyExhausted false [] s := if_pos h

theorem busyDecision_waits (h : (s.slot v).busyCount < s.params.busyLimit) :
    busyDecision v s = waitOrFlush v (some s.backoffUs) (s.setSlot v (busier (s.slot v))) :=
  if_neg (Nat.not_le.2 h)

/-! ## The slot of an attempt after its reply -/

theorem effectByHistory_acked (c : Byte) :
    effectByHistory c .acked = if c = 2 ∨ c = 5 then .applied else .notApplied := by
  simp [effectByHistory]

theorem effectByHistory_naked (c : Byte) : effectByHistory c .naked = .notApplied := by
  simp [effectByHistory]

theorem historyAfter_nak (h : f.kind = .nak) (y : History) : historyAfter y (.reply f) = .naked := if_pos h

theorem historyAfter_acked (h : f.kind ≠ .nak) (y : History) : historyAfter y (.reply f) = .acked := if_neg h

/-- A reply that carries the request out ends the slot with its data, after a CANCEL with late_cancel (R94, R99, R110). -/
theorem attempt_succeeds (hactive : (s.slot v).state = .active) (hkind : (s.slot v).kind = some k)
    {st : Status} {data : List Byte} (hnak : f.kind ≠ .nak)
    (hd : decisionOf (s.entry ((s.slot v).target.getD 0)) (.reply f) = .success st data) (sent : Frame) :
    Completes v
      (doneWith { s.slot v with history := .acked } st
        (if (s.slot v).kindCode = 2 ∨ (s.slot v).kindCode = 5 then .applied else .notApplied)
        (s.slot v).cancelRequested data s.epoch) s
      (settle (attemptOutcome v sent (.reply f) s)) := by
  have hslot : (replied k v sent f s).slot v = { s.slot v with history := .acked } := by
    rw [replied_slot, hd, repliedSlot, historyAfter_acked hnak]
    rfl
  rw [attemptOutcome_reply hkind, hd, decideSlot_success, ← effectByHistory_acked, hslot]
  exact (replied_reported k v sent f s).ends hslot (unfinished_of_active hactive) st _ data

/-- A NAK other than BUSY ends it REJECTED, or CANCELLED after a CANCEL (R99, R110). -/
theorem attempt_rejected (hactive : (s.slot v).state = .active) (hkind : (s.slot v).kind = some k)
    (hnak : f.kind = .nak) (hbusy : nakReason f ≠ .busy) (sent : Frame) :
    Completes v
      (doneWith { s.slot v with history := .naked }
        (if (s.slot v).cancelRequested then .cancelled else .rejected) .notApplied false [] s.epoch) s
      (settle (attemptOutcome v sent (.reply f) s)) := by
  have hd : decisionOf (s.entry ((s.slot v).target.getD 0)) (.reply f) = .rejected := by
    simp only [decisionOf, hnak, if_neg hbusy]
  have hslot : (replied k v sent f s).slot v = { s.slot v with history := .naked } := by
    rw [replied_slot, hd, repliedSlot, historyAfter_nak hnak]
    rfl
  rw [attemptOutcome_reply hkind, hd, decideSlot_rejected, ← effectByHistory_naked (s.slot v).kindCode, hslot]
  exact (replied_reported k v sent f s).ends hslot (unfinished_of_active hactive) _ _ _

/-- The slot of an attempt that drew NAK BUSY, the attempt not counted (R111). -/
def busySlot (y : Slot) : Slot := { y with history := .naked, attempts := y.attempts - 1 }

/-- After NAK BUSY the slot is decided with the attempt not counted (R111, log 19). -/
theorem attempt_busy (hkind : (s.slot v).kind = some k) (hnak : f.kind = .nak) (hbusy : nakReason f = .busy)
    (sent : Frame) :
    attemptOutcome v sent (.reply f) s = decideSlot v .busy (replied k v sent f s)
      ∧ (replied k v sent f s).slot v = busySlot (s.slot v) := by
  have hd : decisionOf (s.entry ((s.slot v).target.getD 0)) (.reply f) = .busy := by
    simp only [decisionOf, hnak, if_pos hbusy]
  refine ⟨by rw [attemptOutcome_reply hkind, hd], ?_⟩
  rw [replied_slot, hd, repliedSlot, historyAfter_nak hnak]
  rfl

/-- A slot decided BUSY, as R111 has it, from whatever state its reply was reported in. -/
theorem busy_waits (h : ReplyReported s r) (hslot : r.slot v = z) (hu : z.unfinished = true)
    (hcode : z.kindCode = (s.slot v).kindCode) (hbcast : z.kindCode ≠ 3)
    (hleft : z.busyCount < s.params.busyLimit) :
    (s.census.state ≠ .idle →
        Completes v (doneWith { z with busyCount := ((settle (busyDecision v r)).slot v).busyCount } .rosterChanged
          (effectByHistory z.kindCode z.history) false [] s.epoch) s (settle (busyDecision v r)))
      ∧ ∀ a, z.target = some a → FreeToWait v a s → (settle (busyDecision v r)).slot v = { z with
          state := .waitingRetry, busyCount := z.busyCount + 1
          backoff := some (s.params.busyBackoff * 100) } := by
  have hbusier : (r.setSlot v (busier z)).slot v = busier z := State.slot_setSlot_same _ _ _
  have hreported := h.setSlot v (busier z)
  have hbackoff : r.backoffUs = s.params.busyBackoff * 100 := by rw [State.backoffUs, h.params]
  rw [busyDecision_waits (by rw [hslot, h.params]; exact hleft), hslot, hbackoff]
  refine ⟨fun hcensus => ?_, fun a htarget hfree => ?_⟩
  · have hends := hreported.flushed hbusier hu hcensus (some (s.params.busyBackoff * 100))
    have hcount : ((settle (waitOrFlush v (some (s.params.busyBackoff * 100)) (r.setSlot v (busier z)))).slot v).busyCount
        = z.busyCount + 1 := by rw [hends.1]; rfl
    rw [hcount]
    exact hends
  · exact hreported.waits hbusier hu hfree htarget hcode hbcast _

/-- The reply decides the slot of its attempt (R110, R111). -/
theorem attempt_answered (hactive : (s.slot v).state = .active)
    (hcode : (s.slot v).kindCode = 1 ∨ (s.slot v).kindCode = 2 ∨ (s.slot v).kindCode = 4 ∨ (s.slot v).kindCode = 5)
    (hlength : f.kind.lengthOk f.payload.length = true) (sent : Frame) :
    AttemptAnswered v f s (settle (attemptOutcome v sent (.reply f) s)) := by
  obtain ⟨⟨k, hkind⟩, hbcast⟩ := kind_of_targetedCode hcode
  have hu := unfinished_of_active hactive
  refine ⟨fun _ hdata => ?_, fun _ hack => ?_, fun _ hident a i htarget hidentity => ?_,
    fun hnak hpayload => ?_, fun hnak hpayload => ?_⟩
  · refine attempt_succeeds hactive hkind (by rw [hdata]; decide) ?_ sent
    simp only [decisionOf, hdata]
  · refine attempt_succeeds hactive hkind (by rw [hack]; decide) ?_ sent
    simp only [decisionOf, hack]
  · refine attempt_succeeds hactive hkind (by rw [hident]; decide) ?_ sent
    rw [← identStatus_eq hidentity, htarget]
    simp only [decisionOf, hident, Option.getD_some]
  · exact attempt_rejected hactive hkind hnak (fun h => hpayload ((nakReason_busy_iff hnak hlength).1 h)) sent
  · obtain ⟨hout, hslot⟩ := attempt_busy hkind hnak ((nakReason_busy_iff hnak hlength).2 hpayload) sent
    have hreported := replied_reported k v sent f s
    rw [hout]
    generalize replied k v sent f s = r at hslot hreported
    have hparams : r.params = s.params := hreported.params
    rw [← effectByHistory_naked (s.slot v).kindCode]
    refine ⟨fun hlate => ?_, fun hlate hlimit => ?_, fun hlate hleft => ?_⟩
    · rw [decideSlot_busy_cancelled (by rw [hslot]; exact hlate)]
      exact hreported.ends hslot hu _ _ _
    · rw [decideSlot_busy (by rw [hslot]; exact hlate),
        busyDecision_exhausted (by rw [hslot, hparams]; exact hlimit)]
      exact hreported.ends hslot hu _ _ _
    · rw [decideSlot_busy (by rw [hslot]; exact hlate)]
      exact busy_waits hreported hslot hu rfl hbcast hleft

/-! ## The records a reply to an attempt changes (R46, R47, R119) -/

theorem complete_keepsToggles (v : Tag) (st : Status) (late : Bool) (data : List Byte) (s : State) :
    KeepsToggles s (complete v st late data s) := by
  refine ⟨(complete_moves v st late data s).moves, fun b hnone => ?_⟩
  by_cases hu : (s.slot v).unfinished = true
  · exact (complete_entry_eq hu st late data b).2 fun h => hnone v h.1
  · rw [complete_finished v st late data (by simpa using hu)]

theorem completeActive_keepsToggles (v : Tag) (st : Status) (late : Bool) (data : List Byte) (s : State) :
    KeepsToggles s (completeActive v st late data s) := by
  have hfollower (g : Option Nat) (q : State) (w : Tag) : KeepsToggles q (flushFollower g w q) := by
    unfold flushFollower
    simp only
    split
    · exact finish_keepsToggles _ _ _
    · exact .refl q
  unfold completeActive
  simp only
  split
  · exact (complete_keepsToggles v st late data s).trans (foldl_relates .refl .trans (hfollower _) _ _)
  · exact complete_keepsToggles v st late data s

theorem waitOrFlush_keepsToggles (h : (s.slot v).unfinished = true) (b : Option Nat) :
    KeepsToggles s (waitOrFlush v b s) := by
  refine ⟨(waitOrFlush_moves v h b).moves, ?_⟩
  unfold waitOrFlush
  split
  · exact (completeActive_keepsToggles v _ _ _ s).entries
  · exact fun _ _ => rfl

theorem busyDecision_keepsToggles (h : (s.slot v).unfinished = true) : KeepsToggles s (busyDecision v s) := by
  unfold busyDecision
  simp only
  split
  · exact completeActive_keepsToggles v _ _ _ s
  · have hmoves : RequestMoves s (s.setSlot v (busier (s.slot v))) :=
      setSlot_moves v (.inr ⟨h, .inl h, rfl, rfl, rfl⟩) h
    have hset : KeepsToggles s (s.setSlot v (busier (s.slot v))) := ⟨hmoves.moves, fun _ _ => rfl⟩
    refine hset.trans (waitOrFlush_keepsToggles ?_ _)
    rw [State.slot_setSlot_same]
    exact h

/-- The decision of a slot changes no entry of an address without an unanswered WRITE (R91). -/
theorem decideSlot_keepsToggles (h : (s.slot v).unfinished = true) (d : Decision) :
    KeepsToggles s (decideSlot v d s) := by
  unfold decideSlot
  split
  · split <;> exact completeActive_keepsToggles v _ _ _ s
  · cases d with
    | success st data => exact completeActive_keepsToggles v _ _ _ s
    | rejected => exact completeActive_keepsToggles v _ _ _ s
    | busy => exact busyDecision_keepsToggles h
    | failed =>
      simp only [failedDecision]
      split
      · exact waitOrFlush_keepsToggles h none
      · exact completeActive_keepsToggles v _ _ _ s
    | notSent => exact waitOrFlush_keepsToggles h none

/-- A slot that has drawn a reply is no unanswered WRITE (R87). -/
theorem historyAfter_reply_ne (f : Frame) (y : History) : historyAfter y (.reply f) ≠ .sentNoReply := by
  by_cases h : f.kind = .nak
  · rw [historyAfter_nak h]
    nofun
  · rw [historyAfter_acked h]
    nofun

/-- Beyond the report, deciding the one request of a module leaves the module's records. -/
theorem attempt_keepsRecords (hactive : (s.slot v).state = .active) (hkind : (s.slot v).kind = some k)
    (htarget : (s.slot v).target = some a) (honly : OnlyRequest v a s)
    (hidle : ∀ q, (s.checks.get q).state = .idle) (sent f : Frame) :
    (settle (attemptOutcome v sent (.reply f) s)).entry a = (reportAttempt k a sent (.reply f) s).entry a
      ∧ (settle (attemptOutcome v sent (.reply f) s)).status a
          = (reportAttempt k a sent (.reply f) s).status a := by
  have hreported := replied_reported k v sent f s
  have hslot := replied_slot k v sent f s
  have hother (w : Tag) (hw : w ≠ v) : (replied k v sent f s).slot w = s.slot w :=
    (State.slot_setSlot_ne _ hw _).trans (reportAttempt_slots _ _ _ _ _ _)
  have hstands : (replied k v sent f s).entry a = (reportAttempt k a sent (.reply f) s).entry a
      ∧ (replied k v sent f s).status a = (reportAttempt k a sent (.reply f) s).status a := by
    unfold replied
    rw [htarget]
    exact ⟨rfl, rfl⟩
  rw [attemptOutcome_reply hkind, ← hstands.1, ← hstands.2]
  generalize decisionOf (s.entry ((s.slot v).target.getD 0)) (.reply f) = d at hslot ⊢
  generalize replied k v sent f s = r at hreported hslot hother
  have hu : (r.slot v).unfinished = true := by
    rw [hslot]
    exact unfinished_of_active hactive
  have hnone : NoneUnanswered a r := by
    rintro w ⟨hwu, -, hwtarget, hhistory⟩
    by_cases hw : w = v
    · rw [hw, hslot] at hhistory
      exact historyAfter_reply_ne f (s.slot v).history hhistory
    · rw [hother w hw] at hwu hwtarget
      rw [honly w hw hwtarget] at hwu
      nomatch hwu
  have htouches := decideSlot_touches v d r
  have hchecks : (decideSlot v d r).checks = s.checks := htouches.checks.trans hreported.checks
  have hsettled := settle_keepsToggles (s := decideSlot v d r) fun q => by rw [hchecks]; exact hidle q
  refine ⟨((decideSlot_keepsToggles hu d).trans hsettled).entries a hnone, ?_⟩
  refine State.status_eq_of_mirror ?_ a
  rw [(settle_requests_of_idle hidle hchecks).touches.mirror, htouches.mirror]

theorem reportAttempt_failCount (hlive : (s.entry a).live = true) (k : ReqKind) (sent f : Frame) :
    ((reportAttempt k a sent (.reply f) s).entry a).failCount = 0 := by
  have hgood := reportGood_failCount hlive
  have htoggle (g : Toggle) : ((setToggle a g (reportGood a s)).entry a).failCount = 0 := by
    rw [setToggle_entry]
    split <;> exact hgood
  rcases reportAttempt_reply_cases k a sent f s with h | ⟨g, h⟩ | h
  · rw [h]
    exact hgood
  · rw [h]
    exact htoggle g
  · rw [h, restartAcked_entry, setLastSeq_entry_eq]
    exact htoggle .zero

/-- A NAK or DATA changes no toggle (R47). -/
theorem reportAttempt_plain (h : f.kind = .nak ∨ f.kind = .data) (k : ReqKind) (a : Nat) (sent : Frame) (s : State) :
    reportAttempt k a sent (.reply f) s = reportGood a s := by
  unfold reportAttempt
  rcases h with h | h <;> simp only [h]

theorem setToggle_reportGood (hlive : (s.entry a).live = true) (g : Toggle) :
    ((setToggle a g (reportGood a s)).entry a).toggle = g := by
  rw [setToggle_entry, if_pos ⟨rfl, not_vacant_of_live ((reportGood_live a a s).trans hlive)⟩]

/-- After the ACK of a RESTART the module's records are those of one just started (R119, R138). -/
theorem restartAcked_records (hlive : (s.entry a).live = true) :
    ((restartAcked a s).entry a).toggle = .zero ∧ ((restartAcked a s).entry a).lastSeq = none
      ∧ (restartAcked a s).status a = { MirrorEntry.empty with
          changed := (s.status a).changed, watch := (s.status a).watch, lostMark := (s.status a).lostMark } := by
  have hpresent := not_vacant_of_live hlive
  have htoggle : (setToggle a .zero s).entry a = { s.entry a with toggle := .zero } := by
    rw [setToggle_entry, if_pos ⟨rfl, hpresent⟩]
  have hentry : (restartAcked a s).entry a = { s.entry a with toggle := .zero, lastSeq := none } := by
    rw [restartAcked_entry, setLastSeq_entry (by rw [htoggle]; exact hpresent), htoggle]
  have hstatus : (setLastSeq a none (setToggle a .zero s)).status a = s.status a :=
    State.status_eq_of_mirror (by rw [setLastSeq_frame, setToggle_frame]) a
  refine ⟨by rw [hentry], by rw [hentry], ?_⟩
  rw [← hstatus]
  exact State.status_setStatus_same _ (address_of_live hlive) _

/-- The records a reply to an attempt changes (R46, R47, R119). -/
theorem attempt_recorded (hactive : (s.slot v).state = .active)
    (hcode : (s.slot v).kindCode = 1 ∨ (s.slot v).kindCode = 2 ∨ (s.slot v).kindCode = 4 ∨ (s.slot v).kindCode = 5)
    (a : Nat) (sent f : Frame) :
    AnswerRecorded v a sent f s (settle (attemptOutcome v sent (.reply f) s)) := by
  intro htarget _ _ honly hlive hidle
  obtain ⟨⟨k, hkind⟩, -⟩ := kind_of_targetedCode hcode
  obtain ⟨hentry, hstatus⟩ := attempt_keepsRecords hactive hkind htarget honly hidle sent f
  have hkindOf {c : Byte} {j : ReqKind} (hc : (s.slot v).kindCode = c) (hj : ReqKind.ofCode c = some j) : k = j := by
    rw [Slot.kind, hc, hj] at hkind
    exact (Option.some.inj hkind).symm
  rw [hentry, hstatus]
  refine ⟨reportAttempt_failCount hlive k sent f, fun hplain => ?_, fun hc hack => ?_, fun hc hident => ?_,
    fun hc hack => ?_⟩
  · rw [reportAttempt_plain hplain, reportGood_entry_eq]
  · obtain rfl := hkindOf hc rfl
    simp only [reportAttempt, hack, setToggle_reportGood hlive, Toggle.ofBit]
    cases sent.control.getLsbD 0 <;> rfl
  · obtain rfl := hkindOf hc rfl
    simp only [reportAttempt, hident, setToggle_reportGood hlive]
  · obtain rfl := hkindOf hc rfl
    have hout : reportAttempt .restart a sent (.reply f) s = restartAcked a (reportGood a s) := by
      simp only [reportAttempt, hack]
    rw [hout, ← reportGood_status a a s]
    exact restartAcked_records ((reportGood_live a a s).trans hlive)

/-! ## The reply to a resynchronising PROBE (R118) -/

/-- The state in which the slot of a resynchronising PROBE is decided: the reply reported, the follow-up WRITE dropped. -/
def resynced (p : Port) (v : Tag) (f : Frame) (s : State) : State :=
  clearFollowUp p (reportProbe ((s.slot v).target.getD 0) (.reply f) s)

/-- The report of an answer to a PROBE, for any address: ACTIVE and SUSPECT modules stay so. -/
theorem reportProbe_reported (a : Nat) (f : Frame) (s : State) :
    ReplyReported s (reportProbe a (.reply f) s)
      ∧ reportProbe a (.reply f) s = { s with roster := (reportProbe a (.reply f) s).roster }
      ∧ ∀ b, ((reportProbe a (.reply f) s).entry b).hops = (s.entry b).hops := by
  have hframe : reportProbe a (.reply f) s = { s with roster := (reportProbe a (.reply f) s).roster } := by
    unfold reportProbe
    simp only
    split
    · rw [setToggle_frame, reportGood_frame]
    · exact reportGood_frame a s
  have hentry (b : Nat) : ((reportProbe a (.reply f) s).entry b).live = (s.entry b).live
      ∧ ((reportProbe a (.reply f) s).entry b).hops = (s.entry b).hops := by
    have hgood := reportGood_entry_eq a b s
    unfold reportProbe
    simp only
    split
    · refine ⟨(setToggle_live a b .zero _).trans (reportGood_live a b s), ?_⟩
      rw [setToggle_entry]
      split <;> rw [hgood]
    · exact ⟨reportGood_live a b s, by rw [hgood]⟩
  exact ⟨⟨by rw [hframe], fun b => (hentry b).1⟩, hframe, fun b => (hentry b).2⟩

theorem resynced_reported (p : Port) (v : Tag) (f : Frame) (s : State) : ReplyReported s (resynced p v f s) := by
  obtain ⟨⟨-, hlive⟩, hframe, -⟩ := reportProbe_reported ((s.slot v).target.getD 0) f s
  refine ⟨?_, hlive⟩
  unfold resynced clearFollowUp
  rw [hframe]

theorem resynced_slot (p : Port) (v : Tag) (f : Frame) (s : State) : (resynced p v f s).slot v = s.slot v := by
  obtain ⟨-, hframe, -⟩ := reportProbe_reported ((s.slot v).target.getD 0) f s
  unfold resynced clearFollowUp
  rw [hframe]
  rfl

theorem resynced_followUps (p : Port) (v : Tag) (f : Frame) (s : State) :
    (resynced p v f s).followUps = s.followUps.set p none := by
  obtain ⟨-, hframe, -⟩ := reportProbe_reported ((s.slot v).target.getD 0) f s
  unfold resynced clearFollowUp
  rw [hframe]

theorem resyncOutcome_cancelled (h : ((resynced p v f s).slot v).cancelRequested = true) :
    resyncOutcome p v (.reply f) s = completeActive v .cancelled false [] (resynced p v f s) := if_pos h

theorem resyncOutcome_mismatch (h : ((resynced p v f s).slot v).cancelRequested = false) {data : List Byte}
    (hd : decisionOf (s.entry ((s.slot v).target.getD 0)) (.reply f) = .success .identityMismatch data) :
    resyncOutcome p v (.reply f) s = completeActive v .identityMismatch false [] (resynced p v f s) := by
  refine (if_neg (ne_true_of_eq_false h)).trans ?_
  rw [hd]
  rfl

theorem resyncOutcome_matched (h : ((resynced p v f s).slot v).cancelRequested = false) {data : List Byte}
    (hd : decisionOf (s.entry ((s.slot v).target.getD 0)) (.reply f) = .success .ok data) :
    resyncOutcome p v (.reply f) s = resyncMatched p v (resynced p v f s) := by
  refine (if_neg (ne_true_of_eq_false h)).trans ?_
  rw [hd]
  rfl

theorem resyncOutcome_rejected (h : ((resynced p v f s).slot v).cancelRequested = false)
    (hd : decisionOf (s.entry ((s.slot v).target.getD 0)) (.reply f) = .rejected) :
    resyncOutcome p v (.reply f) s = completeActive v .rejected false [] (resynced p v f s) := by
  refine (if_neg (ne_true_of_eq_false h)).trans ?_
  rw [hd]
  rfl

theorem resyncOutcome_busy (h : ((resynced p v f s).slot v).cancelRequested = false)
    (hd : decisionOf (s.entry ((s.slot v).target.getD 0)) (.reply f) = .busy) :
    resyncOutcome p v (.reply f) s = busyDecision v (resynced p v f s) := by
  refine (if_neg (ne_true_of_eq_false h)).trans ?_
  rw [hd]
  rfl

theorem resyncMatched_followUps (p : Port) (v : Tag) (s : State) :
    (resyncMatched p v s).followUps = s.followUps := by
  unfold resyncMatched
  split
  · exact (completeActive_touches _ _ _ _ _).followUps
  · rfl

/-- The outcome leaves the follow-up WRITEs as the PROBE's end left them. -/
theorem resyncOutcome_followUps (p : Port) (v : Tag) (f : Frame) (s : State) :
    (resyncOutcome p v (.reply f) s).followUps = s.followUps.set p none := by
  have hkept := resynced_followUps p v f s
  have hends (st : Status) :
      (completeActive v st false [] (resynced p v f s)).followUps = s.followUps.set p none :=
    (completeActive_touches _ _ _ _ _).followUps.trans hkept
  have hwaits : (waitOrFlush v none (resynced p v f s)).followUps = s.followUps.set p none :=
    (waitOrFlush_touches _ _ _).followUps.trans hkept
  unfold resyncOutcome
  simp only
  split
  · exact hends .cancelled
  · split
    · exact hends .identityMismatch
    · exact (resyncMatched_followUps _ _ _).trans hkept
    · exact hends .rejected
    · exact (busyDecision_touches _ _).followUps.trans hkept
    · exact hwaits
    · exact hwaits

/-- The slot whose follow-up WRITE goes out (R116, R118). -/
def followUpSlot (y : Slot) : Slot :=
  { y with state := .active, attempts := y.attempts + 1, toggleUsed := some false }

/-- The follow-up WRITE with toggle 0 (R118). -/
def followUpXfer (p : Port) (v : Tag) (a : Nat) (y : Slot) (e : RosterEntry) : Xfer :=
  { frame :=
      { kind := .write, control := 0, dest := a, source := 0, register := y.register
        payload := y.writeData }
    hops := (e.hops.get p).getD 0, owner := .attempt v }

theorem setSlot_setSlot (v : Tag) (y z : Slot) (s : State) : (s.setSlot v y).setSlot v z = s.setSlot v z := by
  simp [State.setSlot]

/-- After the matching IDENT, with no census, the WRITE goes out in the same step (R118). -/
theorem resyncMatched_sends (hcensus : s.censusRunning = false) (htarget : (s.slot v).target = some a)
    (p : Port) :
    resyncMatched p v s
      = Machine.handFrame p (followUpXfer p v a (s.slot v) (s.entry a)) (s.setSlot v (followUpSlot (s.slot v))) := by
  unfold resyncMatched
  rw [if_neg (ne_true_of_eq_false hcensus)]
  unfold makeAttempt
  obtain rfl : (s.slot v).target.getD 0 = a := by rw [htarget, Option.getD_some]
  simp only [State.slot_setSlot_same, setSlot_setSlot, Option.getD_some, if_true, writeToggle]
  rfl

theorem waiting_of_active {y : Slot} (h : y.state = .active) : y.waiting = false := by
  simp [Slot.waiting, h]

/-- The WRITE sent in the step of the matching IDENT stands through what settles after it. -/
theorem resyncMatched_settles (h : ReplyReported s r) (hslot : r.slot v = s.slot v)
    (hops : (r.entry a).hops = (s.entry a).hops)
    (hcensus : s.census.state = .idle) (htarget : (s.slot v).target = some a) (p : Port) :
    (settle (resyncMatched p v r)).slot v = followUpSlot (s.slot v)
      ∧ ((settle (resyncMatched p v r)).port p).exch = .sending (followUpXfer p v a (s.slot v) (s.entry a)) := by
  have hidle : r.censusRunning = false := by
    rw [← Bool.not_eq_true, h.censusRunning]
    exact fun hne => hne hcensus
  have hsent := resyncMatched_sends hidle (by rw [hslot]; exact htarget) p
  rw [hslot] at hsent
  have hsending : (resyncMatched p v r).slot v = followUpSlot (s.slot v) := by
    rw [hsent]
    exact State.slot_setSlot_same _ _ _
  have hxfer : followUpXfer p v a (s.slot v) (r.entry a) = followUpXfer p v a (s.slot v) (s.entry a) := by
    unfold followUpXfer
    rw [hops]
  refine ⟨?_, ?_⟩
  · rw [settle_onlyWaiting _ v (waiting_of_active (by rw [hsending]; rfl)), hsending]
  · show ((settle (resyncMatched p v r)).ports.get p).exch = _
    rw [(settle_touches _).ports, hsent, hxfer]
    show ((r.ports.set p _).get p).exch = _
    rw [Pair.get_set_same]

/-- The reply to a resynchronising PROBE sends the WRITE or decides its slot (R118). -/
theorem resync_answered (hactive : (s.slot v).state = .active) (hwrite : (s.slot v).kindCode = 2)
    (hlength : f.kind.lengthOk f.payload.length = true) (p : Port) :
    ResyncAnswered p v f s (settle (resyncOutcome p v (.reply f) s)) := by
  have hreported := resynced_reported p v f s
  have hslot := resynced_slot p v f s
  have hu := unfinished_of_active hactive
  have hcode : (s.slot v).kindCode ≠ 3 := by
    rw [hwrite]
    decide
  have hhops (b : Nat) : ((resynced p v f s).entry b).hops = (s.entry b).hops :=
    (reportProbe_reported ((s.slot v).target.getD 0) f s).2.2 b
  have hends (st : Status) : Completes v
      (doneWith (s.slot v) st (effectByHistory 2 (s.slot v).history) false [] s.epoch) s
      (settle (completeActive v st false [] (resynced p v f s))) := by
    rw [← hwrite]
    exact hreported.ends hslot hu st false []
  refine ⟨?_, fun hcancel => ?_, fun a i hcancel htarget hidentity => ?_⟩
  · rw [(settle_touches _).followUps, resyncOutcome_followUps]
  · rw [resyncOutcome_cancelled (by rw [hslot]; exact hcancel)]
    exact hends .cancelled
  · have hgoes : ((resynced p v f s).slot v).cancelRequested = false := by
      rw [hslot]
      exact hcancel
    have hentry : s.entry ((s.slot v).target.getD 0) = s.entry a := by rw [htarget, Option.getD_some]
    have hident (hkind : f.kind = .ident) : decisionOf (s.entry ((s.slot v).target.getD 0)) (.reply f)
        = .success (identStatus (s.entry a) f) f.payload := by
      rw [hentry]
      simp only [decisionOf, hkind]
    have hnak (hkind : f.kind = .nak) : decisionOf (s.entry ((s.slot v).target.getD 0)) (.reply f)
        = if nakReason f = .busy then .busy else .rejected := by
      simp only [decisionOf, hkind]
    have hstatus := identStatus_eq hidentity f
    refine ⟨fun hkind hother => ?_, fun hkind hsame hcensus => ?_, fun hkind hsame hcensus => ?_,
      fun hkind hpayload => ?_, fun hkind hpayload hlimit => ?_, fun hkind hpayload hleft => ?_⟩
    · rw [if_neg hother] at hstatus
      rw [resyncOutcome_mismatch hgoes ((hident hkind).trans (by rw [hstatus]))]
      exact hends .identityMismatch
    · rw [if_pos hsame] at hstatus
      rw [resyncOutcome_matched hgoes ((hident hkind).trans (by rw [hstatus])), resyncMatched,
        if_pos (hreported.censusRunning.2 hcensus)]
      exact hends .rosterChanged
    · rw [if_pos hsame] at hstatus
      rw [resyncOutcome_matched hgoes ((hident hkind).trans (by rw [hstatus]))]
      exact resyncMatched_settles hreported hslot (hhops a) hcensus htarget p
    · rw [resyncOutcome_rejected hgoes ((hnak hkind).trans
        (if_neg fun h => hpayload ((nakReason_busy_iff hkind hlength).1 h)))]
      exact hends .rejected
    · rw [resyncOutcome_busy hgoes ((hnak hkind).trans (if_pos ((nakReason_busy_iff hkind hlength).2 hpayload))),
        busyDecision_exhausted (by rw [hslot, hreported.params]; exact hlimit)]
      exact hends .busyExhausted
    · rw [resyncOutcome_busy hgoes ((hnak hkind).trans (if_pos ((nakReason_busy_iff hkind hlength).2 hpayload)))]
      obtain ⟨hflushed, hwaits⟩ := busy_waits hreported hslot hu rfl hcode hleft
      have heffect : effectByHistory (s.slot v).kindCode (s.slot v).history
          = effectByHistory 2 (s.slot v).history := by rw [hwrite]
      rw [heffect] at hflushed
      exact ⟨hflushed, hwaits a htarget⟩

/-! ## The obligation -/

theorem afterReply_attempt (howner : x.owner = .attempt v) (p : Port) (f : Frame) (s : State) :
    afterReply p x f s = settle (attemptOutcome v x.frame (.reply f) (freed p s)) := by
  simp only [afterReply, applyOutcome, howner]

theorem afterReply_resync (howner : x.owner = .resync v) (p : Port) (f : Frame) (s : State) :
    afterReply p x f s = settle (resyncOutcome p v (.reply f) (freed p s)) := by
  simp only [afterReply, applyOutcome, howner]

theorem freed_port (p : Port) (s : State) :
    (freed p s).port p = { s.port p with exch := .idle, rx := .nothing } := Pair.get_set_same _ _ _

theorem freed_port_other (p : Port) (s : State) : (freed p s).port p.other = s.port p.other :=
  Pair.get_set_other _ _ _

/-- Whatever the owner does with a reply, the port is receiving nothing, and the other port stands. -/
theorem afterReply_port (p : Port) (x : Xfer) (f : Frame) (s : State) :
    ((afterReply p x f s).port p).rx = .nothing ∧ (afterReply p x f s).port p.other = s.port p.other := by
  have hports : (afterReply p x f s).ports = (applyOutcome p x (.reply f) (freed p s)).ports :=
    (settle_touches _).ports
  have hother := freed_port_other p s
  have hself := freed_port p s
  unfold State.port at hother hself ⊢
  rw [hports]
  rcases applyOutcome_ports p x (.reply f) (freed p s) with heq | ⟨-, z, heq⟩
  · rw [heq, hself]
    exact ⟨rfl, hother⟩
  · rw [heq, Pair.get_set_same, Pair.get_set_other]
    refine ⟨?_, hother⟩
    show ((freed p s).port p).rx = _
    rw [freed_port]

/-- Settles O41: the reply to an attempt decides its slot and is recorded, the reply to a resynchronising PROBE sends the
WRITE or decides the slot. -/
theorem acceptedReplyDecidesSlot : Obligations.AcceptedReplyDecidesSlot := by
  unfold Obligations.AcceptedReplyDecidesSlot
  intro s p x w r v bytes f hreset hrx hexch hactive hj haccepts k
  have hexec := exec_accepted hreset hrx hexch hj haccepts
  have hlength := lengthOk_of_good hj
  obtain ⟨hrest, hother⟩ := afterReply_port p x f s
  refine ⟨fun howner hcode => ?_, fun howner hwrite => ?_⟩
  · have hafter := afterReply_attempt howner p f s
    refine ⟨_, hexec, afterReply_touches p x f s, ?_, hother, ?_, fun a => ?_⟩
    · rw [← freed_port, hafter]
      unfold State.port
      rw [(settle_touches _).ports, (attemptOutcome_touches _ _ _ _).ports]
    · rw [hafter]
      exact attempt_answered (s := freed p s) hactive hcode hlength x.frame
    · rw [hafter]
      exact attempt_recorded (s := freed p s) hactive hcode a x.frame f
  · refine ⟨_, hexec, afterReply_touches p x f s, hrest, hother, ?_⟩
    rw [afterReply_resync howner p f s]
    exact resync_answered (s := freed p s) hactive hwrite hlength p

end Sys2Proof.Proofs
end

section
/-! The registers and windows as a read finds them: each place of the register map, and the bytes of each place
(R59, R137, R141, R170, R182, sections 11.3 and 11.4). -/

namespace Sys2Proof.Proofs

-- one theorem after the other: many proofs elaborated at once ask for a stack each
set_option Elab.async false

open Sys2Proof.Machine Sys2Proof.Safety

variable {s : State} {a base : RegAddr} {i k n : Nat}

/-! ## Fields of a byte -/

/-- Eight flags, each the number of its place. -/
theorem byteOfBits_flags (b0 b1 b2 b3 b4 b5 b6 b7 : Bool) :
    byteOfBits b0 b1 b2 b3 b4 b5 b6 b7
      = BitVec.ofNat 8 (flag b0 1 + flag b1 2 + flag b2 4 + flag b3 8 + flag b4 16 + flag b5 32 + flag b6 64
          + flag b7 128) := by
  revert b0 b1 b2 b3 b4 b5 b6 b7
  decide +kernel

/-- Two flags above two codes of two bits: ROSTER_STATUS and the first byte of the roster window. -/
theorem flags_over_codes (f5 f4 : Bool) (c1 c0 : BitVec 2) :
    (0#2 ++ BitVec.ofBool f5 ++ BitVec.ofBool f4 ++ c1 ++ c0 : Byte)
      = c0.setWidth 8 ||| (c1.setWidth 8 <<< 2) ||| BitVec.ofNat 8 (flag f4 16) ||| BitVec.ofNat 8 (flag f5 32) := by
  revert f5 f4 c1 c0
  decide +kernel

/-- Four flags above two codes of two bits: the first byte of the mirror window. -/
theorem fourFlags_over_codes (f7 f6 f5 f4 : Bool) (c1 c0 : BitVec 2) :
    (BitVec.ofBool f7 ++ BitVec.ofBool f6 ++ BitVec.ofBool f5 ++ BitVec.ofBool f4 ++ c1 ++ c0 : Byte)
      = c0.setWidth 8 ||| (c1.setWidth 8 <<< 2) ||| BitVec.ofNat 8 (flag f4 16) ||| BitVec.ofNat 8 (flag f5 32)
          ||| BitVec.ofNat 8 (flag f6 64) ||| BitVec.ofNat 8 (flag f7 128) := by
  revert f7 f6 f5 f4 c1 c0
  decide +kernel

/-- Two flags above a code of three bits: CENSUS_STATE. -/
theorem flags_over_code3 (f5 f4 : Bool) (c : BitVec 3) :
    (0#2 ++ BitVec.ofBool f5 ++ BitVec.ofBool f4 ++ 0#1 ++ c : Byte)
      = c.setWidth 8 ||| BitVec.ofNat 8 (flag f4 16) ||| BitVec.ofNat 8 (flag f5 32) := by
  revert f5 f4 c
  decide +kernel

theorem code2_over_code4 (c : BitVec 2) (x : BitVec 4) :
    (0#2 ++ c ++ x : Byte) = BitVec.ofNat 8 x.toNat ||| (c.setWidth 8 <<< 4) := by
  revert c x
  decide +kernel

theorem code2_above_code2 (c1 c0 : BitVec 2) :
    (0#2 ++ c1 ++ 0#2 ++ c0 : Byte) = c0.setWidth 8 ||| (c1.setWidth 8 <<< 4) := by
  revert c1 c0
  decide +kernel

theorem present_over_code6 (x : BitVec 6) : (2#2 ++ x : Byte) = 0x80 ||| BitVec.ofNat 8 x.toNat := by
  revert x
  decide +kernel

theorem present_over_code4 (x : BitVec 4) : (8#4 ++ x : Byte) = 0x80 ||| BitVec.ofNat 8 x.toNat := by
  revert x
  decide +kernel

theorem code4_over_code3 (x : BitVec 4) (y : BitVec 3) :
    (x ++ 0#1 ++ y : Byte) = BitVec.ofNat 8 y.toNat ||| BitVec.ofNat 8 (16 * x.toNat) := by
  revert x y
  decide +kernel

theorem flag_over_code4 (f : Bool) (x : BitVec 4) :
    (BitVec.ofBool f ++ 0#3 ++ x : Byte) = BitVec.ofNat 8 x.toNat ||| BitVec.ofNat 8 (flag f 128) := by
  revert f x
  decide +kernel

theorem flag_over_code2 (f : Bool) (c : BitVec 2) :
    (0#5 ++ BitVec.ofBool f ++ c : Byte) = c.setWidth 8 ||| BitVec.ofNat 8 (flag f 4) := by
  revert f c
  decide +kernel

theorem code4_over_one (x : BitVec 4) : (x ++ 1#4 : Byte) = BitVec.ofNat 8 (1 + 16 * x.toNat) := by
  revert x
  decide +kernel

/-- The four bytes of a word, put together. -/
theorem bytes_of_word (w : BitVec 32) :
    (w.extractLsb' 24 8 ++ w.extractLsb' 16 8 ++ w.extractLsb' 8 8 ++ w.extractLsb' 0 8 : BitVec 32) = w := by
  refine BitVec.eq_of_getLsbD_eq fun j hj => ?_
  simp only [BitVec.getLsbD_append, BitVec.getLsbD_extractLsb']
  split
  · next h => simp [h]
  · split
    · next h =>
      have hplace : 8 + (j - 8) = j := by omega
      simp [h, hplace]
    · split
      · next h =>
        have hplace : 16 + (j - 8 - 8) = j := by omega
        simp [h, hplace]
      · have hlast : j - 8 - 8 - 8 < 8 := by omega
        have hplace : 24 + (j - 8 - 8 - 8) = j := by omega
        simp [hlast, hplace]

/-- The low and the high byte of a count of 16 bits. -/
theorem extract_low (w : BitVec 16) : w.extractLsb' 0 8 = BitVec.ofNat 8 w.toNat := by
  refine BitVec.eq_of_toNat_eq ?_
  simp [BitVec.extractLsb'_toNat]

theorem extract_high (w : BitVec 16) : w.extractLsb' 8 8 = BitVec.ofNat 8 (w.toNat / 256) := by
  refine BitVec.eq_of_toNat_eq ?_
  simp [BitVec.extractLsb'_toNat, Nat.shiftRight_eq_div_pow]

/-! ## The codes of section 11.3 -/

theorem cmdResult_byte (r : CmdResult) : r.byte = cmdResultByte r := by
  cases r with
  | none => rfl
  | done => rfl
  | refused w => cases w <;> rfl

theorem submitResult_byte (r : SubmitResult) : r.byte = submitResultByte r := by
  cases r with
  | none => rfl
  | accepted tag =>
    have htag : (BitVec.ofNat 4 tag.val).toNat = tag.val := Nat.mod_eq_of_lt tag.isLt
    show (BitVec.ofNat 4 tag.val ++ 1#4 : Byte) = _
    rw [code4_over_one, htag]
    rfl
  | full => rfl

theorem port_stateByte (x : ChainPort) : x.stateByte = portStateByte x := by
  unfold ChainPort.stateByte portStateByte
  rw [code2_above_code2]
  congr 1
  · cases x.link <;> rfl
  · cases x.exch <;> simp [Exchange.code]

theorem rosterStatus_byte (s : State) : s.rosterStatusByte = rosterStatus s := by
  unfold State.rosterStatusByte rosterStatus
  rw [flags_over_codes]
  congr 2
  cases s.rosterState <;> cases s.ringState <;> rfl

theorem census_stateByte (c : Census) : c.stateByte = censusStateByte c := by
  unfold Census.stateByte censusStateByte
  rw [flags_over_code3]
  congr 2
  cases c.state <;> rfl

theorem resultByte_eq (r : CensusResult) (w : CensusReason) : resultByte r w = resultCode r w := by
  unfold resultByte resultCode
  cases r <;> cases w <;> rfl

theorem census_stopByte (c : Census) : c.stopByte = stopPendingByte c.stopPending := by
  unfold Census.stopByte
  cases c.stopPending with
  | none => rfl
  | some x =>
    cases x with
    | aborted => exact resultByte_eq _ _
    | failed w => exact resultByte_eq _ _

theorem check_stateByte (c : Check) : c.stateByte = checkStateByte c := by
  unfold Check.stateByte checkStateByte
  cases c.state <;> cases c.result <;> rfl

/-! ## The causes (R177, R179) -/

theorem byteOfBits_and (b0 b1 b2 b3 b4 b5 b6 b7 c0 c1 c2 c3 c4 c5 c6 c7 : Bool) :
    byteOfBits b0 b1 b2 b3 b4 b5 b6 b7 &&& byteOfBits c0 c1 c2 c3 c4 c5 c6 c7
      = byteOfBits (b0 && c0) (b1 && c1) (b2 && c2) (b3 && c3) (b4 && c4) (b5 && c5) (b6 && c6) (b7 && c7) := by
  refine byte_ext ?_ ?_ ?_ ?_ ?_ ?_ ?_ ?_ <;>
    simp only [BitVec.getLsbD_and, byteOfBits_bit0, byteOfBits_bit1, byteOfBits_bit2, byteOfBits_bit3,
      byteOfBits_bit4, byteOfBits_bit5, byteOfBits_bit6, byteOfBits_bit7]

/-- The groups of the causes of CAUSE0. -/
theorem groups_of_cause0 (b0 b1 b2 b3 b4 b5 b6 b7 : Bool) :
    let c := byteOfBits b0 b1 b2 b3 b4 b5 b6 b7
    (c &&& 0x01 != 0) = b0 ∧ (c &&& 0x06 != 0) = (b1 || b2) ∧ (c &&& 0x18 != 0) = (b3 || b4)
      ∧ (c &&& 0xE0 != 0) = (b5 || b6 || b7) := by
  revert b0 b1 b2 b3 b4 b5 b6 b7
  decide +kernel

/-- The groups of the causes of CAUSE1. -/
theorem groups_of_cause1 (b0 b1 b2 : Bool) :
    let c := byteOfBits b0 b1 b2 false false false false false
    (c &&& 0x01 != 0) = b0 ∧ (c &&& 0x06 != 0) = (b1 || b2) := by
  revert b0 b1 b2
  decide +kernel

theorem groupSummary_byte (s : State) :
    s.groupSummary = groupByte (s.causeByte .zero &&& s.enables.byte .zero)
      (s.causeByte .one &&& s.enables.byte .one) := by
  have h0 := groups_of_cause0 (s.completionReady && s.enables.completionReady)
    (s.noticePending && s.enables.noticePending) (s.sticky.noticeBacklog && s.enables.noticeBacklog)
    (s.changeSetNonempty && s.enables.mirrorChange) (s.sticky.moduleStale && s.enables.moduleStale)
    (s.sticky.portChange && s.enables.portChange) (s.sticky.reachDone && s.enables.reachDone)
    (s.sticky.moduleLost && s.enables.moduleLost)
  have h1 := groups_of_cause1 (s.sticky.cmdError && s.enables.cmdError)
    (s.sticky.censusDone && s.enables.censusDone) (s.sticky.lockHeld && s.enables.lockHeld)
  obtain ⟨htraffic, hnotice, hmirror, hchain⟩ := h0
  obtain ⟨herror, hcensus⟩ := h1
  unfold groupByte State.causeByte EnableBits.byte
  simp only [byteOfBits_and, Bool.and_self]
  rw [htraffic, hnotice, hmirror, hchain, herror, hcensus]
  unfold State.groupSummary
  rw [byteOfBits_flags]
  rfl

/-! ## The windows (section 11.4) -/

theorem padTo_eq (n : Nat) (l : List Byte) : padTo n l = (l ++ List.replicate n 0).take n := by
  rw [padTo, List.take_append, List.take_replicate, Nat.min_eq_left (Nat.sub_le _ _)]

theorem presentByte_eq (h : Option Nat) :
    presentByte h = match h with | none => 0 | some n => 0x80 ||| BitVec.ofNat 8 (n % 64) := by
  cases h with
  | none => rfl
  | some n => exact present_over_code6 (BitVec.ofNat 6 n)

theorem rosterEntry_firstByte (e : RosterEntry) :
    e.firstByte = (match e.state with | .vacant => 0 | .active => 1 | .suspect => 2 | .lost => 3)
      ||| (match e.route with | none => 0 | some .a => 4 | some .b => 8)
      ||| BitVec.ofNat 8 (flag e.lostMark 16) ||| BitVec.ofNat 8 (flag e.identity.isSome 32) := by
  unfold RosterEntry.firstByte
  simp only
  rw [flags_over_codes]
  congr 3
  · cases e.state <;> rfl
  · cases e.route with
    | none => rfl
    | some p => cases p <;> rfl

theorem rosterEntry_countByte (e : RosterEntry) :
    e.countByte = BitVec.ofNat 8 (e.failCount % 16)
      ||| (match e.toggle with | .zero => 0 | .one => 0x10 | .unsure => 0x20) := by
  unfold RosterEntry.countByte
  simp only
  rw [code2_over_code4]
  congr 1
  cases e.toggle <;> rfl

theorem rosterEntry_seqByte (e : RosterEntry) :
    e.seqByte = match e.lastSeq with | none => 0 | some q => 0x80 ||| BitVec.ofNat 8 q.toNat := by
  unfold RosterEntry.seqByte
  cases e.lastSeq with
  | none => rfl
  | some q => exact present_over_code4 q

/-- The roster window of an entry (R59). -/
theorem rosterWindow_eq (e : RosterEntry) : e.window = rosterBytes e := by
  unfold RosterEntry.window rosterBytes
  rw [rosterEntry_firstByte, rosterEntry_countByte, rosterEntry_seqByte, presentByte_eq, presentByte_eq]
  cases e.identity <;> rfl

theorem mirrorEntry_firstByte (m : MirrorEntry) :
    m.firstByte = (match m.state with | .empty => 0 | .fresh => 1 | .stale => 2)
      ||| (match m.health with | .ok => 0 | .warn => 4 | .fault => 8)
      ||| BitVec.ofNat 8 (flag m.watch 16) ||| BitVec.ofNat 8 (flag m.changed 32)
      ||| BitVec.ofNat 8 (flag m.lostMark 64) ||| BitVec.ofNat 8 (flag m.fetchWanted 128) := by
  unfold MirrorEntry.firstByte
  simp only
  rw [fourFlags_over_codes]
  congr 5
  · cases m.state <;> rfl
  · cases m.health <;> rfl

/-- The mirror window of an entry (R137). -/
theorem mirrorWindow_eq (m : MirrorEntry) : m.window = mirrorBytes m := by
  have hcounts : (BitVec.ofNat 4 m.missCount ++ 0#1 ++ BitVec.ofNat 3 m.pendingCount : Byte)
      = BitVec.ofNat 8 (m.pendingCount % 8) ||| BitVec.ofNat 8 (16 * (m.missCount % 16)) :=
    code4_over_code3 _ _
  unfold MirrorEntry.window mirrorBytes
  rw [mirrorEntry_firstByte, hcounts]
  congr 1
  cases m.record with
  | none => rfl
  | some r =>
    simp only [padTo_eq, present_over_code4]
    rfl

theorem status_code (st : Status) : st.code = statusCode st := by cases st <;> rfl

/-- The completion record of a slot (R93). -/
theorem completionRecord_eq (n : Nat) (tag : Tag) (x : Slot) (c : Completion) :
    completionRecord n tag x c = completionBytes n tag x c := by
  have heffect : (0#5 ++ BitVec.ofBool c.lateCancel ++ c.effect.code : Byte)
      = (match c.effect with | .notApplied => 0 | .applied => 1 | .unknown => 2)
        ||| BitVec.ofNat 8 (flag c.lateCancel 4) := by
    rw [flag_over_code2]
    congr 1
    cases c.effect <;> rfl
  unfold completionRecord completionBytes
  rw [heffect, padTo_eq, status_code]
  rfl

/-- The notice record at the head (R141). -/
theorem noticeBytes_eq (n : Nat) (r : NoticeRecord) : noticeBytes n r = noticeHeadBytes n r := by
  unfold noticeBytes noticeHeadBytes
  rw [flag_over_code4, padTo_eq, extract_low, extract_high]
  rfl

/-! ## Places of the windows -/

theorem regRead_window (h : 0x0100 ≤ a.toNat) : s.regRead a = s.readWindow a.toNat := by
  unfold State.regRead
  simp only
  rw [if_neg (by omega), if_neg (by omega), if_neg (by omega), if_neg (by omega), if_neg (by omega),
    if_neg (by omega), if_neg (by omega), if_neg (by omega), if_neg (by omega), if_neg (by omega)]

theorem regRead_rosterWindow (ha : a.toNat = 0x0101 + i) (hi : i < 63) :
    s.regRead a = payloadByte s.rosterWindow.window i := by
  rw [regRead_window (by omega), ha, State.readWindow, if_neg (by omega), if_pos (by omega),
    Nat.add_sub_cancel_left]

theorem regRead_mirrorWindow (ha : a.toNat = 0x0142 + i) (hi : i < 62) :
    s.regRead a = payloadByte s.mirrorWindow.window i := by
  rw [regRead_window (by omega), ha, State.readWindow, if_neg (by omega), if_neg (by omega), if_neg (by omega),
    if_neg (by omega), if_pos (by omega), Nat.add_sub_cancel_left]

theorem regRead_completionWindow (ha : a.toNat = 0x0180 + i) (hi : i < 64) :
    s.regRead a = payloadByte s.completionWindow i := by
  rw [regRead_window (by omega), ha, State.readWindow, if_neg (by omega), if_neg (by omega), if_neg (by omega),
    if_neg (by omega), if_neg (by omega), if_pos (by omega), Nat.add_sub_cancel_left]

theorem regRead_noticeWindow (ha : a.toNat = 0x01C0 + i) : s.regRead a = payloadByte s.noticeWindow i := by
  rw [regRead_window (by omega), ha, State.readWindow, if_neg (by omega), if_neg (by omega), if_neg (by omega),
    if_neg (by omega), if_neg (by omega), if_neg (by omega), Nat.add_sub_cancel_left]

/-- A block of registers shows some bytes where each of its registers reads its byte. -/
theorem showsBytes_of_read {l : List Byte} (hfits : base.toNat + n ≤ 2 ^ 15)
    (h : ∀ i (a : RegAddr), i < n → a.toNat = base.toNat + i → s.regRead a = payloadByte l i) :
    ShowsBytes s base n l := by
  intro i hi
  refine h i _ hi ?_
  rw [BitVec.toNat_add, BitVec.toNat_ofNat, Nat.mod_eq_of_lt (a := i) (by omega), Nat.mod_eq_of_lt (by omega)]

theorem regRead_mailbox (ha : a.toNat = 0x0080 + i) (hi : i < 0x0080) : s.regRead a = s.mailbox.read i := by
  unfold State.regRead
  simp only
  rw [ha]
  rw [if_neg (by omega), if_neg (by omega), if_neg (by omega), if_neg (by omega), if_neg (by omega),
    if_neg (by omega), if_neg (by omega), if_neg (by omega), if_neg (by omega), if_pos (by omega),
    Nat.add_sub_cancel_left]

/-- Bytes that follow zeros. -/
theorem payloadByte_zeros (k n : Nat) (l : List Byte) :
    payloadByte (List.replicate k 0 ++ l) n = if n < k then 0 else payloadByte l (n - k) := by
  unfold payloadByte
  split
  · next h => simp [List.getD_eq_getElem?_getD, List.getElem?_append_left, h]
  · next h => simp [List.getD_eq_getElem?_getD, List.getElem?_append_right, Nat.le_of_not_lt h]

/-- Beyond its four single registers the mailbox reads zeros, then MBX_DATA. -/
theorem mailbox_read_data (m : Mailbox) (h : 4 ≤ n) :
    m.read n = if n < 32 then 0 else payloadByte m.data.toList (n - 32) := by
  rw [← payloadByte_zeros]
  unfold Mailbox.read
  split
  · omega
  · omega
  · omega
  · omega
  · rfl

/-! ## Addresses with no register (R182) -/

theorem payloadByte_beyond {l : List Byte} (h : l.length ≤ i) : payloadByte l i = 0 := by
  unfold payloadByte
  rw [List.getD_eq_default _ _ h]

theorem readCommand_none (h : (3 ≤ n ∧ n ≤ 7) ∨ (0x0C ≤ n ∧ n ≤ 0x0F) ∨ 0x15 ≤ n) : s.readCommand n = 0 := by
  unfold State.readCommand
  split
  all_goals try omega
  rfl

theorem bytes32_length (w : BitVec 32) : (bytes32 w).length = 4 := rfl

/-- Beyond its single parameters the block reads zeros, then EXPECTED_FP. -/
theorem readParam_default (h : (0x0A ≤ n ∧ n ≤ 0x0F) ∨ 0x12 ≤ n) :
    s.readParam n = if n < 12 then 0 else payloadByte (bytes32 s.params.expectedFp) (n - 12) := by
  rw [← payloadByte_zeros]
  unfold State.readParam
  split
  all_goals try omega
  rfl

theorem readParam_none (h : n = 0x0A ∨ n = 0x0B ∨ 0x12 ≤ n) : s.readParam n = 0 := by
  rw [readParam_default (by omega)]
  split
  · rfl
  · refine payloadByte_beyond ?_
    rw [bytes32_length]
    omega

theorem port_read_none (x : ChainPort) (h : 7 ≤ n) : x.read n = 0 := by
  unfold ChainPort.read
  split
  all_goals try omega
  rfl

theorem readCensus_none (h : 0x0E ≤ n) : s.readCensus n = 0 := by
  unfold State.readCensus
  split
  all_goals try omega
  rw [payloadByte_zeros, if_neg (by omega)]
  exact payloadByte_beyond (by rw [bytes32_length]; omega)

theorem check_read_none (c : Check) (h : 5 ≤ n) : c.read n = 0 := by
  unfold Check.read
  split
  all_goals try omega
  rfl

theorem mailbox_read_none (m : Mailbox) (h : (4 ≤ n ∧ n < 32) ∨ 64 ≤ n) : m.read n = 0 := by
  rw [mailbox_read_data m (by omega)]
  split
  · rfl
  · refine payloadByte_beyond ?_
    rw [Vector.length_toList]
    omega

theorem rosterWindow_length (e : RosterEntry) : e.window.length = 19 := by
  unfold RosterEntry.window
  cases e.identity <;> rfl

theorem padTo_length (n : Nat) (l : List Byte) : (padTo n l).length = n := by
  rw [padTo_eq, List.length_take, List.length_append, List.length_replicate]
  omega

theorem mirrorWindow_length (m : MirrorEntry) : m.window.length = 22 := by
  unfold MirrorEntry.window
  cases m.record with
  | none => rfl
  | some r => simp [padTo_length]

theorem noticeWindow_length (s : State) : s.noticeWindow.length ≤ 16 := by
  unfold State.noticeWindow
  split
  · exact Nat.zero_le _
  · simp [noticeBytes, padTo_length]

theorem readWindow_none (h : (0x0114 ≤ n ∧ n ≤ 0x013F) ∨ (0x0158 ≤ n ∧ n ≤ 0x017F) ∨ 0x01D0 ≤ n) :
    s.readWindow n = 0 := by
  unfold State.readWindow
  rw [if_neg (by omega)]
  rcases h with h | h | h
  · rw [if_pos (by omega)]
    exact payloadByte_beyond (by rw [rosterWindow_length]; omega)
  · rw [if_neg (by omega), if_neg (by omega), if_neg (by omega), if_pos (by omega)]
    exact payloadByte_beyond (by rw [mirrorWindow_length]; omega)
  · rw [if_neg (by omega), if_neg (by omega), if_neg (by omega), if_neg (by omega), if_neg (by omega)]
    exact payloadByte_beyond (by have := noticeWindow_length s; omega)

/-- An address that section 11.3 lists no register at reads 0. -/
theorem regRead_noRegister (h : noRegister a) : s.regRead a = 0 := by
  unfold noRegister at h
  simp only at h
  unfold State.regRead
  simp only
  generalize a.toNat = n at h ⊢
  split
  · exact readCommand_none (by omega)
  split
  · exact readParam_none (by omega)
  split
  · exact port_read_none _ (by omega)
  split
  · exact port_read_none _ (by omega)
  split
  · exact readCensus_none (by omega)
  split
  · exact check_read_none _ (by omega)
  split
  · exact check_read_none _ (by omega)
  split
  · omega
  split
  · rfl
  split
  · exact mailbox_read_none _ (by omega)
  · exact readWindow_none (by omega)

/-! ## The register map -/

/-- A byte written to CHIP_ID or CHIP_REV is ignored (R176). -/
theorem exec_registerWrite_chip (ha : a.toNat ≤ 2) (v : Byte) (hat : WritingAt s a) :
    exec (.registerWrite a v) s = .next { s with addrCounter := a + 1 } := by
  have hcases : a = 0 ∨ a = 1 ∨ a = 2 := by
    have h : a.toNat = 0 ∨ a.toNat = 1 ∨ a.toNat = 2 := by omega
    exact h.imp BitVec.eq_of_toNat_eq (Or.imp BitVec.eq_of_toNat_eq BitVec.eq_of_toNat_eq)
  rw [exec_registerWrite hat]
  rcases hcases with rfl | rfl | rfl <;> rfl

/-- The registers of the causes, their enables and their groups. -/
theorem regRead_causes (s : State) :
    s.regRead 0x0010 = BitVec.ofNat 8
          (flag (!s.completionQueue.isEmpty) 1 + flag (!s.notices.isEmpty) 2
            + flag s.sticky.noticeBacklog 4 + flag (s.mirror.toList.any (·.changed)) 8
            + flag s.sticky.moduleStale 16 + flag s.sticky.portChange 32
            + flag s.sticky.reachDone 64 + flag s.sticky.moduleLost 128)
      ∧ s.regRead 0x0011 = BitVec.ofNat 8
          (flag s.sticky.cmdError 1 + flag s.sticky.censusDone 2 + flag s.sticky.lockHeld 4)
      ∧ s.regRead 0x0012 = s.enables.byte .zero ∧ s.regRead 0x0013 = s.enables.byte .one
      ∧ s.regRead 0x0014 = groupByte (s.regRead 0x0010 &&& s.regRead 0x0012)
          (s.regRead 0x0011 &&& s.regRead 0x0013) :=
  ⟨byteOfBits_flags _ _ _ _ _ _ _ _, byteOfBits_flags _ _ _ _ _ _ _ _, rfl, rfl, groupSummary_byte s⟩

/-- The registers of a port and of its reach check. -/
theorem regRead_port (s : State) (p : Port) :
    let base : RegAddr := match p with | .a => 0x0040 | .b => 0x0048
    let check : RegAddr := match p with | .a => 0x0060 | .b => 0x0068
    s.regRead base = portStateByte (s.port p)
      ∧ s.regRead (base + 1) = BitVec.ofNat 8 (s.port p).crcErrors
      ∧ s.regRead (base + 2) = BitVec.ofNat 8 (s.port p).symbolErrors
      ∧ s.regRead (base + 3) = BitVec.ofNat 8 (s.port p).timeouts
      ∧ s.regRead (base + 4) = (s.port p).timeoutsHold
      ∧ s.regRead (base + 5) = BitVec.ofNat 8 (s.port p).lateReplies
      ∧ s.regRead (base + 6) = BitVec.ofNat 8 (s.port p).strayReplies
      ∧ s.regRead check = checkStateByte (s.checks.get p)
      ∧ s.regRead (check + 1) = BitVec.ofNat 8 (s.checks.get p).trigger
      ∧ s.regRead (check + 2) = BitVec.ofNat 8 (s.checks.get p).breakLocation
      ∧ s.regRead (check + 3) = BitVec.ofNat 8 (s.checks.get p).rerouted
      ∧ s.regRead (check + 4) = BitVec.ofNat 8 (s.checks.get p).lost := by
  cases p with
  | a => exact ⟨port_stateByte _, rfl, rfl, rfl, rfl, rfl, rfl, check_stateByte _, rfl, rfl, rfl, rfl⟩
  | b => exact ⟨port_stateByte _, rfl, rfl, rfl, rfl, rfl, rfl, check_stateByte _, rfl, rfl, rfl, rfl⟩

/-- The four single registers of the mailbox (R88). -/
theorem regRead_mailbox_registers (s : State) :
    s.regRead 0x0080 = s.mailbox.kind ∧ s.regRead 0x0081 = s.mailbox.target
      ∧ s.regRead 0x0082 = s.mailbox.register ∧ s.regRead 0x0083 = s.mailbox.length :=
  ⟨regRead_mailbox (i := 0) rfl (by decide), regRead_mailbox (i := 1) rfl (by decide),
    regRead_mailbox (i := 2) rfl (by decide), regRead_mailbox (i := 3) rfl (by decide)⟩

/-- The selects and the windows (R59, R93, R96, R137, R141, R142). -/
theorem regRead_windows (s : State) :
    s.regRead 0x0100 = s.rosterSel
      ∧ ShowsBytes s 0x0101 19 (rosterBytes s.rosterWindow)
      ∧ s.regRead 0x0140 = s.mirrorSel ∧ s.regRead 0x0141 = 0
      ∧ ShowsBytes s 0x0142 22 (mirrorBytes s.mirrorWindow)
      ∧ (s.completionQueue = [] → ShowsBytes s 0x0180 64 [])
      ∧ (∀ tag rest c, s.completionQueue = tag :: rest → (s.slot tag).outcome = some c →
          ShowsBytes s 0x0180 64 (completionBytes s.completionQueue.length tag (s.slot tag) c))
      ∧ (s.notices = [] → ShowsBytes s 0x01C0 16 [])
      ∧ ∀ r rest, s.notices = r :: rest → ShowsBytes s 0x01C0 16 (noticeHeadBytes s.notices.length r) := by
  have hcompletion {l : List Byte} (h : s.completionWindow = l) : ShowsBytes s 0x0180 64 l :=
    showsBytes_of_read (by decide) fun i a hi ha => h ▸ regRead_completionWindow ha hi
  have hnotice {l : List Byte} (h : s.noticeWindow = l) : ShowsBytes s 0x01C0 16 l :=
    showsBytes_of_read (by decide) fun i a _ ha => h ▸ regRead_noticeWindow ha
  refine ⟨rfl, ?_, rfl, rfl, ?_, fun h => hcompletion ?_, fun tag rest c h hc => hcompletion ?_,
    fun h => hnotice ?_, fun r rest h => hnotice ?_⟩
  · rw [← rosterWindow_eq]
    exact showsBytes_of_read (by decide) fun i a hi ha => regRead_rosterWindow ha (by omega)
  · rw [← mirrorWindow_eq]
    exact showsBytes_of_read (by decide) fun i a hi ha => regRead_mirrorWindow ha (by omega)
  · simp [State.completionWindow, h]
  · rw [← completionRecord_eq]
    simp [State.completionWindow, h, hc]
  · simp [State.noticeWindow, h]
  · rw [← noticeBytes_eq]
    simp [State.noticeWindow, h]

/-- Settles O25: the register map place by place. -/
theorem registersReadTheState : Obligations.RegistersReadTheState := by
  unfold Obligations.RegistersReadTheState
  intro s
  obtain ⟨hkind, htarget, hregister, hlength⟩ := regRead_mailbox_registers s
  refine ⟨rfl, rfl, rfl, fun a v ha hat => exec_registerWrite_chip ha v hat,
    ⟨rfl, cmdResult_byte _, submitResult_byte _, rfl, regRead_causes s⟩,
    ⟨?_, rfl, rfl, rfl, rfl, rfl, rfl, rfl, rfl, rfl, bytes_of_word _, extract_low _, rfl⟩,
    ⟨hkind, htarget, hregister, hlength, ?_⟩, regRead_port s,
    ⟨rosterStatus_byte s, rfl, rfl, rfl, bytes_of_word _, census_stateByte _, resultByte_eq _ _, rfl, rfl, rfl,
      census_stopByte _, rfl⟩, regRead_windows s, fun a h => regRead_noRegister h⟩
  · exact byteOfBits_flags _ _ _ _ _ _ _ _
  · refine showsBytes_of_read (by decide) fun i a hi ha => ?_
    have hbase : a.toNat = 0x00A0 + i := ha
    rw [regRead_mailbox (i := 32 + i) (by omega) (by omega), mailbox_read_data _ (by omega), if_neg (by omega),
      Nat.add_sub_cancel_left]

end Sys2Proof.Proofs
end

section
/-! Registers that only keep a byte: CANCEL_TAG, EXPECTED_FP and the mailbox (R58, R88, R98, R170). Such a write
changes one register and no other. -/

namespace Sys2Proof.Proofs

-- one theorem after the other: many proofs elaborated at once ask for a stack each
set_option Elab.async false

open Sys2Proof.Machine Sys2Proof.Safety

variable {s : State} {a b : RegAddr} {i j n : Nat}

/-- The registers that keep the byte written: CANCEL_TAG, the four mailbox registers, MBX_DATA, EXPECTED_FP. -/
def KeepsByte (a : RegAddr) : Prop :=
  a = 0x000B ∨ (0x0080 ≤ a.toNat ∧ a.toNat ≤ 0x0083) ∨ (0x00A0 ≤ a.toNat ∧ a.toNat ≤ 0x00BF)
    ∨ (0x002C ≤ a.toNat ∧ a.toNat ≤ 0x002F)

theorem KeepsByte.toNat_cases (h : KeepsByte a) :
    a.toNat = 0x000B ∨ (0x0080 ≤ a.toNat ∧ a.toNat ≤ 0x0083) ∨ (0x00A0 ≤ a.toNat ∧ a.toNat ≤ 0x00BF)
      ∨ (0x002C ≤ a.toNat ∧ a.toNat ≤ 0x002F) :=
  h.imp_left (congrArg BitVec.toNat)

/-- A state after such a write: the address counter, the mailbox, CANCEL_TAG and EXPECTED_FP may differ. -/
def withKept (s : State) (c : RegAddr) (m : Mailbox) (tag : Byte) (fp : BitVec 32) : State :=
  { s with addrCounter := c, mailbox := m, cancelTag := tag, params := { s.params with expectedFp := fp } }

/-! ## What the registers read -/

theorem readCommand_withKept (c : RegAddr) (m : Mailbox) (tag : Byte) (fp : BitVec 32) (h : n ≠ 0x0B) :
    (withKept s c m tag fp).readCommand n = s.readCommand n := by
  unfold State.readCommand
  split
  case h_7 => exact absurd rfl h
  all_goals rfl

theorem readParam_withKept (c : RegAddr) (m : Mailbox) (tag : Byte) (fp : BitVec 32) (h : n < 12 ∨ 16 ≤ n) :
    (withKept s c m tag fp).readParam n = s.readParam n := by
  by_cases hzero : (0x0A ≤ n ∧ n ≤ 0x0B) ∨ 0x12 ≤ n
  · rw [readParam_none (by omega), readParam_none (by omega)]
  · have hplace : n < 10 ∨ n = 0x10 ∨ n = 0x11 := by omega
    rcases hplace with hlow | rfl | rfl
    · interval_cases n <;> rfl
    · rfl
    · rfl

/-- Two states whose blocks read the same at a register. -/
theorem regRead_congr {t : State} (hcommand : b.toNat < 0x0020 → t.readCommand b.toNat = s.readCommand b.toNat)
    (hparam : b.toNat < 0x0040 → t.readParam (b.toNat - 0x0020) = s.readParam (b.toNat - 0x0020))
    (hports : t.ports = s.ports) (hcensus : t.readCensus = s.readCensus) (hchecks : t.checks = s.checks)
    (hdup : t.dupNotices = s.dupNotices)
    (hmailbox : 0x0080 ≤ b.toNat → b.toNat < 0x0100 →
      t.mailbox.read (b.toNat - 0x0080) = s.mailbox.read (b.toNat - 0x0080))
    (hwindow : t.readWindow = s.readWindow) : t.regRead b = s.regRead b := by
  simp only [State.regRead, hports, hcensus, hchecks, hdup, hwindow]
  split
  · next h => exact hcommand h
  split
  · next h => rw [hparam h]
  by_cases hlow : b.toNat < 0x0080
  · simp only [hlow, if_true]
  · by_cases hhigh : b.toNat < 0x0100
    · rw [hmailbox (by omega) hhigh]
    · simp only [hhigh, if_false]

/-- Every register of the state, each of the kept ones by its own field. -/
theorem regRead_withKept (s : State) (c : RegAddr) (m : Mailbox) (tag : Byte) (fp : BitVec 32) (b : RegAddr) :
    (withKept s c m tag fp).regRead b
      = if b.toNat = 0x000B then tag
        else if 0x002C ≤ b.toNat ∧ b.toNat ≤ 0x002F then payloadByte (bytes32 fp) (b.toNat - 0x002C)
        else if 0x0080 ≤ b.toNat ∧ b.toNat < 0x0100 then m.read (b.toNat - 0x0080)
        else s.regRead b := by
  split
  · next h =>
    obtain rfl : b = 0x000B := BitVec.eq_of_toNat_eq h
    rfl
  next hcommand =>
  split
  · next h =>
    have hread : (withKept s c m tag fp).regRead b = (withKept s c m tag fp).readParam (b.toNat - 0x0020) := by
      unfold State.regRead
      rw [if_neg (by omega), if_pos (by omega)]
    rw [hread, readParam_default (by omega), if_neg (by omega), Nat.sub_sub]
    rfl
  next hparam =>
  split
  · next h => exact regRead_mailbox (s := withKept s c m tag fp) (by omega) (by omega)
  next hmailbox =>
  exact regRead_congr (fun _ => readCommand_withKept c m tag fp hcommand)
    (fun h => readParam_withKept c m tag fp (by omega)) rfl rfl rfl rfl
    (fun hlow hhigh => absurd ⟨hlow, hhigh⟩ hmailbox) rfl

/-! ## What a write keeps -/

/-- A byte of a word after `replaceByte`. -/
theorem extractLsb'_replaceByte (w : BitVec 32) (v : Byte) (hj : j < 4) :
    (replaceByte w i v).extractLsb' (8 * j) 8 = if i = j then v else w.extractLsb' (8 * j) 8 := by
  have hmask (k : Nat) : (0xFF : BitVec 32).getLsbD k = decide (k < 8) := Nat.testBit_two_pow_sub_one 8 k
  refine BitVec.eq_of_getLsbD_eq fun k hk => ?_
  rw [apply_ite (fun w : Byte => w.getLsbD k)]
  unfold replaceByte
  generalize (0xFF : BitVec 32) = mask at hmask ⊢
  simp only [BitVec.getLsbD_extractLsb', BitVec.getLsbD_or, BitVec.getLsbD_and, BitVec.getLsbD_not,
    BitVec.getLsbD_shiftLeft, BitVec.getLsbD_setWidth, hmask]
  have hword : 8 * j + k < 32 := by omega
  simp only [hk, hword, decide_true, Bool.true_and]
  by_cases hij : i = j
  · subst hij
    have hnot : ¬ 8 * i + k < 8 * i := by omega
    rw [if_pos rfl, Nat.add_sub_cancel_left]
    simp [hnot, hk, show k < 32 by omega]
  · rw [if_neg hij]
    by_cases hlt : 8 * j + k < 8 * i
    · simp [hlt]
    · have hout : ¬ 8 * j + k - 8 * i < 8 := by omega
      rw [BitVec.getLsbD_of_ge v _ (by omega)]
      simp [hout]

/-- A byte of EXPECTED_FP by its place. -/
theorem payloadByte_bytes32 (w : BitVec 32) (hj : j < 4) :
    payloadByte (bytes32 w) j = w.extractLsb' (8 * j) 8 := by
  match j with
  | 0 | 1 | 2 | 3 => rfl

theorem payloadByte_replaceByte (w : BitVec 32) (v : Byte) (hj : j < 4) :
    payloadByte (bytes32 (replaceByte w i v)) j = if i = j then v else payloadByte (bytes32 w) j := by
  rw [payloadByte_bytes32 _ hj, payloadByte_bytes32 _ hj, extractLsb'_replaceByte w v hj]

/-- Of the parameters such a write changes EXPECTED_FP alone. -/
theorem params_write_keepsByte (h : KeepsByte a) (q : Params) (v : Byte) :
    q.write a v = { q with
      expectedFp := if 0x002C ≤ a.toNat ∧ a.toNat ≤ 0x002F then replaceByte q.expectedFp (a.toNat - 0x002C) v
        else q.expectedFp } := by
  by_cases hfp : 0x002C ≤ a.toNat ∧ a.toNat ≤ 0x002F
  · have hcases : a = 0x002C ∨ a = 0x002D ∨ a = 0x002E ∨ a = 0x002F := by
      have hnat : a.toNat = 0x002C ∨ a.toNat = 0x002D ∨ a.toNat = 0x002E ∨ a.toNat = 0x002F := by omega
      exact hnat.imp BitVec.eq_of_toNat_eq
        (Or.imp BitVec.eq_of_toNat_eq (Or.imp BitVec.eq_of_toNat_eq BitVec.eq_of_toNat_eq))
    rcases hcases with rfl | rfl | rfl | rfl <;> rfl
  · have hne (c : RegAddr) (hc : 0x0023 ≤ c.toNat ∧ c.toNat ≤ 0x002F) : a ≠ c := by
      rintro rfl
      have := h.toNat_cases
      omega
    unfold Params.write
    simp only
    rw [if_neg hfp, if_neg (hne _ (by decide)), if_neg (hne _ (by decide)), if_neg (hne _ (by decide)),
      if_neg (hne _ (by decide)), if_neg (hne _ (by decide)), if_neg (hne _ (by decide)), if_neg (hne _ (by decide)),
      if_neg (hne _ (by decide)), if_neg (hne _ (by decide)), if_neg (hne _ (by decide)), if_neg (hne _ (by decide))]

/-- A byte of EXPECTED_FP after such a write. -/
theorem expectedFp_write (h : KeepsByte a) (q : Params) (v : Byte) (hj : j < 4) :
    payloadByte (bytes32 (q.write a v).expectedFp) j
      = if a.toNat = 0x002C + j then v else payloadByte (bytes32 q.expectedFp) j := by
  rw [params_write_keepsByte h]
  by_cases hfp : 0x002C ≤ a.toNat ∧ a.toNat ≤ 0x002F
  · simp only [if_pos hfp]
    rw [payloadByte_replaceByte _ _ hj]
    exact if_congr (by omega) rfl rfl
  · simp only [if_neg hfp]
    rw [if_neg (by omega)]

theorem mailbox_write_data (h : 0x00A0 ≤ a.toNat ∧ a.toNat ≤ 0x00BF) (m : Mailbox) (v : Byte) :
    m.write a v = { m with data := m.data.set (a.toNat - 0x00A0) v (by omega) } := by
  have hne (c : RegAddr) (hc : c.toNat ≤ 0x0083) : a ≠ c := by
    rintro rfl
    omega
  have hindex : mbxDataIndex a = some ⟨a.toNat - 0x00A0, by omega⟩ := dif_pos ⟨h.1, by change _ - 0x00A0 < 32; omega⟩
  unfold Mailbox.write
  rw [if_neg (hne _ (by decide)), if_neg (hne _ (by decide)), if_neg (hne _ (by decide)), if_neg (hne _ (by decide)),
    hindex]

theorem mailbox_write_elsewhere (h : a.toNat < 0x0080) (m : Mailbox) (v : Byte) : m.write a v = m := by
  have hne (c : RegAddr) (hc : 0x0080 ≤ c.toNat) : a ≠ c := by
    rintro rfl
    omega
  have hindex : mbxDataIndex a = none := dif_neg fun hin => by
    have : 0x00A0 ≤ a.toNat := hin.1
    omega
  unfold Mailbox.write
  rw [if_neg (hne _ (by decide)), if_neg (hne _ (by decide)), if_neg (hne _ (by decide)), if_neg (hne _ (by decide)),
    hindex]

/-- A register of MBX_DATA that is set reads the byte, the others as before. -/
theorem mailbox_read_set (m : Mailbox) (v : Byte) (hi : i < 32) :
    ({ m with data := m.data.set i v hi } : Mailbox).read j = if j = 32 + i then v else m.read j := by
  by_cases hj : 4 ≤ j
  · rw [mailbox_read_data _ hj, mailbox_read_data _ hj]
    by_cases hdata : j < 32
    · rw [if_pos hdata, if_pos hdata, if_neg (by omega)]
    · rw [if_neg hdata, if_neg hdata]
      unfold payloadByte
      rw [Vector.toList_set, List.getD_eq_getElem?_getD, List.getD_eq_getElem?_getD, List.getElem?_set]
      rw [Vector.length_toList, if_pos hi, apply_ite (fun o : Option Byte => o.getD 0)]
      exact if_congr (by omega) rfl rfl
  · match j with
    | 0 | 1 | 2 | 3 => rw [if_neg (by omega)]; rfl
    | _ + 4 => omega

/-- A register of the mailbox after such a write. -/
theorem mailbox_read_write (h : KeepsByte a) (m : Mailbox) (v : Byte) (j : Nat) :
    (m.write a v).read j = if a.toNat = 0x0080 + j then v else m.read j := by
  by_cases hlow : a.toNat < 0x0080
  · rw [mailbox_write_elsewhere hlow, if_neg (by omega)]
  by_cases hdata : 0x00A0 ≤ a.toNat
  · have hplace := h.toNat_cases
    rw [mailbox_write_data (by omega), mailbox_read_set]
    exact if_congr (by omega) rfl rfl
  have hplace := h.toNat_cases
  have hcases : a = 0x0080 ∨ a = 0x0081 ∨ a = 0x0082 ∨ a = 0x0083 := by
    have hnat : a.toNat = 0x0080 ∨ a.toNat = 0x0081 ∨ a.toNat = 0x0082 ∨ a.toNat = 0x0083 := by omega
    exact hnat.imp BitVec.eq_of_toNat_eq
      (Or.imp BitVec.eq_of_toNat_eq (Or.imp BitVec.eq_of_toNat_eq BitVec.eq_of_toNat_eq))
  match j with
  | 0 | 1 | 2 | 3 => rcases hcases with rfl | rfl | rfl | rfl <;> rfl
  | j + 4 =>
    rw [if_neg (by omega)]
    rcases hcases with rfl | rfl | rfl | rfl <;> rfl

/-! ## The step -/

theorem writeRegister_keepsByte (h : KeepsByte a) (v : Byte) : writeRegister a v s = writeStored a v s := by
  have hne (c : RegAddr) (hc : (c.toNat ≠ 0x000B ∧ c.toNat < 0x002C) ∨ 0x0100 ≤ c.toNat) : a ≠ c := by
    rintro rfl
    have := h.toNat_cases
    omega
  unfold writeRegister
  rw [if_neg (hne _ (by decide)), if_neg (hne _ (by decide)), if_neg (hne _ (by decide)), if_neg (hne _ (by decide)),
    if_neg (hne _ (by decide)), if_neg (hne _ (by decide)), if_neg (hne _ (by decide)), if_neg (hne _ (by decide)),
    if_neg (hne _ (by decide)), if_neg (hne _ (by decide)), if_neg (hne _ (by decide))]

/-- The step of such a write. -/
theorem exec_registerWrite_keepsByte (h : KeepsByte a) (v : Byte) (hat : WritingAt s a) :
    exec (.registerWrite a v) s = .next (withKept s (a + 1) (s.mailbox.write a v)
      (if a = 0x000B then v else s.cancelTag) (s.params.write a v).expectedFp) := by
  have hparams := params_write_keepsByte h s.params v
  rw [exec_registerWrite hat, writeRegister_keepsByte h, withKept, hparams]
  unfold counterPast writeStored
  rw [hparams]
  rfl

/-- After such a write that register reads the byte and every other one as before. -/
theorem regRead_keepsByte (h : KeepsByte a) (c : RegAddr) (v : Byte) (b : RegAddr) :
    (withKept s c (s.mailbox.write a v) (if a = 0x000B then v else s.cancelTag)
        (s.params.write a v).expectedFp).regRead b
      = if b = a then v else s.regRead b := by
  have hbefore := regRead_withKept s s.addrCounter s.mailbox s.cancelTag s.params.expectedFp b
  have hsame : withKept s s.addrCounter s.mailbox s.cancelTag s.params.expectedFp = s := rfl
  have hplace := h.toNat_cases
  have heq : b = a ↔ b.toNat = a.toNat := ⟨congrArg BitVec.toNat, BitVec.eq_of_toNat_eq⟩
  have htag : a = 0x000B ↔ a.toNat = 0x000B := ⟨congrArg BitVec.toNat, fun ha => BitVec.eq_of_toNat_eq ha⟩
  rw [hsame] at hbefore
  rw [regRead_withKept]
  simp only [heq, htag]
  by_cases hcommand : b.toNat = 0x000B
  · rw [if_pos hcommand] at hbefore ⊢
    rw [hbefore]
    exact if_congr (by omega) rfl rfl
  by_cases hparam : 0x002C ≤ b.toNat ∧ b.toNat ≤ 0x002F
  · rw [if_neg hcommand, if_pos hparam] at hbefore ⊢
    rw [expectedFp_write h _ _ (by omega), hbefore]
    exact if_congr (by omega) rfl rfl
  by_cases hmailbox : 0x0080 ≤ b.toNat ∧ b.toNat < 0x0100
  · rw [if_neg hcommand, if_neg hparam, if_pos hmailbox] at hbefore ⊢
    rw [mailbox_read_write h, hbefore]
    exact if_congr (by omega) rfl rfl
  · rw [if_neg hcommand, if_neg hparam, if_neg hmailbox, if_neg (by omega)]

/-- Settles O22: the write changes one of the kept fields, and each register reads its own. -/
theorem storedRegistersReadBack : Obligations.StoredRegistersReadBack := by
  unfold Obligations.StoredRegistersReadBack
  intro s a v hat hkeeps
  refine ⟨_, exec_registerWrite_keepsByte hkeeps v hat, rfl, ?_, fun b hne => ?_⟩
  · rw [regRead_keepsByte hkeeps, if_pos rfl]
  · rw [regRead_keepsByte hkeeps, if_neg hne]

end Sys2Proof.Proofs
end

section
/-! Refused commands, ABORT_CENSUS, the frames of the census and the timers (R63, R64, R69, R71, R74, R75, R78, R98,
R103, R114, R126, R172). -/

namespace Sys2Proof.Proofs

-- one theorem after the other: many proofs elaborated at once ask for a stack each
set_option Elab.async false

open Sys2Proof.Machine Sys2Proof.Safety

variable {s t : State} {p : Port}

/-! ## Refused commands (R172) -/

theorem censusRunning_iff (s : State) : s.censusRunning = true ↔ s.census.state ≠ .idle := by
  simp [State.censusRunning]

/-- CANCEL_TAG names no slot, or one that is FREE or DONE: nothing is there to cancel (R98). -/
theorem cancelAnswer_refused
    (h : ∀ v : Tag, s.cancelTag.toNat = v.val → (s.slot v).state = .free ∨ (s.slot v).state = .done) :
    cancelAnswer s = .refused .noSuchTag := by
  unfold cancelAnswer State.cancelTarget
  by_cases hnames : s.cancelTag.toNat < 16
  · have hslot := h ⟨s.cancelTag.toNat, hnames⟩ rfl
    rw [dif_pos hnames]
    simp only [cancelSlot]
    rcases hslot with hfree | hdone
    · rw [hfree]
    · rw [hdone]
  · rw [dif_neg hnames]

theorem ofCode_none {code : Byte} (h : code ∉ [0x01, 0x02, 0x03, 0x04, 0x10, 0x11, 0x12, 0x20, 0x5A]) :
    Command.ofCode code = none := by
  simp only [List.mem_cons, List.not_mem_nil, or_false, not_or] at h
  obtain ⟨h1, h2, h3, h4, h5, h6, h7, h8, h9⟩ := h
  rw [Command.ofCode, if_neg h1, if_neg h2, if_neg h3, if_neg h4, if_neg h5, if_neg h6, if_neg h7, if_neg h8, if_neg h9]

/-- Settles O8: each owner refuses, and a refusal has one effect whatever the command. -/
theorem refusedCommandsChangeNothing : Obligations.RefusedCommandsChangeNothing := by
  unfold Obligations.RefusedCommandsChangeNothing
  intro s hat
  refine ⟨fun hslot => ?_, fun hruns => ?_, fun hidle => ?_, fun code hcode => ?_⟩
  · rw [exec_cancel hat, issue, cancelAnswer_refused hslot]
    exact congrArg Host.Outcome.next (answerCommand_refused 0x02 .noSuchTag s)
  · have hrefused : startCensusAnswer s = .refused .busy := if_pos ((censusRunning_iff s).2 hruns)
    rw [exec_startCensus hat, issue, hrefused]
    exact congrArg Host.Outcome.next (answerCommand_refused 0x10 .busy s)
  · have hrefused : abortCensusAnswer s = .refused .idle :=
      if_neg fun hruns => (censusRunning_iff s).1 hruns hidle
    rw [exec_abortCensus hat, issue, hrefused]
    exact congrArg Host.Outcome.next (answerCommand_refused 0x11 .idle s)
  · have hrefused : commandAnswer code s = .refused .unknown := by rw [commandAnswer, ofCode_none hcode]
    rw [exec_unknownCommand hat, writeCmd, hrefused]
    exact congrArg Host.Outcome.next (answerCommand_refused code .unknown s)

/-! ## ABORT_CENSUS (R78) -/

/-- Settles O11: the cause that stands is kept, and where none stands it is ABORTED. -/
theorem abortCensusSetsStop : Obligations.AbortCensusSetsStop := by
  unfold Obligations.AbortCensusSetsStop
  intro s hat hruns
  have htaken : abortCensusAnswer s = .taken (abortCensus s) := if_pos ((censusRunning_iff s).2 hruns)
  rw [exec_abortCensus hat, issue, htaken]
  match hstop : s.census.stopPending with
  | none =>
    refine ⟨.aborted, ?_, fun _ => rfl, nofun⟩
    simp only [abortCensus, hstop]
    rfl
  | some d =>
    refine ⟨d, ?_, nofun, fun e he => Option.some.inj he⟩
    simp only [abortCensus, hstop]
    rfl

/-! ## The frames of the census (R64, R69, R71, R75) -/

/-- The census hands nothing, or a RELEASE or a CLAIM of its own. -/
theorem handCensus_hands (p : Port) (s : State) :
    (handCensus p s).port p = s.port p
      ∨ ∃ x, ((handCensus p s).port p).exch = .sending x ∧ x.owner = .census
          ∧ (x.frame.kind = .release ∨ x.frame.kind = .claim) := by
  have hclaim (q : Port) : ∃ x, ((startClaim q s).port q).exch = .sending x ∧ x.owner = .census
      ∧ (x.frame.kind = .release ∨ x.frame.kind = .claim) :=
    ⟨_, handFrame_exch _ _ _, rfl, .inr rfl⟩
  unfold handCensus
  split
  · split
    · exact .inr ⟨_, handFrame_exch _ _ _, rfl, .inl rfl⟩
    · exact .inl rfl
  · split
    · exact .inr (hclaim .a)
    · exact .inl rfl
  · split
    · exact .inr (hclaim .b)
    · exact .inl rfl
  · exact .inl rfl

/-- While a census runs the arbiter asks the census only (R103). -/
theorem arbitrate_of_census (h : s.census.state ≠ .idle) (p : Port) : arbitrate p s = handCensus p s :=
  if_pos ((censusRunning_iff s).2 h)

/-- Settles O30: in reset, and where the port can be handed nothing, it stands; else the census hands. -/
theorem arbiterKeepsCensusExclusive : Obligations.ArbiterKeepsCensusExclusive := by
  unfold Obligations.ArbiterKeepsCensusExclusive
  intro s t p hruns hexec
  have hstays : outsideReset (onlyIf (fun r => r.canHand p) (arbitrate p)) s = s
      ∨ outsideReset (onlyIf (fun r => r.canHand p) (arbitrate p)) s = handCensus p s := by
    unfold outsideReset onlyIf
    split
    · exact .inl rfl
    · split
      · exact .inr (arbitrate_of_census hruns p)
      · exact .inl rfl
  obtain rfl : outsideReset (onlyIf (fun r => r.canHand p) (arbitrate p)) s = t := Host.Outcome.next.inj hexec
  rcases hstays with hstays | hstays <;> rw [hstays]
  · exact .inl rfl
  · exact handCensus_hands p s

theorem censusInFlight_eq_false (h : ∀ q, s.carries q .census = false) : s.censusInFlight = false := by
  simp [State.censusInFlight, h]

/-- A CLAIM is ready in a walk with none in flight, no stop pending and an address to offer (R71, R73, R78). -/
theorem claimReady_of (hflight : ∀ q, s.carries q .census = false) (hstop : s.census.stopPending = none)
    (haddr : s.census.nextAddr < 63) : s.claimReady = true := by
  simp [State.claimReady, censusInFlight_eq_false hflight, hstop, haddr]

/-- A RELEASE is due once on each census port, on port B after port A's has ended (R69). -/
theorem releaseReady_iff (hflight : ∀ q, s.carries q .census = false) (hstop : s.census.stopPending = none) :
    s.releaseReady p = true ↔ s.census.ports.get p = true ∧ s.census.released.get p = false
      ∧ (p = .b → s.census.ports.a = true → s.census.released.a = true) := by
  unfold State.releaseReady
  rw [censusInFlight_eq_false hflight, hstop]
  cases p with
  | a => simp
  | b => cases hport : s.census.ports.a <;> simp [and_assoc]

/-- The walk's port is handed the walk's next CLAIM (R71, R75). -/
theorem handCensus_claims (hwalk : p = .a ∧ s.census.state = .walkA ∨ p = .b ∧ s.census.state = .walkB)
    (hready : s.claimReady = true) : handCensus p s = startClaim p s := by
  rcases hwalk with ⟨rfl, hstate⟩ | ⟨rfl, hstate⟩
  · simp only [handCensus, hstate, hready, if_true]
  · simp only [handCensus, hstate, hready, if_true]

theorem handCensus_releases (hstate : s.census.state = .releasing) :
    handCensus p s
      = if s.releaseReady p then handFrame p { frame := releaseFrame, hops := 0, owner := .census } s else s := by
  simp only [handCensus, hstate]

/-- Settles O29: the arbiter hands what the census has ready. -/
theorem arbiterHandsClaim : Obligations.ArbiterHandsClaim := by
  unfold Obligations.ArbiterHandsClaim
  intro s p hreset hcan hstop hflight
  refine ⟨fun hwalk haddr => ?_, fun hstate => ?_⟩
  · have hruns : s.census.state ≠ .idle := by
      rcases hwalk with ⟨-, hstate⟩ | ⟨-, hstate⟩ <;> rw [hstate] <;> nofun
    rw [exec_arbiterHand hreset hcan, arbitrate_of_census hruns,
      handCensus_claims hwalk (claimReady_of hflight hstop haddr)]
    rfl
  · have hruns : s.census.state ≠ .idle := by rw [hstate]; nofun
    rw [exec_arbiterHand hreset hcan, arbitrate_of_census hruns, handCensus_releases hstate]
    refine ⟨fun hdue => ?_, fun hnot => ?_⟩
    · rw [if_pos ((releaseReady_iff hflight hstop).2 hdue)]
      rfl
    · rw [if_neg fun hready => hnot ((releaseReady_iff hflight hstop).1 hready)]

/-! ## The timers (R69, R74, R114, R126) -/

/-- The settle timer's end starts the first walk. -/
theorem endSettle_eq (s : State) :
    endSettle s =
      { s with
        census := { s.census with
          state := if s.census.ports.a = true then .walkA else .walkB
          position := 0, tries := 0, settleTimer := false } } := by
  unfold endSettle
  simp only
  split <;> rfl

/-- A millisecond ages an entry that is not EMPTY, up to 65535 (R126). -/
theorem agedEntry_eq (m : MirrorEntry) :
    agedEntry m = { m with
      age := if m.state = .empty then m.age else if m.age < 65535 then m.age + 1 else 65535 } := by
  unfold agedEntry satInc
  split <;> rfl

theorem tick_status (s : State) (a : Nat) : (tick s).status a = agedEntry (s.status a) :=
  State.status_mapCells { s with msecTimer := s.msecTimer + 1 } agedEntry rfl a

/-- Settles O46: each timer's event acts where its timer runs. -/
theorem timersRun : Obligations.TimersRun := by
  unfold Obligations.TimersRun
  intro s v hreset
  refine ⟨fun hstate htimer => ?_, fun hbackoff => ?_, tick s, ?_, rfl, fun a => ?_⟩
  · rw [← endSettle_eq]
    exact congrArg Host.Outcome.next (event_acts hreset (by simp [State.settling, hstate, htimer]))
  · exact congrArg Host.Outcome.next (event_acts hreset (Option.isSome_iff_ne_none.2 hbackoff))
  · exact congrArg Host.Outcome.next (if_neg (by simp [hreset]))
  · rw [tick_status, agedEntry_eq]

end Sys2Proof.Proofs
end

section
/-! START_CENSUS: the flush of the slots and the checks abandoned (R63, R65, R66, R168). What completes and chooses
slots leaves the order of submission. -/

namespace Sys2Proof.Proofs

-- one theorem after the other: many proofs elaborated at once ask for a stack each
set_option Elab.async false

open Sys2Proof.Machine Sys2Proof.Safety

variable {s t u : State} {v w : Tag} {x : Port}

/-! ## The order of submission (R86, R105) -/

/-- What stands of every slot while slots end and are chosen: kind, target and place in the order of submission. -/
structure KeepsOrder (s t : State) : Prop where
  counter : t.submissionCounter = s.submissionCounter
  seq : ∀ v, (t.slot v).seq = (s.slot v).seq
  target : ∀ v, (t.slot v).target = (s.slot v).target
  kindCode : ∀ v, (t.slot v).kindCode = (s.slot v).kindCode

theorem KeepsOrder.refl (s : State) : KeepsOrder s s := ⟨rfl, fun _ => rfl, fun _ => rfl, fun _ => rfl⟩

theorem KeepsOrder.trans (h : KeepsOrder s t) (k : KeepsOrder t u) : KeepsOrder s u where
  counter := k.counter.trans h.counter
  seq v := (k.seq v).trans (h.seq v)
  target v := (k.target v).trans (h.target v)
  kindCode v := (k.kindCode v).trans (h.kindCode v)

theorem KeepsOrder.older (h : KeepsOrder s t) (v w : Tag) : t.older v w = s.older v w := by
  have hage (z : Tag) : t.ageOf z = s.ageOf z := by simp only [State.ageOf, h.counter, h.seq]
  rw [State.older, State.older, hage, hage]

theorem setSlot_keepsOrder {y : Slot} (hseq : y.seq = (s.slot v).seq) (htarget : y.target = (s.slot v).target)
    (hkind : y.kindCode = (s.slot v).kindCode) : KeepsOrder s (s.setSlot v y) := by
  refine ⟨rfl, fun w => ?_, fun w => ?_, fun w => ?_⟩
  all_goals
    rw [State.slot_setSlot]
    split
    · next hw => subst hw; assumption
    · rfl

theorem finish_keepsOrder (v : Tag) (st : Status) (s : State) : KeepsOrder s (finish v st s) := by
  by_cases hu : (s.slot v).unfinished = true
  · have hslot (w : Tag) := complete_slot v st false [] hu w
    refine ⟨(finish_touches v st s).submissionCounter, fun w => ?_, fun w => ?_, fun w => ?_⟩
    all_goals
      rw [finish, hslot]
      split
      · next hw => subst hw; rfl
      · rfl
  · rw [finish, complete_finished v st false [] (by simpa using hu)]
    exact .refl s

theorem stopBcast_keepsOrder (v : Tag) (s : State) : KeepsOrder s (stopBcast v s) := setSlot_keepsOrder rfl rfl rfl

/-! ## The flush of one slot (R65) -/

theorem flushAtStart_keepsOrder (v : Tag) (s : State) : KeepsOrder s (flushAtStart v s) := by
  unfold flushAtStart
  simp only
  split
  · exact finish_keepsOrder _ _ _
  · split
    · exact setSlot_keepsOrder rfl rfl rfl
    · exact finish_keepsOrder _ _ _
  · split
    · split
      · exact stopBcast_keepsOrder _ _
      · exact (stopBcast_keepsOrder _ _).trans (finish_keepsOrder _ _ _)
    · exact .refl s
  · exact .refl s

theorem flushAtStart_moves (v : Tag) (s : State) : RequestMoves s (flushAtStart v s) := by
  unfold flushAtStart
  simp only
  split
  · exact finish_moves _ _ _
  · next hqueued =>
    have hu : (s.slot v).unfinished = true := by simp [Slot.unfinished, hqueued]
    split
    · exact setSlot_moves v (.inr ⟨hu, .inl hu, rfl, rfl, rfl⟩) hu
    · exact finish_moves _ _ _
  · next hactive =>
    have hu : (s.slot v).unfinished = true := unfinished_of_active hactive
    have hstops : RequestMoves s (stopBcast v s) := setSlot_moves v (.inr ⟨hu, .inl hu, rfl, rfl, rfl⟩) hu
    split
    · split
      · exact hstops
      · exact hstops.trans (finish_moves _ _ _)
    · exact .refl s
  · exact .refl s

theorem flushAtStart_slot_ne (h : w ≠ v) (s : State) : (flushAtStart v s).slot w = s.slot w := by
  have hfinish (r : State) : (finish v .rosterChanged r).slot w = r.slot w := complete_slot_ne _ _ _ _ h r
  have hstop : (stopBcast v s).slot w = s.slot w := State.slot_setSlot_ne s h _
  unfold flushAtStart
  simp only
  split
  · exact hfinish s
  · split
    · exact State.slot_setSlot_ne s h _
    · exact hfinish s
  · split
    · split
      · exact hstop
      · exact (hfinish _).trans hstop
    · rfl
  · rfl

/-- The flush makes no slot ACTIVE. -/
theorem flushAtStart_active (h : ((flushAtStart v s).slot w).state = .active) : (s.slot w).state = .active := by
  by_cases hw : w = v
  · subst hw
    by_contra hno
    rcases (flushAtStart_moves w s).moves.slot w with heq | ⟨hu, -⟩
    · exact hno (by rw [← heq]; exact h)
    · have hfinish : ((finish w .rosterChanged s).slot w).state = .done := by
        rw [finish, complete_slot w _ _ _ hu, if_pos rfl]
        rfl
      unfold flushAtStart at h
      simp only at h
      split at h
      · rw [hfinish] at h
        nomatch h
      · next hqueued =>
        split at h
        · rw [State.slot_setSlot_same] at h
          exact hno h
        · rw [hfinish] at h
          nomatch h
      · next hactive => exact hno hactive
      · exact hno h
  · rw [flushAtStart_slot_ne hw] at h
    exact h

/-- A slot the flush ends: in WAITING_RETRY, or QUEUED with no older ACTIVE slot of its target. -/
def EndsAtStart (v : Tag) (s : State) : Prop :=
  (s.slot v).state = .waitingRetry ∨ (s.slot v).state = .queued ∧ s.behindActive v = false

theorem flushAtStart_ends (h : EndsAtStart v s) : flushAtStart v s = finish v .rosterChanged s := by
  rcases h with hwaits | ⟨hqueued, hfree⟩
  · simp only [flushAtStart, hwaits]
  · simp [flushAtStart, hqueued, hfree]

theorem EndsAtStart.unfinished (h : EndsAtStart v s) : (s.slot v).unfinished = true := by
  rcases h with hwaits | ⟨hqueued, -⟩ <;> simp [Slot.unfinished, *]

theorem behindActive_eq_false_iff (v : Tag) (s : State) :
    s.behindActive v = false ↔ ∀ w, (s.slot w).state = .active → (s.slot v).target.isSome = true →
      (s.slot w).target = (s.slot v).target → s.older w v = false := by
  simp only [State.behindActive, Bool.and_eq_false_imp, List.any_eq_false, Bool.and_eq_true, beq_iff_eq, not_and,
    Bool.not_eq_true, and_imp]
  exact ⟨fun h w hactive hsome htarget => h hsome w (mem_allTags w) hactive htarget,
    fun h hsome w _ hactive htarget => h w hactive hsome htarget⟩

/-- The flush of another slot leaves a slot to be ended: no slot becomes ACTIVE before it. -/
theorem EndsAtStart.flushed (h : EndsAtStart v s) (hne : v ≠ w) : EndsAtStart v (flushAtStart w s) := by
  unfold EndsAtStart
  rw [flushAtStart_slot_ne hne]
  refine h.imp_right fun ⟨hqueued, hfree⟩ =>
    ⟨hqueued, (behindActive_eq_false_iff _ _).2 fun z hactive hsome htarget => ?_⟩
  have horder := flushAtStart_keepsOrder w s
  rw [horder.target] at hsome
  rw [horder.target, horder.target] at htarget
  rw [horder.older]
  exact (behindActive_eq_false_iff _ _).1 hfree z (flushAtStart_active hactive) hsome htarget

/-! ## The flush of every slot (R65) -/

theorem foldl_flushAtStart_ends {l : List Tag} (h : EndsAtStart v s) (hv : v ∈ l) :
    (l.foldl (fun r w => flushAtStart w r) s).slot v = doneSlot (s.slot v) .rosterChanged false [] s.epoch := by
  induction l generalizing s with
  | nil => nomatch hv
  | cons w l ih =>
    rw [List.foldl_cons]
    by_cases hw : v = w
    · subst hw
      have hdone : (flushAtStart v s).slot v = doneSlot (s.slot v) .rosterChanged false [] s.epoch := by
        rw [flushAtStart_ends h, finish, complete_slot v _ _ _ h.unfinished, if_pos rfl]
      have hrest : Moves (flushAtStart v s) (l.foldl (fun r w => flushAtStart w r) _) :=
        foldl_relates .refl .trans (fun r w => (flushAtStart_moves w r).moves) l _
      rw [(hrest.slot v).eq_of_finished (by rw [hdone]; rfl), hdone]
    · rw [ih (h.flushed hw) ((List.mem_cons.1 hv).resolve_left hw), flushAtStart_slot_ne hw,
        (flushAtStart_touches w s).epoch]

/-- A slot that waits with no older ACTIVE slot of its target before it ends ROSTER_CHANGED. -/
theorem flushAll_ends (h : EndsAtStart v s) :
    (flushAll s).slot v
      = doneWith (s.slot v) .rosterChanged (effectByHistory (s.slot v).kindCode (s.slot v).history) false []
          s.epoch := by
  rw [← doneSlot_eq]
  exact foldl_flushAtStart_ends h ((mem_unfinishedTags s v).2 h.unfinished)

/-- An ACTIVE slot other than a BCAST_WRITE is left to its exchange. -/
theorem flushAll_keepsActive (hactive : (s.slot v).state = .active) (hkind : (s.slot v).isBcast = false) :
    (flushAll s).slot v = s.slot v := by
  have hstep (r : State) (w : Tag) (hr : r.slot v = s.slot v) : (flushAtStart w r).slot v = s.slot v := by
    by_cases hw : v = w
    · subst hw
      have hstays : flushAtStart v r = r := by simp [flushAtStart, hr, hactive, hkind]
      rw [hstays, hr]
    · rw [flushAtStart_slot_ne hw, hr]
  exact foldl_relates (R := fun r r' => r.slot v = s.slot v → r'.slot v = s.slot v) (fun _ => id)
    (fun h k => k ∘ h) hstep _ s rfl

/-! ## The checks abandoned (R66, R168) -/

/-- A check after START_CENSUS: IDLE, with trigger, result and counts kept. -/
def abandonedCheck (c : Check) : Check :=
  if c.state = .idle then c
  else { Check.reset with trigger := c.trigger, result := c.result, rerouted := c.rerouted, lost := c.lost }

theorem abandonCheck_eq (x : Port) (s : State) :
    abandonCheck x s = { s with checks := s.checks.set x (abandonedCheck (s.checks.get x)) } := by
  unfold abandonCheck abandonedCheck
  simp only
  split
  · rw [Pair.set_get]
  · rfl

/-! ## START_CENSUS -/

/-- The state in which the flush is made: DRAINING, with result, reason and stop pending NONE (R63). -/
def entersDraining (s : State) : State :=
  { s with census := { s.census with state := .draining, result := .none, reason := .none, stopPending := none } }

/-- START_CENSUS flushes the slots, and of the rest changes the checks only. -/
theorem startCensus_eq (s : State) :
    startCensus s =
      { flushAll (entersDraining s) with
        checks := { a := abandonedCheck s.checks.a, b := abandonedCheck s.checks.b } } := by
  have hchecks : (flushAll (entersDraining s)).checks = s.checks := (flushAll_touches _).checks
  show abandonCheck .b (abandonCheck .a (flushAll (entersDraining s))) = _
  rw [abandonCheck_eq, abandonCheck_eq, hchecks]
  rfl

theorem startCensus_settling (s : State) : TouchesSettling (entersDraining s) (startCensus s) :=
  ((flushAll_touches _).toSettling.trans (abandonCheck_touches .a _)).trans (abandonCheck_touches .b _)

theorem startCensus_checks (x : Port) (s : State) :
    (startCensus s).checks.get x = abandonedCheck (s.checks.get x) := by
  rw [startCensus_eq]
  cases x <;> rfl

/-- Mirror, ring state and causes stand. -/
theorem startCensus_keeps (s : State) :
    (startCensus s).mirror = s.mirror ∧ (startCensus s).ringState = s.ringState
      ∧ (startCensus s).sticky = s.sticky := by
  have hflush := flushAll_touches (entersDraining s)
  rw [startCensus_eq]
  exact ⟨hflush.mirror, hflush.ringState, hflush.sticky⟩

theorem startCensus_ends (h : EndsAtStart v s) :
    (startCensus s).slot v
      = doneWith (s.slot v) .rosterChanged (effectByHistory (s.slot v).kindCode (s.slot v).history) false []
          s.epoch := by
  rw [startCensus_eq]
  exact flushAll_ends (s := entersDraining s) h

theorem startCensus_keepsActive (hactive : (s.slot v).state = .active) (hkind : (s.slot v).isBcast = false) :
    (startCensus s).slot v = s.slot v := by
  rw [startCensus_eq]
  exact flushAll_keepsActive (s := entersDraining s) hactive hkind

/-- Settles O10: the flush decides each slot as its turn comes, in the order of submission. -/
theorem startCensusDrains : Obligations.StartCensusDrains := by
  unfold Obligations.StartCensusDrains
  intro s hat hidle
  have htaken : startCensusAnswer s = .taken (startCensus s) :=
    if_neg fun hruns => (censusRunning_iff s).1 hruns hidle
  obtain ⟨hmirror, hring, hsticky⟩ := startCensus_keeps s
  have hexec : exec .startCensus s
      = .next { startCensus s with addrCounter := 0x0009, cmd := 0x10, cmdResult := .done } := by
    rw [exec_startCensus hat, issue, htaken]
    exact congrArg Host.Outcome.next (answerCommand_taken 0x10 s _)
  have htouches := touchesSettling_answered (startCensus_settling s) 0x0009 0x10 .done
  have hchecks (p : Port) := startCensus_checks p s
  have hends {v : Tag} (h : EndsAtStart v s) := startCensus_ends h
  have hactive {v : Tag} (h : (s.slot v).state = .active) (hkind : (s.slot v).kindCode ≠ 3) :=
    startCensus_keepsActive h (not_isBcast_of_code hkind)
  generalize startCensus s = r at *
  refine ⟨_, hexec, htouches, hmirror, hring, hsticky, fun p hruns => (hchecks p).trans (if_neg hruns),
    fun p hrests => (hchecks p).trans (if_pos hrests), fun v hwaits => ?_, fun v => hactive⟩
  have hdone := hends
    (hwaits.imp_right fun ⟨hqueued, hfree⟩ => ⟨hqueued, (behindActive_eq_false_iff v s).2 hfree⟩)
  exact ⟨congrArg Slot.state hdone, congrArg Slot.backoff hdone, congrArg Slot.outcome hdone⟩

end Sys2Proof.Proofs
end

section
/-! The census stop: the slots that come to the front as the census ends, the checks of the ports that are not UP, and
what these leave of the causes and the ring (R79, R105, R107, R156, R162, R163, R166). -/

namespace Sys2Proof.Proofs

-- one theorem after the other: many proofs elaborated at once ask for a stack each
set_option Elab.async false

open Sys2Proof.Machine Sys2Proof.Safety

variable {s t u : State} {v w : Tag} {x p : Port} {a b : Nat} {l : List Nat} {c : StopCause} {st : Status}

/-! ## The first slot of its target (R105, R107) -/

theorem frontStep_keepsOrder (v : Tag) (s : State) : KeepsOrder s (frontStep v s) := by
  unfold frontStep chooseBcast
  split
  · split
    · exact finish_keepsOrder _ _ _
    · split
      · simp only
        split
        · exact setSlot_keepsOrder rfl rfl rfl
        · exact finish_keepsOrder _ _ _
      · exact .refl s
  · exact .refl s

/-- With no census running, a slot that waits with nothing before it stands at the front. -/
theorem atFront_of_waits (h : Waits v b s) (hcensus : s.census.state = .idle) : s.atFront v = true := by
  obtain ⟨hwaits, htarget, hcode, hfirst⟩ := h
  have hunfinished : (s.slot v).unfinished = true := unfinished_of_waiting ((waiting_iff _).2 hwaits)
  have hkind : (s.slot v).isBcast = false := not_isBcast_of_code (kind_of_targetedCode hcode).2
  simp only [State.atFront, State.censusRunning, hcensus, hunfinished, Bool.and_eq_true, Bool.not_eq_eq_eq_not,
    Bool.not_true, List.any_eq_false]
  refine ⟨⟨rfl, trivial⟩, fun z _ hz => ?_⟩
  simp only [State.olderUnfinished, hkind, htarget, Bool.false_or, Bool.and_eq_true, Bool.or_eq_true, beq_iff_eq] at hz
  obtain ⟨⟨⟨-, hu⟩, holder⟩, hblocks⟩ := hz
  obtain ⟨hother, hnoBcast⟩ := hfirst z hu holder
  rcases hblocks with hbcast | hsame
  · rw [not_isBcast_of_code hnoBcast] at hbcast
    nomatch hbcast
  · exact hother hsame

/-- The front checks of another slot leave a slot waiting with nothing before it. -/
theorem waits_frontStep (h : Waits v b s) (hne : v ≠ w) : Waits v b (frontStep w s) := by
  obtain ⟨hwaits, htarget, hcode, hfirst⟩ := h
  have horder := frontStep_keepsOrder w s
  unfold Waits
  rw [frontStep_slot_ne w hne]
  refine ⟨hwaits, htarget, hcode, fun z hu holder => ?_⟩
  rw [horder.target, horder.kindCode]
  rw [horder.older] at holder
  refine hfirst z ?_ holder
  rcases (frontStep_requests w s).moves.slot z with heq | ⟨hz, -⟩
  · rw [← heq]
    exact hu
  · exact hz

theorem foldl_frontStep_ends {l : List Tag} (h : Waits v b s) (hcensus : s.census.state = .idle)
    (hcheck : s.frontCheck (s.slot v) = some st) (hv : v ∈ l) :
    (l.foldl (fun r w => frontStep w r) s).slot v = doneSlot (s.slot v) st false [] s.epoch := by
  induction l generalizing s with
  | nil => nomatch hv
  | cons w l ih =>
    rw [List.foldl_cons]
    by_cases hw : v = w
    · subst hw
      have hwaiting : (s.slot v).waiting = true := (waiting_iff _).2 h.1
      have hdone : (frontStep v s).slot v = doneSlot (s.slot v) st false [] s.epoch := by
        simp only [frontStep, atFront_of_waits h hcensus, hwaiting, hcheck, Bool.and_self, if_true]
        rw [finish, complete_slot v _ _ _ (unfinished_of_waiting hwaiting), if_pos rfl]
      have hrest : Moves (frontStep v s) (l.foldl (fun r w => frontStep w r) _) :=
        foldl_relates .refl .trans (fun r w => (frontStep_requests w r).moves) l _
      rw [(hrest.slot v).eq_of_finished (by rw [hdone]; rfl), hdone]
    · have hslot := frontStep_slot_ne w hw s
      have htouches := frontStep_touches w s
      rw [ih (waits_frontStep h hw) (by rw [htouches.census]; exact hcensus)
        (by rw [hslot, (frontStep_requests w s).frontCheck]; exact hcheck)
        ((List.mem_cons.1 hv).resolve_left hw), hslot, htouches.epoch]

/-- A slot that waits with nothing before it and fails a front check ends with its status. -/
theorem frontPass_ends (h : Waits v b s) (hcensus : s.census.state = .idle)
    (hcheck : s.frontCheck (s.slot v) = some st) :
    (frontPass s).slot v
      = doneWith (s.slot v) st (effectByHistory (s.slot v).kindCode (s.slot v).history) false [] s.epoch := by
  rw [← doneSlot_eq]
  exact foldl_frontStep_ends h hcensus hcheck
    ((mem_unfinishedTags s v).2 (unfinished_of_waiting ((waiting_iff _).2 h.1)))

/-- A targeted kind code names a targeted kind. -/
theorem targeted_of_code {y : Slot} (h : y.kindCode = 1 ∨ y.kindCode = 2 ∨ y.kindCode = 4 ∨ y.kindCode = 5) :
    ∃ k, y.kind = some k ∧ k.targeted = true := by
  rcases h with h | h | h | h <;> exact ⟨_, by rw [Slot.kind, h]; rfl, rfl⟩

/-- The statuses of the front checks 1, 2 and 3 (R107). -/
theorem frontCheck_status (h : Waits v b s) (hidle : ∀ q, (s.checks.get q).state = .idle) :
    ((s.entry b).state = .vacant → s.frontCheck (s.slot v) = some .noModule)
      ∧ ((s.entry b).state = .lost → s.frontCheck (s.slot v) = some .unreachable)
      ∧ ((s.entry b).live = true → s.lockHeld = true → (s.slot v).kindCode = 2 ∨ (s.slot v).kindCode = 5 →
          s.frontCheck (s.slot v) = some .refusedLock) := by
  obtain ⟨-, htarget, hcode, -⟩ := h
  obtain ⟨k, hk, htargeted⟩ := targeted_of_code hcode
  have hchecks : s.checksIdle = true := by simp [State.checksIdle, State.checkRunning, hidle]
  simp only [State.frontCheck, hk, htarget, Option.getD_some, htargeted, Bool.true_and, hchecks, Bool.and_true]
  refine ⟨fun hvacant => by simp [hvacant], fun hlost => by simp [hlost], fun hlive hlock hlocked => ?_⟩
  have hrefuses : k.lockRefuses = true := by
    rcases hlocked with hlocked | hlocked
    all_goals
      rw [Slot.kind, hlocked] at hk
      cases hk
      rfl
  rcases (live_iff _).1 hlive with hstate | hstate <;> simp [hstate, hrefuses, hlock]

/-! ## Causes and ring while checks decide (R163, R166) -/

/-- What the front checks and the reach checks leave: beyond `Aftermath`, no cause but MODULE_STALE, MODULE_LOST and
REACH_DONE changes, the last two stay pending, and of the ring states only CLOSED changes, to BROKEN. -/
structure CheckEffects (s t : State) : Prop extends Aftermath s t where
  causes : t.sticky = { s.sticky with
    moduleStale := t.sticky.moduleStale, moduleLost := t.sticky.moduleLost, reachDone := t.sticky.reachDone }
  moduleLost : s.sticky.moduleLost = true → t.sticky.moduleLost = true
  reachDone : s.sticky.reachDone = true → t.sticky.reachDone = true
  ring : t.ringState = s.ringState ∨ s.ringState = .closed ∧ t.ringState = .broken

theorem CheckEffects.of_sticky (h : Aftermath s t) (hsticky : t.sticky = s.sticky) (hring : t.ringState = s.ringState) :
    CheckEffects s t := by
  refine { h with causes := ?_, moduleLost := ?_, reachDone := ?_, ring := .inl hring }
  all_goals rw [hsticky]
  all_goals exact id

theorem CheckEffects.refl (s : State) : CheckEffects s s := .of_sticky (.refl s) rfl rfl

theorem CheckEffects.trans (h : CheckEffects s t) (k : CheckEffects t u) : CheckEffects s u where
  toAftermath := h.toAftermath.trans k.toAftermath
  causes := by rw [k.causes, h.causes]
  moduleLost hs := k.moduleLost (h.moduleLost hs)
  reachDone hs := k.reachDone (h.reachDone hs)
  ring := by
    rcases h.ring with hstands | ⟨hclosed, hbroken⟩
    · rw [← hstands]
      exact k.ring
    · refine .inr ⟨hclosed, ?_⟩
      rcases k.ring with hstands | ⟨hclosed', -⟩
      · exact hstands.trans hbroken
      · rw [hbroken] at hclosed'
        nomatch hclosed'

/-- A ring that is not CLOSED is not CLOSED after. -/
theorem CheckEffects.notClosed (h : CheckEffects s t) (hs : s.ringState ≠ .closed) : t.ringState = s.ringState :=
  h.ring.resolve_right fun ⟨hclosed, _⟩ => hs hclosed

theorem RequestMoves.effects (h : RequestMoves s t) : CheckEffects s t :=
  .of_sticky (.of_requests h) h.touches.sticky h.touches.ringState

theorem frontPass_effects (s : State) : CheckEffects s (frontPass s) := (frontPass_moves s).requests.effects

theorem setCheck_effects (x : Port) (d : Check) (s : State) : CheckEffects s (s.setCheck x d) :=
  .of_sticky (setCheck_aftermath x d s) rfl rfl

theorem loseModule_effects (x : Port) (a : Nat) (s : State) : CheckEffects s (loseModule x a s) := by
  refine { loseModule_aftermath x a s with
    causes := ?_, moduleLost := fun _ => rfl, reachDone := ?_, ring := .inl (loseModule_ringState x a s) }
  all_goals
    unfold loseModule
    simp only
    split
    · rw [markStatusLost_eq]
      simp [State.raiseModuleLost, State.setCheck]
    · simp [State.raiseModuleLost, State.setCheck]

theorem loseAll_effects (x : Port) (l : List Nat) (s : State) : CheckEffects s (loseAll x l s) :=
  foldl_relates .refl .trans (fun s a => loseModule_effects x a s) l s

/-- The end of a check leaves a CLOSED ring BROKEN where it had cut modules off (R166). -/
theorem endCheck_effects (x : Port) (s : State) : CheckEffects s (endCheck x s) := by
  refine { endCheck_aftermath x s with causes := ?_, moduleLost := ?_, reachDone := ?_, ring := ?_ }
  all_goals rw [endCheck_eq]
  · exact id
  · exact fun _ => rfl
  · by_cases h : s.ringState = .closed ∧ (s.checks.get x).cutOff ≠ []
    · exact .inr ⟨h.1, if_pos h⟩
    · exact .inl (if_neg h)

theorem decideModules_effects (x : Port) (n : Nat) (s : State) : CheckEffects s (decideModules x n s) := by
  induction n generalizing s with
  | zero => exact .refl s
  | succ n ih =>
    unfold decideModules
    simp only
    split
    · split
      · exact endCheck_effects x s
      · split
        · exact (loseModule_effects _ _ _).trans (ih _)
        · exact setCheck_effects _ _ _
    · exact .refl s

theorem advanceProbing_effects (x : Port) (s : State) : CheckEffects s (advanceProbing x s) := by
  unfold advanceProbing
  simp only
  split
  · split
    · exact (setCheck_effects _ _ _).trans (endCheck_effects _ _)
    · split
      · exact .refl s
      · exact setCheck_effects _ _ _
  · exact .refl s

theorem advanceAndFront_effects (x : Port) (s : State) : CheckEffects s (advanceAndFront x s) :=
  ((advanceProbing_effects x s).trans (decideModules_effects _ _ _)).trans (frontPass_effects _)

theorem settle_effects (s : State) : CheckEffects s (settle s) :=
  ((frontPass_effects s).trans (advanceAndFront_effects .a _)).trans (advanceAndFront_effects .b _)

/-- The check of a port has its turn once, as it stood before, and stands after it as it left itself. -/
theorem settle_turn (x : Port) (s : State) :
    ∃ r, CheckEffects s r ∧ r.ports = s.ports ∧ r.checks.get x = s.checks.get x
      ∧ CheckEffects (advanceCheck x r) (settle s)
      ∧ (settle s).checks.get x = (advanceCheck x r).checks.get x := by
  have hports : (frontPass s).ports = s.ports := (frontPass_touches s).ports
  cases x with
  | a =>
    have hlast := advanceAndFront_other .b (advanceAndFront .a (frontPass s))
    exact ⟨frontPass s, frontPass_effects s, hports, congrArg (Pair.get · .a) (frontPass_checks s),
      (frontPass_effects _).trans (advanceAndFront_effects .b _),
      hlast.trans (congrArg (Pair.get · .a) (frontPass_checks _))⟩
  | b =>
    have hfirst := advanceAndFront_other .a (frontPass s)
    exact ⟨advanceAndFront .a (frontPass s), (frontPass_effects s).trans (advanceAndFront_effects .a _),
      (advanceAndFront_touches _ _).ports.trans hports,
      hfirst.trans (congrArg (Pair.get · .b) (frontPass_checks s)), frontPass_effects _,
      congrArg (Pair.get · .b) (frontPass_checks _)⟩

/-! ## A check with no module to probe (R162, R163, R166, log 30) -/

theorem EntryFate.hops {e f : RosterEntry} (h : EntryFate e f) : f.hops = e.hops := by
  rcases h with h | ⟨-, h⟩
  · rw [h]
  · rw [h]
    rfl

/-- Losing one module leaves another without a probe. -/
theorem losesWithoutProbe_loseModule (h : s.losesWithoutProbe x a = true) (b : Nat) :
    (loseModule x b s).losesWithoutProbe x a = true := by
  have hother : (loseModule x b s).checks.get x.other = s.checks.get x.other := by
    rw [loseModule_checks, Pair.get_set_other]
  have hhops := ((loseModule_aftermath x b s).fate a).hops
  simp only [State.losesWithoutProbe, State.checkRunning, hother, hhops, loseModule_isUp] at h ⊢
  exact h

/-- Where none of its PENDING modules can be probed, a check loses them in ascending order of address and ends. -/
theorem decideModules_losesEach {n : Nat} (hn : l.length < n) (hstate : (s.checks.get x).state = .rerouting)
    (hdeciding : (s.checks.get x).deciding = none) (hloses : ∀ a ∈ l, s.losesWithoutProbe x a = true)
    (hpending : pendingAddrs (s.checks.get x).cutOff = l) (hsorted : l.Pairwise (· < ·)) :
    decideModules x n s = endCheck x (loseAll x l s) := by
  induction l generalizing n s with
  | nil =>
    obtain ⟨n, rfl⟩ := Nat.exists_eq_add_one_of_ne_zero (Nat.ne_of_gt hn)
    exact decideModules_ends n hstate hdeciding hpending
  | cons a l ih =>
    obtain ⟨n, rfl⟩ := Nat.exists_eq_add_one_of_ne_zero (Nat.ne_of_gt (Nat.zero_lt_of_lt hn))
    obtain ⟨ha, hsorted⟩ := List.pairwise_cons.1 hsorted
    have hlow : lowest (a :: l) = some a :=
      lowest_of_le (by simp) (fun d hd => (List.mem_cons.1 hd).elim (·.ge) (fun h => (ha d h).le))
    have hstep : decideModules x (n + 1) s = decideModules x n (loseModule x a s) := by
      simp [decideModules, hstate, hdeciding, hpending, hlow, hloses a (by simp)]
    have hcheck : (loseModule x a s).checks.get x = checkLoses a (s.checks.get x) := by
      rw [loseModule_checks, Pair.get_set_same]
    have hrest : pendingAddrs (checkLoses a (s.checks.get x)).cutOff = l := by
      show pendingAddrs (setMark a .lost (s.checks.get x).cutOff) = l
      rw [pendingAddrs_setMark_lost, hpending, List.filter_cons_of_neg (by simp)]
      exact List.filter_eq_self.2 (fun d hd => by simpa using (ha d hd).ne')
    rw [hstep]
    exact ih (Nat.lt_of_succ_lt_succ hn) (by rw [hcheck]; exact hstate) (by rw [hcheck]; exact hdeciding)
      (fun d hd => losesWithoutProbe_loseModule (hloses d (List.mem_cons_of_mem _ hd)) a)
      (by rw [hcheck]; exact hrest) hsorted

theorem loseAll_moduleLost (x : Port) (hb : b ∈ l) : (loseAll x l s).sticky.moduleLost = true := by
  cases l with
  | nil => nomatch hb
  | cons a l => exact (loseAll_effects x l (loseModule x a s)).moduleLost rfl

theorem loseAll_cutOff (h : (s.checks.get x).cutOff ≠ []) (l : List Nat) :
    ((loseAll x l s).checks.get x).cutOff ≠ [] := by
  rw [loseAll_checks, Pair.get_set_same, foldl_checkLoses]
  show l.foldl (fun m a => setMark a .lost m) (s.checks.get x).cutOff ≠ []
  rw [foldl_setMark_mem]
  exact fun hnil => h (List.map_eq_nil_iff.1 hnil)

/-- After the end of a check that had cut modules off the ring is not CLOSED. -/
theorem endCheck_notClosed (h : (s.checks.get x).cutOff ≠ []) : (endCheck x s).ringState ≠ .closed := by
  rw [endCheck_eq]
  show (if s.ringState = .closed ∧ (s.checks.get x).cutOff ≠ [] then RingState.broken else s.ringState) ≠ .closed
  split
  · nofun
  · next hno => exact fun hclosed => hno ⟨hclosed, h⟩

/-- REROUTING in which no PENDING module can be probed on the other port makes each of them LOST and ends where it
settles. -/
theorem settle_losesEach (hstate : (s.checks.get x).state = .rerouting) (hdeciding : (s.checks.get x).deciding = none)
    (hpending : pendingAddrs (s.checks.get x).cutOff = l) (hsorted : l.Pairwise (· < ·))
    (hnone : ∀ a ∈ l, s.isUp x.other = false ∨ (s.entry a).hops.get x.other = none) :
    ((settle s).checks.get x).state = .idle ∧ (settle s).sticky.reachDone = true
      ∧ ∀ b ∈ l, (s.entry b).live = true →
          Gone ((settle s).entry b) ∧ (settle s).ringState ≠ .closed ∧ (settle s).sticky.moduleLost = true := by
  obtain ⟨r, hbefore, hports, hcheck, hafter, hturn⟩ := settle_turn x s
  rw [← hcheck] at hstate hdeciding hpending
  have hloses (d : Nat) (hd : d ∈ l) : r.losesWithoutProbe x d = true := by
    have hup : r.isUp x.other = s.isUp x.other := by simp only [State.isUp, State.port, hports]
    have hhops := (hbefore.fate d).hops
    rcases hnone d hd with h | h <;> simp [State.losesWithoutProbe, hup, hhops, h]
  have hlength : l.length < (r.checks.get x).cutOff.length + 1 := by
    rw [← hpending, pendingAddrs, List.length_map]
    exact Nat.lt_succ_of_le (List.length_filter_le _ _)
  have hends : advanceCheck x r = endCheck x (loseAll x l r) := by
    rw [advanceCheck_rerouting hstate, decideModules_losesEach hlength hstate hdeciding hloses hpending hsorted]
  rw [hends] at hafter hturn
  have hended := endCheck_effects x (loseAll x l r)
  refine ⟨by rw [hturn]; exact endCheck_idle _ _, hafter.reachDone (by rw [endCheck_eq]), fun b hb hlive => ?_⟩
  have hgone := loseAll_gone (s := r) x hb ((hbefore.fate b).live_or_gone hlive)
  have hcutOff : (r.checks.get x).cutOff ≠ [] := fun hnil => by
    rw [hnil] at hpending
    subst hpending
    nomatch hb
  have hring := endCheck_notClosed (loseAll_cutOff hcutOff l)
  refine ⟨(hafter.fate b).gone ((hended.fate b).gone hgone), ?_,
    hafter.moduleLost (hended.moduleLost (loseAll_moduleLost x hb))⟩
  rw [hafter.notClosed hring]
  exact hring

/-! ## The checks of the ports that are not UP (R79 step 6, R156) -/

/-- The check that starts as its port is found not UP. -/
def cutOffCheck (p : Port) (s : State) : Check :=
  { Check.reset with state := .rerouting, result := .brk, cutOff := pendingMarks (s.routedLive p) }

/-- Step 6 of R79: each port's check in turn. -/
def startChecks (s : State) : State := startCheckIfDown .b (startCheckIfDown .a s)

theorem startCheckIfDown_eq (p : Port) (s : State) :
    startCheckIfDown p s =
      { s with
        checks := s.checks.set p
          (if !s.isUp p && s.anyRouted p && !s.checkRunning p then cutOffCheck p s else s.checks.get p) } := by
  unfold startCheckIfDown
  split
  · rfl
  · rw [Pair.set_get]

/-- The check of one port starts whatever the other's does. -/
theorem startChecks_eq (s : State) :
    ∃ d, startChecks s = { s with checks := d }
      ∧ ∀ p, d.get p =
        if !s.isUp p && s.anyRouted p && !s.checkRunning p then cutOffCheck p s else s.checks.get p := by
  refine ⟨_, by rw [startChecks, startCheckIfDown_eq .b, startCheckIfDown_eq .a], fun p => ?_⟩
  cases p <;> rfl

theorem startChecks_effects (s : State) : CheckEffects s (startChecks s) := by
  obtain ⟨d, heq, -⟩ := startChecks_eq s
  rw [heq]
  exact .of_sticky (.of_eq rfl rfl rfl rfl id) rfl rfl

/-- A port that is UP, or on which nothing is routed, starts no check. -/
theorem startChecks_stands (h : s.isUp p = true ∨ s.anyRouted p = false) :
    (startChecks s).checks.get p = s.checks.get p := by
  obtain ⟨d, heq, hd⟩ := startChecks_eq s
  rw [heq]
  refine (hd p).trans (if_neg ?_)
  rcases h with h | h <;> simp [h]

theorem startChecks_starts (hdown : s.isUp p = false) (hrouted : s.anyRouted p = true)
    (hidle : (s.checks.get p).state = .idle) : (startChecks s).checks.get p = cutOffCheck p s := by
  obtain ⟨d, heq, hd⟩ := startChecks_eq s
  rw [heq]
  exact (hd p).trans (if_pos (by simp [hdown, hrouted, State.checkRunning, hidle]))

/-! ## The stop (R79) -/

/-- The state at step 5 of R79: the roster PARTIAL, the census IDLE with result and reason from its cause. -/
def censusEnded (c : StopCause) (s : State) : State :=
  endCensus c.result c.reason { s with rosterState := .partly, fingerprint := s.computeFingerprint }

/-- The state in which the checks start, the slots at the front having met their checks. -/
def frontAtEnd (c : StopCause) (s : State) : State := frontPass (censusEnded c s)

theorem stopCensus_eq (c : StopCause) (s : State) : stopCensus c s = startChecks (frontAtEnd c s) := rfl

theorem exec_censusStop (hreset : s.inReset = false) (hpast : pastClear s) (hstop : s.census.stopPending = some c)
    (hflight : ∀ q, s.carries q .census = false) :
    exec .censusStop s = .next (settle (stopCensus c s)) := by
  have hready : s.stopReady = some c := by
    unfold State.stopReady
    rw [censusInFlight_eq_false hflight, hstop]
    rcases hpast with h | h | h <;> rw [h] <;> rfl
  have hmakes : makeStop s = settle (stopCensus c s) := by rw [makeStop, hready]
  rw [← hmakes]
  exact congrArg Host.Outcome.next (if_neg (by simp [hreset]))

theorem stop_touches (c : StopCause) (s : State) : TouchesSettling (censusEnded c s) (settle (stopCensus c s)) :=
  (((frontPass_touches _).toSettling.trans (startCheckIfDown_touches .a _)).trans
    (startCheckIfDown_touches .b _)).trans (settle_touches _)

theorem stop_effects (c : StopCause) (s : State) : CheckEffects (censusEnded c s) (settle (stopCensus c s)) :=
  ((frontPass_effects _).trans (startChecks_effects _)).trans (settle_effects _)

theorem frontAtEnd_isUp (c : StopCause) (s : State) (p : Port) : (frontAtEnd c s).isUp p = s.isUp p := by
  have hports : (frontAtEnd c s).ports = s.ports := (frontPass_touches (censusEnded c s)).ports
  simp only [State.isUp, State.port, hports]

theorem frontAtEnd_entry (c : StopCause) (s : State) (a : Nat) :
    (frontAtEnd c s).entry a = { s.entry a with toggle := ((frontAtEnd c s).entry a).toggle } :=
  (frontPass_moves (censusEnded c s)).requests.entry a

theorem frontAtEnd_checks (c : StopCause) (s : State) : (frontAtEnd c s).checks = s.checks :=
  frontPass_checks (censusEnded c s)

theorem isUp_eq_false (h : (s.port p).link ≠ .up) : s.isUp p = false := by simp [State.isUp, h]

/-- With both ports UP no check starts, and settling only ends and chooses slots. -/
theorem stop_bothUp (c : StopCause) (hidle : ∀ q, (s.checks.get q).state = .idle)
    (hup : ∀ p, (s.port p).link = .up) : TouchesRequests (censusEnded c s) (settle (stopCensus c s)) := by
  have hstands (p : Port) : startCheckIfDown p (frontAtEnd c s) = frontAtEnd c s := by
    have hp : (frontAtEnd c s).isUp p = true := by rw [frontAtEnd_isUp]; simp [State.isUp, hup]
    simp [startCheckIfDown, hp]
  have hstop : stopCensus c s = frontAtEnd c s := by rw [stopCensus_eq, startChecks, hstands, hstands]
  rw [hstop]
  exact (frontPass_touches _).trans (settle_requests_of_idle hidle (frontAtEnd_checks c s)).touches

/-- A slot that comes to the front as the census ends and fails a front check ends before a check starts. -/
theorem stop_ends (c : StopCause) (h : Waits v b s) (hcheck : s.frontCheck (s.slot v) = some st) :
    (settle (stopCensus c s)).slot v
      = doneWith (s.slot v) st (effectByHistory (s.slot v).kindCode (s.slot v).history) false [] s.epoch := by
  have hdone : (frontAtEnd c s).slot v
      = doneWith (s.slot v) st (effectByHistory (s.slot v).kindCode (s.slot v).history) false [] s.epoch :=
    frontPass_ends (s := censusEnded c s) h rfl hcheck
  have hrest : Moves (frontAtEnd c s) (settle (stopCensus c s)) :=
    (startChecks_effects _).moves.trans (settle_moves _)
  rw [(hrest.slot v).eq_of_finished (by rw [hdone]; rfl), hdone]

/-- The check of a port that is UP, or on which nothing is routed, stands. -/
theorem stop_checkStands (c : StopCause) (hidle : (s.checks.get p).state = .idle)
    (h : (s.port p).link = .up ∨ ∀ a, (s.entry a).route ≠ some p) :
    (settle (stopCensus c s)).checks.get p = s.checks.get p := by
  have hstands : (stopCensus c s).checks.get p = s.checks.get p := by
    rw [stopCensus_eq, startChecks_stands, frontAtEnd_checks]
    refine h.imp (fun hup => ?_) (fun hno => ?_)
    · rw [frontAtEnd_isUp]
      simp [State.isUp, hup]
    · refine Bool.eq_false_iff.2 fun hrouted => ?_
      simp only [State.anyRouted, List.any_eq_true, beq_iff_eq] at hrouted
      obtain ⟨a, -, hroute⟩ := hrouted
      rw [frontAtEnd_entry] at hroute
      exact hno a hroute
  obtain ⟨r, -, -, hcheck, -, hturn⟩ := settle_turn p (stopCensus c s)
  rw [hstands] at hcheck
  rw [hturn, advanceCheck_rests (checkRests_of_idle (by rw [hcheck]; exact hidle)), hcheck]

section
variable (c) (hidle : (s.checks.get p).state = .idle) (hdown : (s.port p).link ≠ .up)
  (hrouted : (s.entry a).route = some p)
include hidle hdown hrouted

theorem stop_checkStarts : (stopCensus c s).checks.get p = cutOffCheck p (frontAtEnd c s) := by
  rw [stopCensus_eq]
  refine startChecks_starts ?_ (anyRouted_of_route (b := a) ?_) ?_
  · rw [frontAtEnd_isUp]
    exact isUp_eq_false hdown
  · rw [frontAtEnd_entry]
    exact hrouted
  · rw [frontAtEnd_checks]
    exact hidle

/-- The check of a port that is not UP has the break at hop 0 and no trigger (R156). -/
theorem stop_break :
    ((settle (stopCensus c s)).checks.get p).result = .brk
      ∧ ((settle (stopCensus c s)).checks.get p).breakLocation = 0
      ∧ ((settle (stopCensus c s)).checks.get p).trigger = 0 := by
  have hstarts := stop_checkStarts c hidle hdown hrouted
  obtain ⟨hbreak, htrigger, hresult⟩ : KeepsBreak ((stopCensus c s).checks.get p)
      ((settle (stopCensus c s)).checks.get p) := settleFrom_keepsBreak .a (by rw [hstarts]; nofun)
  rw [hstarts] at hbreak htrigger hresult
  exact ⟨hresult, hbreak, htrigger⟩

/-- Where no module routed on the port can be probed on the other port, all of them are LOST and the check is over. -/
theorem stop_losesEach (hnone : ∀ a, (s.entry a).live = true → (s.entry a).route = some p →
      (s.port p.other).link ≠ .up ∨ (s.entry a).hops.get p.other = none) :
    ((settle (stopCensus c s)).checks.get p).state = .idle ∧ (settle (stopCensus c s)).sticky.reachDone = true
      ∧ ∀ b, (s.entry b).live = true → (s.entry b).route = some p →
          Gone ((settle (stopCensus c s)).entry b) ∧ (settle (stopCensus c s)).ringState ≠ .closed
            ∧ (settle (stopCensus c s)).sticky.moduleLost = true := by
  have hstarts := stop_checkStarts c hidle hdown hrouted
  have hentry (d : Nat) : (stopCensus c s).entry d = (frontAtEnd c s).entry d := by
    obtain ⟨m, heq, -⟩ := startChecks_eq (frontAtEnd c s)
    rw [stopCensus_eq, heq]
    rfl
  have hup : (stopCensus c s).isUp p.other = s.isUp p.other := by
    simp only [State.isUp, State.port, stopCensus_ports]
  have hlive (d : Nat) : ((frontAtEnd c s).entry d).live = (s.entry d).live := by rw [frontAtEnd_entry]; rfl
  have hmem (d : Nat) : d ∈ (frontAtEnd c s).routedLive p ↔ (s.entry d).live = true ∧ (s.entry d).route = some p := by
    rw [mem_routedLive, hlive, frontAtEnd_entry]
  obtain ⟨hends, hdone, hgone⟩ := settle_losesEach (s := stopCensus c s) (l := (frontAtEnd c s).routedLive p)
    (by rw [hstarts]; rfl) (by rw [hstarts]; rfl)
    (by rw [hstarts]; exact pendingAddrs_pendingMarks _) (routedLive_sorted p _)
    (fun d hd => by
      obtain ⟨hdlive, hdroute⟩ := (hmem d).1 hd
      rw [hup, hentry, frontAtEnd_entry]
      exact (hnone d hdlive hdroute).imp_left isUp_eq_false)
  exact ⟨hends, hdone, fun b hblive hbroute =>
    hgone b ((hmem b).2 ⟨hblive, hbroute⟩) (by rw [hentry, hlive]; exact hblive)⟩
end

/-- Settles O48: the slots at the front meet their checks in the state the census leaves, then each port that is not UP
starts its check, which settles. -/
theorem censusStopEndsCensus : Obligations.CensusStopEndsCensus := by
  unfold Obligations.CensusStopEndsCensus
  intro s c hreset hpast hstop hflight hidle ended
  have hended : ended = censusEnded c s := by cases c <;> rfl
  clear_value ended
  subst hended
  have heffects := stop_effects c s
  have hcauses := heffects.causes
  have hends {v : Tag} {b : Nat} {st : Status} (h : Waits v b s) := stop_ends (st := st) c h
  have hstands {p : Port} := stop_checkStands (p := p) c (hidle p)
  have hbreaks {p : Port} {a : Nat} := stop_break (p := p) (a := a) c (hidle p)
  have hloses {p : Port} {a : Nat} := stop_losesEach (p := p) (a := a) c (hidle p)
  have htouches := stop_touches c s
  have hbothUp := stop_bothUp c hidle
  have hexec := exec_censusStop hreset hpast hstop hflight
  generalize settle (stopCensus c s) = t at *
  refine ⟨t, hexec, htouches, by rw [hcauses]; rfl, by rw [hcauses]; rfl, heffects.notClosed, hbothUp,
    fun v b hwaits => ?_, fun p => ⟨hstands, fun hdown ⟨a, hrouted⟩ => ?_⟩⟩
  · obtain ⟨hvacant, hlost, hlocked⟩ := frontCheck_status hwaits hidle
    exact ⟨fun h => hends hwaits (hvacant h), fun h => hends hwaits (hlost h),
      fun hlive hlock hkind => hends hwaits (hlocked hlive hlock hkind)⟩
  · obtain ⟨hresult, hbreak, htrigger⟩ := hbreaks hdown hrouted
    refine ⟨hresult, hbreak, htrigger, fun hnone => ?_⟩
    obtain ⟨hover, hdone, hgone⟩ := hloses hdown hrouted hnone
    refine ⟨hover, hdone, fun b hlive hroute => ?_⟩
    obtain ⟨⟨hstate, hnoRoute, hmark⟩, hring, hcause⟩ := hgone b hlive hroute
    exact ⟨hstate, hnoRoute, hmark, hring, hcause⟩

end Sys2Proof.Proofs
end

section
/-! Law 1 by itself, with no law of the lock, the census or the ports at hand: what the exchanges in flight ask of their
slots, and the rules that keep it: a slot written, a slot dealt with, an exchange over, a frame handed (R84, R85, R91,
R109, R117, R121). -/

namespace Sys2Proof.Proofs

-- one theorem after the other: many proofs elaborated at once ask for a stack each
set_option Elab.async false

open Sys2Proof.Machine Sys2Proof.Safety

variable {s t u : State} {p : Port} {v : Tag} {x : Xfer}

/-! ## The law, slot by slot -/

/-- What the exchanges in flight ask of a tag's slot, were it `y` (R84). -/
structure Asked (s : State) (v : Tag) (y : Slot) : Prop where
  targeted : ∀ q x, s.inFlight q = some x → Owner.targetedTag x.owner = some v →
    y.state = .active ∧ y.isBcast = false
  bcast : ∀ q x, s.inFlight q = some x → x.owner = .bcast v → ActiveBcast y ∧ y.bcastPorts.get q = true

/-- The request law: every slot is what its exchanges ask, and no targeted slot has one on each port. -/
structure Owned (s : State) : Prop where
  queue : QueueLaw s
  asked : ∀ v, Asked s v (s.slot v)
  alone : ∀ p x y v, s.inFlight p = some x → s.inFlight p.other = some y →
    Owner.targetedTag x.owner = some v → Owner.targetedTag y.owner ≠ some v

theorem requestLaw_iff (s : State) : RequestLaw s ↔ Owned s := by
  constructor
  · rintro ⟨hqueue, htargeted, hbcast⟩
    refine ⟨hqueue, fun v => ⟨fun q x hx ho => ?_, fun q x hx ho => ?_⟩, fun p x y v hx hy ho => ?_⟩
    · obtain ⟨hstate, hkind, -⟩ := htargeted q x v hx ho
      exact ⟨hstate, hkind⟩
    · obtain ⟨hstate, hkind, hport⟩ := hbcast q x v hx ho
      exact ⟨⟨hstate, hkind⟩, hport⟩
    · exact (htargeted p x v hx ho).2.2 y hy
  · rintro ⟨hqueue, hasked, halone⟩
    refine ⟨hqueue, fun p x v hx ho => ?_, fun p x v hx ho => ?_⟩
    · obtain ⟨hstate, hkind⟩ := (hasked v).targeted p x hx ho
      exact ⟨hstate, hkind, fun y hy => halone p x y v hx hy ho⟩
    · obtain ⟨⟨hstate, hkind⟩, hport⟩ := (hasked v).bcast p x hx ho
      exact ⟨hstate, hkind, hport⟩

/-- A slot of no exchange in flight may be anything. -/
theorem NotInFlight.asked (h : NotInFlight v s) (y : Slot) : Asked s v y :=
  ⟨fun q x hx ho => absurd ho (h q x hx).1, fun q x hx ho => absurd ho (h q x hx).2⟩

theorem Owned.notInFlight (h : Owned s) (hv : (s.slot v).state ≠ .active) : NotInFlight v s :=
  fun q x hx => ⟨fun ho => hv ((h.asked v).targeted q x hx ho).1, fun ho => hv ((h.asked v).bcast q x hx ho).1.1⟩

theorem not_active_of_waiting {y : Slot} (h : y.waiting = true) : y.state ≠ .active := by
  intro hactive
  rw [waiting_of_finishedOrActive (.inr hactive)] at h
  nomatch h

/-! ## What leaves the exchanges alone -/

/-- The exchanges stand, and each slot stands or is still what they ask. -/
theorem Owned.congr (h : Owned s) (hqueue : QueueLaw t) (hflight : ∀ q, t.inFlight q = s.inFlight q)
    (hslot : ∀ v, t.slot v = s.slot v ∨ Asked s v (t.slot v)) : Owned t := by
  refine ⟨hqueue, fun v => ?_, fun p x y v hx hy => ?_⟩
  · have hasked : Asked s v (t.slot v) := by
      rcases hslot v with heq | hasked
      · exact heq ▸ h.asked v
      · exact hasked
    exact ⟨fun q x hx => hasked.targeted q x (hflight q ▸ hx), fun q x hx => hasked.bcast q x (hflight q ▸ hx)⟩
  · rw [hflight] at hx hy
    exact h.alone p x y v hx hy

theorem Owned.settles (h : Owned s) (hs : Settles s t) : Owned t :=
  h.congr (hs.queue h.queue) hs.flight fun v =>
    (hs.slot v).imp_right fun ⟨hwaits, _⟩ => (h.notInFlight (not_active_of_waiting hwaits)).asked _

theorem Owned.stands (h : Owned s) (hs : Stands s t) : Owned t := h.settles (.of_stands hs)

theorem Owned.of_eq (h : Owned s) (hslots : t.slots = s.slots) (hqueue : t.completionQueue = s.completionQueue)
    (hports : t.ports = s.ports) : Owned t :=
  h.congr (queueLaw_of_eq hslots hqueue h.queue) (flight_of_ports hports)
    fun v => .inl (State.slot_eq_of_slots hslots v)

/-- A slot is written without a step into DONE or out of it. -/
theorem queueLaw_setSlot {y : Slot} (h : QueueLaw s) (hdone : y.state = .done ↔ (s.slot v).state = .done) :
    QueueLaw (s.setSlot v y) := by
  refine ⟨h.1, fun w => ?_⟩
  rw [State.slot_setSlot]
  split
  · next hwv =>
    rw [hdone, ← hwv]
    exact h.2 w
  · exact h.2 w

theorem Owned.setSlot (h : Owned s) {y : Slot} (hdone : y.state = .done ↔ (s.slot v).state = .done)
    (hasked : Asked s v y) : Owned (s.setSlot v y) := by
  refine h.congr (queueLaw_setSlot h.queue hdone) (fun _ => rfl) fun w => ?_
  rw [State.slot_setSlot]
  split
  · next hwv =>
    rw [hwv]
    exact .inr hasked
  · exact .inl rfl

/-- A slot written with its state, kind and ports as they were. -/
theorem Owned.setSlot_alike (h : Owned s) {y : Slot} (hstate : y.state = (s.slot v).state)
    (hcode : y.kindCode = (s.slot v).kindCode) (hports : y.bcastPorts = (s.slot v).bcastPorts) :
    Owned (s.setSlot v y) := by
  have hkind : y.isBcast = (s.slot v).isBcast := by simp only [Slot.isBcast, Slot.kind, hcode]
  refine h.setSlot (by rw [hstate]) ⟨fun q x hx ho => ?_, fun q x hx ho => ?_⟩
  · rw [hstate, hkind]
    exact (h.asked v).targeted q x hx ho
  · unfold ActiveBcast
    rw [hstate, hkind, hports]
    exact (h.asked v).bcast q x hx ho

/-! ## Dealing with one slot -/

/-- A slot is dealt with: of the others only waiting ones change (R65, R107), and the queue keeps its law. -/
structure Deals (v : Tag) (s t : State) : Prop where
  queue : QueueLaw s → QueueLaw t
  flight : ∀ q, t.inFlight q = s.inFlight q
  others : ∀ w, w ≠ v → (s.slot w).waiting = false → t.slot w = s.slot w

theorem Deals.refl (v : Tag) (s : State) : Deals v s s := ⟨id, fun _ => rfl, fun _ _ _ => rfl⟩

theorem Deals.trans (h : Deals v s t) (k : Deals v t u) : Deals v s u where
  queue hs := k.queue (h.queue hs)
  flight q := (k.flight q).trans (h.flight q)
  others w hne hw := by
    have heq := h.others w hne hw
    exact (k.others w hne (heq ▸ hw)).trans heq

theorem Settles.deals (h : Settles s t) (v : Tag) : Deals v s t where
  queue := h.queue
  flight := h.flight
  others w _ hw := (h.slot w).eq_of_not_waiting hw

/-- A slot of no exchange in flight may be dealt with. -/
theorem Owned.deals (h : Owned s) (hfree : NotInFlight v s) (hd : Deals v s t) : Owned t := by
  refine h.congr (hd.queue h.queue) hd.flight fun w => ?_
  by_cases hwv : w = v
  · rw [hwv]
    exact .inr (hfree.asked _)
  · by_cases hwaits : (s.slot w).waiting = true
    · exact .inr ((h.notInFlight (not_active_of_waiting hwaits)).asked _)
    · exact .inl (hd.others w hwv (by simpa using hwaits))

theorem setSlot_deals {y : Slot} (hdone : y.state = .done ↔ (s.slot v).state = .done) :
    Deals v s (s.setSlot v y) where
  queue hs := queueLaw_setSlot hs hdone
  flight _ := rfl
  others _ hne _ := State.slot_setSlot_ne _ hne _

theorem complete_deals (v : Tag) (st : Status) (late : Bool) (data : List Byte) (s : State) :
    Deals v s (complete v st late data s) where
  queue := queueLaw_complete v st late data
  flight := flight_of_ports (complete_touches v st late data s).ports
  others _ hne _ := complete_slot_ne v st late data hne s

theorem completeActive_deals (v : Tag) (st : Status) (late : Bool) (data : List Byte) (s : State) :
    Deals v s (completeActive v st late data s) := by
  have hended := complete_deals v st late data s
  have hfollower (target : Option Nat) (r : State) (w : Tag) : Settles r (flushFollower target w r) := by
    unfold flushFollower
    simp only
    split
    · next hqueued =>
      simp only [Bool.and_eq_true, beq_iff_eq] at hqueued
      exact settles_finish (by simp [Slot.waiting, hqueued.1.1]) _
    · exact .refl r
  unfold completeActive
  simp only
  split
  · exact hended.trans ((settles_foldl (hfollower _) _ _).deals v)
  · exact hended

theorem waitOrFlush_deals (h : (s.slot v).state = .active) (b : Option Nat) : Deals v s (waitOrFlush v b s) := by
  unfold waitOrFlush
  split
  · exact completeActive_deals _ _ _ _ _
  · exact setSlot_deals (by simp [h])

theorem busyDecision_deals (h : (s.slot v).state = .active) : Deals v s (busyDecision v s) := by
  unfold busyDecision
  simp only
  split
  · exact completeActive_deals _ _ _ _ _
  · refine (setSlot_deals (by rfl)).trans (waitOrFlush_deals ?_ _)
    rw [State.slot_setSlot_same]
    exact h

theorem failedDecision_deals (h : (s.slot v).state = .active) : Deals v s (failedDecision v s) := by
  unfold failedDecision
  split
  · exact waitOrFlush_deals h _
  · exact completeActive_deals _ _ _ _ _

theorem decideSlot_deals (h : (s.slot v).state = .active) (d : Decision) : Deals v s (decideSlot v d s) := by
  unfold decideSlot
  split
  · split <;> exact completeActive_deals _ _ _ _ _
  · split
    · exact completeActive_deals _ _ _ _ _
    · exact completeActive_deals _ _ _ _ _
    · exact busyDecision_deals h
    · exact failedDecision_deals h
    · exact waitOrFlush_deals h _

theorem Settles.active (h : Settles s t) (hv : (s.slot v).state = .active) : t.slot v = s.slot v :=
  (h.slot v).eq_of_not_waiting (waiting_of_finishedOrActive (.inr hv))

theorem attemptOutcome_deals (h : (s.slot v).state = .active) (f : Frame) (o : PortOutcome) :
    Deals v s (attemptOutcome v f o s) := by
  unfold attemptOutcome
  simp only
  split
  · exact .refl v s
  · next k _ =>
    have hreport := settles_reportAttempt k ((s.slot v).target.getD 0) f o s
    refine ((hreport.deals v).trans (setSlot_deals (by rfl))).trans (decideSlot_deals ?_ _)
    rw [State.slot_setSlot_same, hreport.active h]
    exact h

/-! ## An exchange over -/

theorem Owned.drops (h : Owned s) (hd : Drops p s t) : Owned t := by
  have hflight {q : Port} {x : Xfer} (hx : t.inFlight q = some x) : q = p.other ∧ s.inFlight q = some x := by
    rcases Port.eq_or_other p q with rfl | rfl
    · rw [hd.gone] at hx
      nomatch hx
    · exact ⟨rfl, hd.other ▸ hx⟩
  refine ⟨queueLaw_of_eq hd.slots hd.queue h.queue, fun v => ?_, fun q x y v hx hy => ?_⟩
  · rw [State.slot_eq_of_slots hd.slots]
    exact ⟨fun q x hx => (h.asked v).targeted q x (hflight hx).2,
      fun q x hx => (h.asked v).bcast q x (hflight hx).2⟩
  · exact h.alone q x y v (hflight hx).2 (hflight hy).2

/-- The slot of an attempt or resynchronising PROBE that ended has no other exchange in flight (R84). -/
theorem Owned.notInFlight_of_drops (h : Owned s) (hd : Drops p s t) (hx : s.inFlight p = some x)
    (ho : Owner.targetedTag x.owner = some v) : NotInFlight v t := by
  intro q y hy
  rcases Port.eq_or_other p q with rfl | rfl
  · rw [hd.gone] at hy
    nomatch hy
  · rw [hd.other] at hy
    refine ⟨h.alone p x y v hx hy ho, fun hb => ?_⟩
    have hkind := ((h.asked v).targeted p x hx ho).2
    rw [((h.asked v).bcast _ y hy hb).1.2] at hkind
    nomatch hkind

/-! ## A frame handed (R31, R109, R117, R121) -/

theorem Owned.handFrame (h : Owned s) (hidle : s.inFlight p = none)
    (htargeted : ∀ v, Owner.targetedTag x.owner = some v →
      (s.slot v).state = .active ∧ (s.slot v).isBcast = false ∧ NotInFlight v s)
    (hbcast : ∀ v, x.owner = .bcast v → ActiveBcast (s.slot v) ∧ (s.slot v).bcastPorts.get p = true) :
    Owned (handFrame p x s) := by
  have hflight {q : Port} {y : Xfer} (hy : (Machine.handFrame p x s).inFlight q = some y) :
      (q = p ∧ y = x) ∨ (q = p.other ∧ s.inFlight q = some y) := by
    rcases Port.eq_or_other p q with rfl | rfl
    · rw [inFlight_handFrame_same] at hy
      exact .inl ⟨rfl, (Option.some.inj hy).symm⟩
    · rw [inFlight_handFrame_other] at hy
      exact .inr ⟨rfl, hy⟩
  refine ⟨h.queue, fun v => ⟨fun q y hy ho => ?_, fun q y hy ho => ?_⟩, fun q y z v hy hz ho => ?_⟩
  · rcases hflight hy with ⟨-, rfl⟩ | ⟨-, hold⟩
    · obtain ⟨hstate, hkind, -⟩ := htargeted v ho
      exact ⟨hstate, hkind⟩
    · exact (h.asked v).targeted q y hold ho
  · rcases hflight hy with ⟨rfl, rfl⟩ | ⟨-, hold⟩
    · exact hbcast v ho
    · exact (h.asked v).bcast q y hold ho
  · rcases hflight hy with ⟨rfl, rfl⟩ | ⟨rfl, hold⟩
    · rw [inFlight_handFrame_other] at hz
      exact ((htargeted v ho).2.2 _ z hz).1
    · rw [Port.other_other, inFlight_handFrame_same] at hz
      obtain rfl := Option.some.inj hz
      exact fun hx => ((htargeted v hx).2.2 _ y hold).1 ho

/-- A frame of no slot. -/
theorem Owned.handOther (h : Owned s) (hidle : s.inFlight p = none) (htargeted : Owner.targetedTag x.owner = none)
    (hbcast : ∀ v, x.owner ≠ .bcast v) : Owned (Machine.handFrame p x s) := by
  refine h.handFrame hidle (fun v ho => ?_) fun v ho => absurd ho (hbcast v)
  rw [htargeted] at ho
  nomatch ho

/-- A slot is written ACTIVE, and an attempt or resynchronising PROBE of it is handed. -/
theorem Owned.handTargeted (h : Owned s) (hidle : s.inFlight p = none) (hfree : NotInFlight v s)
    (hdone : (s.slot v).state ≠ .done) (hkind : (s.slot v).isBcast = false) {y : Slot} (hstate : y.state = .active)
    (hcode : y.kindCode = (s.slot v).kindCode) (ho : Owner.targetedTag x.owner = some v) :
    Owned (Machine.handFrame p x (s.setSlot v y)) := by
  have hset : Owned (s.setSlot v y) := h.setSlot (by simp [hstate, hdone]) (hfree.asked y)
  refine hset.handFrame hidle (fun w hw => ?_) fun w hw => ?_
  · obtain rfl := Option.some.inj (ho.symm.trans hw)
    rw [State.slot_setSlot_same]
    refine ⟨hstate, ?_, hfree.congr fun _ => rfl⟩
    simp only [Slot.isBcast, Slot.kind, hcode] at hkind ⊢
    exact hkind
  · rw [hw] at ho
    nomatch ho

theorem Owned.makeAttempt (h : Owned s) (hidle : s.inFlight p = none) (hfree : NotInFlight v s)
    (hdone : (s.slot v).state ≠ .done) (hkind : (s.slot v).isBcast = false) (k : ReqKind) :
    Owned (makeAttempt p v k s) := by
  unfold Machine.makeAttempt
  exact h.handTargeted hidle hfree hdone hkind rfl rfl rfl

theorem Owned.makeResync (h : Owned s) (hidle : s.inFlight p = none) (hfree : NotInFlight v s)
    (hdone : (s.slot v).state ≠ .done) (hkind : (s.slot v).isBcast = false) : Owned (makeResync p v s) := by
  have hfollow : Owned { s with followUps := s.followUps.set p (some v) } := h.of_eq rfl rfl rfl
  exact Owned.handTargeted hfollow hidle hfree hdone hkind rfl rfl rfl

end Sys2Proof.Proofs
end

section
/-! Law 1 by itself through the outcomes of exchanges, the arbiter and every other act of a command (R29, R38, R65, R79,
R84, R89, R97 to R100, R103, R121). -/

namespace Sys2Proof.Proofs

-- one theorem after the other: many proofs elaborated at once ask for a stack each
set_option Elab.async false

open Sys2Proof.Machine Sys2Proof.Safety

variable {s t : State} {p : Port} {v : Tag} {x : Xfer}

/-! ## The owner of an exchange that ended (R38, R118, R121) -/

theorem Owned.resyncOutcome (h : Owned s) (hidle : s.inFlight p = none) (hfree : NotInFlight v s)
    (hstate : (s.slot v).state = .active) (hkind : (s.slot v).isBcast = false) (o : PortOutcome) :
    Owned (resyncOutcome p v o s) := by
  have hreport : Settles s (clearFollowUp p (reportResync ((s.slot v).target.getD 0) o s)) :=
    (settles_reportProbe _ o s).trans (.of_stands ⟨rfl, rfl, rfl, rfl, rfl, fun _ => rfl⟩)
  have hreported := h.settles hreport
  have hslot := hreport.active hstate
  unfold Machine.resyncOutcome
  simp only
  generalize clearFollowUp p (reportResync ((s.slot v).target.getD 0) o s) = r at *
  have hactive : (r.slot v).state = .active := by rw [hslot]; exact hstate
  have hrest : NotInFlight v r := hfree.congr hreport.flight
  have hends (st : Status) : Owned (completeActive v st false [] r) :=
    hreported.deals hrest (completeActive_deals _ _ _ _ _)
  have hwaits : Owned (waitOrFlush v none r) := hreported.deals hrest (waitOrFlush_deals hactive _)
  split
  · exact hends _
  · split
    · exact hends _
    · unfold resyncMatched
      split
      · exact hends _
      · have hset : Owned (r.setSlot v { r.slot v with toggleUsed := some false }) :=
          hreported.setSlot_alike rfl rfl rfl
        refine hset.makeAttempt ((hreport.flight p).trans hidle) (hrest.congr fun _ => rfl) ?_ ?_ _
        · rw [State.slot_setSlot_same]
          simp [hactive]
        · rw [State.slot_setSlot_same]
          exact (congrArg Slot.isBcast hslot).trans hkind
    · exact hends _
    · exact hreported.deals hrest (busyDecision_deals hactive)
    · exact hwaits
    · exact hwaits

/-- A broadcast loses a port on which nothing is in flight, and ends where it was the last (R121). -/
theorem Owned.portLeaves (h : Owned s) (hgone : s.inFlight p = none) (hactive : ActiveBcast (s.slot v)) {y : Slot}
    (hstate : y.state = .active) (hcode : y.kindCode = (s.slot v).kindCode)
    (hports : y.bcastPorts = (s.slot v).bcastPorts.set p false) : Owned (bcastMaybeDone v (s.setSlot v y)) := by
  have hkind : y.isBcast = true := by
    have hold := hactive.2
    simp only [Slot.isBcast, Slot.kind, hcode] at hold ⊢
    exact hold
  have htargeted (q : Port) (x : Xfer) (hx : s.inFlight q = some x) : Owner.targetedTag x.owner ≠ some v := by
    intro ho
    have hnot := ((h.asked v).targeted q x hx ho).2
    rw [hactive.2] at hnot
    nomatch hnot
  have hbcast (q : Port) (x : Xfer) (hx : s.inFlight q = some x) (ho : x.owner = .bcast v) :
      y.bcastPorts.get q = true := by
    rw [hports]
    rcases Port.eq_or_other p q with rfl | rfl
    · rw [hgone] at hx
      nomatch hx
    · rw [Pair.get_set_other]
      exact ((h.asked v).bcast _ x hx ho).2
  have hset : Owned (s.setSlot v y) :=
    h.setSlot (by simp [hstate, hactive.1])
      ⟨fun q x hx ho => absurd ho (htargeted q x hx), fun q x hx ho => ⟨⟨hstate, hkind⟩, hbcast q x hx ho⟩⟩
  unfold bcastMaybeDone
  simp only
  split
  · exact hset
  · next hleft =>
    rw [State.slot_setSlot_same] at hleft
    refine hset.deals (v := v) (fun q x hx => ⟨htargeted q x hx, fun ho => hleft ?_⟩) (complete_deals _ _ _ _ _)
    exact pair_get_exists.1 ⟨q, hbcast q x hx ho⟩

/-- Whatever the outcome, its owner keeps the law. -/
theorem Owned.applyOutcome (h : Owned s) (hx : s.inFlight p = some x) (hd : Drops p s t) (o : PortOutcome) :
    Owned (applyOutcome p x o t) := by
  have ht := h.drops hd
  have hslot (w : Tag) : t.slot w = s.slot w := State.slot_eq_of_slots hd.slots w
  unfold Machine.applyOutcome
  split
  · rcases censusOutcome_cases p o t with heq | ⟨-, hslots, hqueue⟩
    · rw [heq]
      exact ht
    · exact ht.of_eq hslots hqueue (censusOutcome_ports p o t)
  · exact ht.settles (settles_checkOutcome p _ _ o t)
  · next w ho =>
    have hfor : Owner.targetedTag x.owner = some w := by rw [ho]; rfl
    refine ht.deals (h.notInFlight_of_drops hd hx hfor) (attemptOutcome_deals ?_ _ o)
    rw [hslot]
    exact ((h.asked w).targeted p x hx hfor).1
  · next w ho =>
    have hfor : Owner.targetedTag x.owner = some w := by rw [ho]; rfl
    obtain ⟨hstate, hkind⟩ := (h.asked w).targeted p x hx hfor
    exact ht.resyncOutcome hd.gone (h.notInFlight_of_drops hd hx hfor) (by rw [hslot]; exact hstate)
      (by rw [hslot]; exact hkind) o
  · next w ho =>
    have hactive : ActiveBcast (t.slot w) := by
      rw [hslot]
      exact ((h.asked w).bcast p x hx ho).1
    unfold bcastOutcome
    simp only
    refine ht.portLeaves hd.gone hactive ?_ ?_ ?_
    · split <;> exact hactive.1
    · split <;> rfl
    · split <;> rfl
  · exact ht.settles (settles_pollOutcome _ o t)
  · exact ht.settles (settles_fetchOutcome p _ o t)

theorem Owned.endExchange (h : Owned s) (hx : s.inFlight p = some x) (o : PortOutcome) :
    Owned (endExchange p x o s) := by
  have hdrops : Drops p s (s.setExch p .idle) :=
    drops_setPort (y := { s.port p with exch := .idle }) rfl rfl rfl rfl rfl rfl
  exact (h.applyOutcome hx hdrops o).settles (settles_settle _)

/-! ## A port leaving UP (R29) -/

theorem Owned.bcastPortGone (h : Owned s) (hgone : s.inFlight p = none) (w : Tag) : Owned (bcastPortGone p w s) := by
  unfold Machine.bcastPortGone
  simp only
  split
  · next hwaits =>
    simp only [Bool.and_eq_true, beq_iff_eq] at hwaits
    obtain ⟨⟨hkind, hstate⟩, -⟩ := hwaits
    exact h.portLeaves hgone ⟨hstate, hkind⟩ hstate rfl rfl
  · exact h

theorem Owned.bcastPortGoneAll (h : Owned s) (hgone : s.inFlight p = none) : Owned (bcastPortGoneAll p s) := by
  have hstep (r : State) (w : Tag) (hr : Owned r ∧ r.inFlight p = none) :
      Owned (Machine.bcastPortGone p w r) ∧ (Machine.bcastPortGone p w r).inFlight p = none :=
    ⟨hr.1.bcastPortGone hr.2 w, (flight_of_ports (bcastPortGone_ports p w r) p).trans hr.2⟩
  exact (foldl_relates (R := fun r r' => Owned r ∧ r.inFlight p = none → Owned r' ∧ r'.inFlight p = none)
    (fun _ => id) (fun h k hr => k (h hr)) hstep _ s ⟨h, hgone⟩).1

theorem Owned.endTraffic (h : Owned s) (p : Port) (l : LinkState) : Owned (endTraffic p l s) := by
  have hdrops : Drops p s (dropLink p l s) :=
    drops_setPort (y := { s.port p with link := l, idleRun := 0, lossTimer := false, exch := .held, rx := .nothing })
      rfl rfl rfl rfl rfl rfl
  have htold : Owned (tellLinkLost p (s.port p).exch s.freeCount (dropLink p l s)) := by
    unfold tellLinkLost
    split
    · next x hx => exact h.applyOutcome hx hdrops _
    · exact h.drops hdrops
  have hgone : (tellLinkLost p (s.port p).exch s.freeCount (dropLink p l s)).inFlight p = none :=
    (flight_of_ports (tellLinkLost_ports p _ _ _) p).trans hdrops.gone
  exact (htold.bcastPortGoneAll hgone).settles (settles_frontPass _)

theorem Owned.leaveUp (h : Owned s) (p : Port) (l : LinkState) : Owned (leaveUp p l s) := by
  have htold := ((h.endTraffic p l).stands (stands_censusPortLeft p _)).settles (settles_tellChecks p _)
  have hcount (r : State) (n : Nat) : Settles r { r with freeCount := n } :=
    .of_stands ⟨rfl, rfl, rfl, rfl, rfl, fun _ => rfl⟩
  unfold Machine.leaveUp
  exact htold.settles (Settles.trans (hcount _ _) (settles_settleFrom _ _))

/-! ## The arbiter (R103, R104) -/

theorem Owned.handCensus (h : Owned s) (hidle : s.inFlight p = none) : Owned (handCensus p s) := by
  have hclaim (q : Port) (hq : s.inFlight q = none) : Owned (startClaim q s) := by
    have hcounted : Owned { s with census := { s.census with
        position := s.tails.get q + 1
        tries := if s.census.position = s.tails.get q + 1 then s.census.tries + 1 else 1 } } := h.of_eq rfl rfl rfl
    exact hcounted.handOther hq rfl nofun
  unfold Machine.handCensus
  split
  · split
    · exact h.handOther hidle rfl nofun
    · exact h
  · split
    · exact hclaim .a hidle
    · exact h
  · split
    · exact hclaim .b hidle
    · exact h
  · exact h

theorem Owned.startProbe (h : Owned s) (hidle : s.inFlight p = none) (q : Port) (a : Nat) :
    Owned (startProbe p q a s) := by
  unfold Machine.startProbe
  exact (h.settles (settles_setCheck q _ s)).handOther hidle rfl nofun

theorem Owned.startSweep (h : Owned s) (hidle : s.inFlight p = none) (c : SweepChoice) : Owned (startSweep p c s) := by
  unfold Machine.startSweep
  split
  · next a => exact Owned.handOther (s := reserve p a (setCursor p a s)) (h.of_eq rfl rfl rfl) hidle rfl nofun
  · next a => exact Owned.handOther (s := setCursor p a s) (h.of_eq rfl rfl rfl) hidle rfl nofun
  · exact h

theorem Owned.startBcast (h : Owned s) (hidle : s.inFlight p = none) (hactive : ActiveBcast (s.slot v))
    (hport : (s.slot v).bcastPorts.get p = true) : Owned (startBcast p v s) := by
  have hset : Owned (s.setSlot v { s.slot v with attempts := (s.slot v).attempts + 1 }) := h.setSlot_alike rfl rfl rfl
  refine hset.handFrame hidle nofun fun w hw => ?_
  obtain rfl := Owner.bcast.inj hw
  rw [State.slot_setSlot_same]
  exact ⟨hactive, hport⟩

theorem Owned.startSlot (h : Owned s) (hidle : s.inFlight p = none) (heligible : s.eligible p v = true) :
    Owned (startSlot p v s) := by
  obtain ⟨-, hwaits, hkind, -⟩ := eligible_facts heligible
  have hfree : NotInFlight v s := h.notInFlight (not_active_of_waiting hwaits)
  have hdone := not_done_of_unfinished (unfinished_of_waiting hwaits)
  unfold Machine.startSlot
  split
  · exact h.makeResync hidle hfree hdone hkind
  · split
    · exact h.makeAttempt hidle hfree hdone hkind _
    · exact h

theorem Owned.startHost (h : Owned s) (hidle : s.inFlight p = none) {f : HostFrame} (hf : s.hostFrame p = some f) :
    Owned (startHost p f s) := by
  have hmarker : Owned (setMarker p .host s) := h.of_eq rfl rfl rfl
  unfold State.hostFrame at hf
  split at hf
  · next w hw =>
    obtain rfl := Option.some.inj hf
    have hready := List.find?_some hw
    simp only [Bool.and_eq_true, beq_iff_eq] at hready
    obtain ⟨⟨⟨hkind, hstate⟩, hport⟩, -⟩ := hready
    exact hmarker.startBcast hidle ⟨hstate, hkind⟩ hport
  · obtain ⟨w, hw, rfl⟩ := Option.map_eq_some_iff.1 hf
    have heligible : s.eligible p w = true := List.find?_some hw
    exact hmarker.startSlot hidle heligible

theorem Owned.handShared (h : Owned s) (hidle : s.inFlight p = none) : Owned (handShared p s) := by
  have hmarker : Owned (setMarker p .sweep s) := h.of_eq rfl rfl rfl
  unfold Machine.handShared
  split
  · exact h
  · exact hmarker.startSweep hidle _
  · exact h.startHost hidle ‹_›
  · split
    · exact hmarker.startSweep hidle _
    · exact h.startHost hidle ‹_›

theorem Owned.arbitrate (h : Owned s) (hidle : s.inFlight p = none) : Owned (arbitrate p s) := by
  have htested : Stands s (testBacklog p s) := by
    unfold testBacklog
    split
    · exact ⟨rfl, rfl, rfl, rfl, rfl, fun _ => rfl⟩
    · exact .refl s
  unfold Machine.arbitrate
  split
  · exact h.handCensus hidle
  · split
    · split
      · exact h.startProbe hidle _ _
      · split
        · exact h.startProbe hidle _ _
        · exact h
    · split
      · exact h.startProbe hidle _ _
      · exact (h.stands htested).handShared ((htested.flight p).trans hidle)

/-! ## CANCEL and START_CENSUS (R65, R98, R100) -/

/-- A stopped broadcast keeps the ports on which it is being sent. -/
theorem Owned.stopBcast (h : Owned s) (v : Tag) : Owned (stopBcast v s) := by
  refine h.setSlot .rfl ⟨fun q x hx ho => (h.asked v).targeted q x hx ho, fun q x hx ho => ?_⟩
  obtain ⟨hactive, hport⟩ := (h.asked v).bcast q x hx ho
  refine ⟨hactive, ?_⟩
  rw [stoppedPorts_get, hport, (carries_iff _).2 ⟨x, hx, ho⟩]
  rfl

/-- A broadcast of which no frame is being sent is stopped and ended. -/
theorem Owned.endBcast (h : Owned s) (hkind : (s.slot v).isBcast = true) (hno : s.bcastInFlight v = false)
    (st : Status) : Owned (finish v st (Machine.stopBcast v s)) := by
  have hfree : NotInFlight v s := by
    refine fun q x hx => ⟨fun ho => ?_, fun ho => ?_⟩
    · rw [((h.asked v).targeted q x hx ho).2] at hkind
      nomatch hkind
    · rw [(bcastInFlight_iff v s).2 ⟨q, (carries_iff _).2 ⟨x, hx, ho⟩⟩] at hno
      nomatch hno
  exact (h.stopBcast v).deals (hfree.congr fun _ => rfl) (complete_deals v st false [] _)

theorem Owned.cancelActive (h : Owned s) (v : Tag) : Owned (cancelActive v s) := by
  unfold Machine.cancelActive
  split
  · next hkind =>
    split
    · exact (h.stopBcast v).setSlot_alike rfl rfl rfl
    · next hno => exact h.endBcast hkind (by simpa using hno) _
  · exact h.setSlot_alike rfl rfl rfl

theorem Owned.flushAtStart (h : Owned s) (v : Tag) : Owned (flushAtStart v s) := by
  unfold Machine.flushAtStart
  simp only
  split
  · next hstate => exact h.settles (settles_finish (by simp [Slot.waiting, hstate]) _)
  · next hstate =>
    split
    · exact h.setSlot_alike rfl rfl rfl
    · exact h.settles (settles_finish (by simp [Slot.waiting, hstate]) _)
  · split
    · next hkind =>
      split
      · exact h.stopBcast v
      · next hno => exact h.endBcast hkind (by simpa using hno) _
    · exact h
  · exact h

theorem Owned.startCensus (h : Owned s) : Owned (startCensus s) := by
  have hdraining : Owned { s with census := { s.census with
      result := .none, reason := .none, stopPending := none, state := .draining } } := h.of_eq rfl rfl rfl
  have hflushed := foldl_relates (R := fun r r' => Owned r → Owned r') (fun _ => id) (fun h k hr => k (h hr))
    (fun r w (hr : Owned r) => hr.flushAtStart w) s.unfinishedTags _ hdraining
  have habandon (q : Port) (r : State) : Settles r (abandonCheck q r) := by
    unfold abandonCheck
    simp only
    split
    · exact .refl r
    · exact settles_setCheck q _ r
  exact (hflushed.settles (habandon .a _)).settles (habandon .b _)

/-! ## The clear and the stop (R67, R68, R79) -/

theorem Owned.stopCensus (h : Owned s) (c : StopCause) : Owned (stopCensus c s) := by
  have hended : Owned (endCensus c.result c.reason
      { s with rosterState := .partly, fingerprint := s.computeFingerprint }) := h.of_eq rfl rfl rfl
  exact hended.settles
    (((settles_frontPass _).trans (settles_startCheckIfDown .a _)).trans (settles_startCheckIfDown .b _))

theorem Owned.makeClear (h : Owned s) : Owned (makeClear s) := by
  have hcleared : Owned (clearCensus s) := by
    have hflushed := h.settles (settles_flushQueued s)
    unfold clearCensus
    generalize flushQueued s = r at hflushed
    exact hflushed.of_eq rfl rfl rfl
  have hafter {r : State} (hr : Owned r) : Owned (afterClear r) := by
    unfold afterClear
    split
    · exact hr.stopCensus _
    · split
      · exact hr.of_eq rfl rfl rfl
      · exact hr.of_eq rfl rfl rfl
  exact (hafter hcleared).settles (settles_settle _)

theorem Owned.makeStop (h : Owned s) : Owned (makeStop s) := by
  unfold Machine.makeStop
  split
  · exact (h.stopCensus _).settles (settles_settle _)
  · exact h

theorem Owned.endSettle (h : Owned s) : Owned (endSettle s) := by
  unfold Machine.endSettle
  simp only
  split <;> exact h.of_eq rfl rfl rfl

/-! ## SUBMIT and POP_COMPLETION (R86, R89, R97) -/

theorem free_of_lowestFree (h : s.lowestFree = some v) : (s.slot v).state = .free := by
  unfold State.lowestFree at h
  simpa using List.find?_some h

theorem validateTarget_deals (v : Tag) (s : State) : Deals v s (validateTarget v s) := by
  unfold validateTarget
  split
  · exact .refl v s
  · split
    · split
      · exact complete_deals _ _ _ _ _
      · split
        · exact complete_deals _ _ _ _ _
        · exact .refl v s
    · exact .refl v s

theorem takeSlot_deals (h : (s.slot v).state = .free) : Deals v s (takeSlot v s) := by
  have htaken : Deals v s { s.setSlot v (slotFromMailbox s.mailbox s.submissionCounter (mailboxValid s.mailbox)) with
      submissionCounter := s.submissionCounter + 1, submitResult := .accepted v } := by
    obtain ⟨hqueue, hflight, hothers⟩ := setSlot_deals (s := s) (v := v)
      (y := slotFromMailbox s.mailbox s.submissionCounter (mailboxValid s.mailbox)) (by simp [slotFromMailbox, h])
    exact ⟨hqueue, hflight, hothers⟩
  unfold takeSlot
  simp only
  split
  · exact htaken.trans (validateTarget_deals v _)
  · exact htaken.trans (complete_deals _ _ _ _ _)

theorem queueLaw_popHead (h : QueueLaw s) {rest : List Tag} (hqueue : s.completionQueue = v :: rest) :
    QueueLaw (popHead v rest s) := by
  obtain ⟨hnodup, hmem⟩ := h
  rw [hqueue] at hnodup
  obtain ⟨hout, hrest⟩ := List.nodup_cons.1 hnodup
  refine ⟨hrest, fun w => ?_⟩
  have hslot : (popHead v rest s).slot w = if w = v then Slot.free else s.slot w := State.slot_setSlot s v w Slot.free
  show w ∈ rest ↔ _
  rw [hslot]
  split
  · next hwv =>
    rw [hwv]
    exact ⟨fun hin => absurd hin hout, nofun⟩
  · next hwv => rw [← hmem w, hqueue, List.mem_cons, or_iff_right hwv]

theorem Owned.popHead (h : Owned s) {rest : List Tag} (hqueue : s.completionQueue = v :: rest) :
    Owned (popHead v rest s) := by
  have hdone : (s.slot v).state = .done := (h.queue.2 v).1 (by simp [hqueue])
  have hpops : Deals v s (Machine.popHead v rest s) :=
    ⟨fun hs => queueLaw_popHead hs hqueue, fun _ => rfl, fun _ hne _ => State.slot_setSlot_ne s hne Slot.free⟩
  exact h.deals (h.notInFlight (by simp [hdone])) hpops

/-! ## The statement -/

theorem Quiet.owned (h : Quiet s) : Owned s := by
  have hnone {p : Port} {x : Xfer} {c : Prop} (hx : s.inFlight p = some x) : c := by
    rw [h.flights p] at hx
    nomatch hx
  exact ⟨h.queue, fun v => ⟨fun _ _ hx => hnone hx, fun _ _ hx => hnone hx⟩, fun _ _ _ _ hx => hnone hx⟩

/-- Every act keeps the law. -/
theorem Owned.act (hact : Act s t) (h : Owned s) : Owned t := by
  cases hact with
  | stands hs => exact h.stands hs
  | endExchange hx o => exact h.endExchange hx o
  | leaveUp p l => exact h.leaveUp p l
  | arbitrate hcan => exact h.arbitrate (inFlight_of_canHand hcan)
  | takeSlot hfree =>
    have hstate := free_of_lowestFree hfree
    exact (h.deals (h.notInFlight (by simp [hstate])) (takeSlot_deals hstate)).settles (settles_settle _)
  | cancelWaiting hwaits => exact h.settles ((settles_finish hwaits _).trans (settles_settle _))
  | cancelActive _ => exact h.cancelActive _
  | endBcast _ => exact (h.cancelActive _).settles (settles_settle _)
  | popHead hqueue => exact h.popHead hqueue
  | startCensus _ => exact h.startCensus
  | openLock => exact h.of_eq rfl rfl rfl
  | softReset => exact (quiet_softReset s).owned
  | hardwareReset => exact (quiet_hardwareReset s).owned
  | makeClear _ => exact h.makeClear
  | endSettle _ => exact h.endSettle
  | makeStop => exact h.makeStop
  | endBackoff v => exact h.setSlot_alike rfl rfl rfl
  | startProbing p => exact h.settles (settles_startProbing p s)

/-- A port that enters UP has its exchange replaced by none. -/
theorem Owned.enterUp (h : Owned s) (p : Port) : Owned (enterUp p s) :=
  h.drops (drops_setPort (y := { s.port p with
      link := .up, idleRun := Config.alignRun, lossTimer := false, exch := .idle, rx := .nothing })
    rfl rfl rfl rfl rfl rfl)

/-- Settles O56: every act keeps the queue and the slots of the exchanges in flight. -/
theorem stepKeepsRequestLaw : Obligations.StepKeepsRequestLaw := by
  unfold Obligations.StepKeepsRequestLaw
  intro s t hlaw hstep
  have howned := step_keeps Owned.act (fun _ h => h.enterUp _) ((requestLaw_iff s).1 hlaw) hstep
  exact (requestLaw_iff t).2 howned

end Sys2Proof.Proofs
end

section
/-! SUBMIT: the mailbox as a slot, what settling leaves of a request, and how the checks at submission, the front
checks and the choice of a broadcast decide it (R86, R88 to R92, R107, R120). -/

namespace Sys2Proof.Proofs

-- one theorem after the other: many proofs elaborated at once ask for a stack each
set_option Elab.async false

open Sys2Proof.Machine Sys2Proof.Safety

variable {s t u : State} {v w : Tag} {st : Status}

/-! ## What settling leaves of a request (R83, R85, R120) -/

/-- Of a slot at most its state, outcome, backoff and broadcast ports change, and a slot taken is not freed. -/
def SameRequest (x y : Slot) : Prop :=
  y = { x with
      state := y.state, outcome := y.outcome, backoff := y.backoff, bcastPorts := y.bcastPorts
      bcastSent := y.bcastSent }
    ∧ (x.state ≠ .free → y.state ≠ .free)

/-- Every slot keeps its request. -/
def KeepsRequests (s t : State) : Prop := ∀ w, SameRequest (s.slot w) (t.slot w)

theorem SameRequest.refl (x : Slot) : SameRequest x x := ⟨rfl, id⟩

theorem SameRequest.trans {x y z : Slot} (h : SameRequest x y) (k : SameRequest y z) : SameRequest x z :=
  ⟨k.1.trans (congrArg (fun w : Slot => { w with
      state := z.state, outcome := z.outcome, backoff := z.backoff, bcastPorts := z.bcastPorts
      bcastSent := z.bcastSent }) h.1), fun hx => k.2 (h.2 hx)⟩

theorem KeepsRequests.refl (s : State) : KeepsRequests s s := fun w => .refl (s.slot w)

theorem KeepsRequests.trans (h : KeepsRequests s t) (k : KeepsRequests t u) : KeepsRequests s u :=
  fun w => (h w).trans (k w)

theorem KeepsRequests.of_slots (h : t.slots = s.slots) : KeepsRequests s t := fun w => by
  rw [State.slot_eq_of_slots h]
  exact .refl _

theorem setSlot_keepsRequests {y : Slot} (h : SameRequest (s.slot v) y) : KeepsRequests s (s.setSlot v y) := fun w => by
  rw [State.slot_setSlot]
  split
  · next hwv => exact hwv ▸ h
  · exact .refl _

theorem finish_keepsRequests (v : Tag) (st : Status) (s : State) : KeepsRequests s (finish v st s) := fun w => by
  by_cases hu : (s.slot v).unfinished = true
  · rw [finish, complete_slot v st false [] hu]
    split
    · next hwv =>
      rw [hwv]
      exact ⟨rfl, fun _ => nofun⟩
    · exact .refl _
  · rw [finish, complete_finished v st false [] (by simpa using hu)]
    exact .refl _

theorem frontStep_keepsRequests (v : Tag) (s : State) : KeepsRequests s (frontStep v s) := by
  unfold frontStep chooseBcast
  simp only
  split
  · split
    · exact finish_keepsRequests v _ s
    · split
      · split
        · exact setSlot_keepsRequests ⟨rfl, fun _ => nofun⟩
        · exact finish_keepsRequests v _ s
      · exact .refl s
  · exact .refl s

theorem frontPass_keepsRequests (s : State) : KeepsRequests s (frontPass s) :=
  foldl_relates .refl .trans (fun s v => frontStep_keepsRequests v s) _ s

theorem endCheck_keepsRequests (x : Port) (s : State) : KeepsRequests s (endCheck x s) := by
  have hlost (r : State) (v : Tag) : KeepsRequests r (completeLost (s.checks.get x) v r) := by
    unfold completeLost
    split
    · split
      · exact finish_keepsRequests v _ r
      · exact .refl r
    · exact .refl r
  have hrequests : KeepsRequests s (endRequests x s) := foldl_relates .refl .trans hlost _ s
  rw [endCheck_eq]
  exact hrequests.trans (.of_slots rfl)

theorem decideModules_keepsRequests (x : Port) (n : Nat) (s : State) : KeepsRequests s (decideModules x n s) := by
  induction n generalizing s with
  | zero => exact .refl s
  | succ n ih =>
    unfold decideModules
    simp only
    split
    · split
      · exact endCheck_keepsRequests x s
      · split
        · exact (KeepsRequests.of_slots (loseModule_slots _ _ _)).trans (ih _)
        · exact .of_slots rfl
    · exact .refl s

theorem advanceProbing_keepsRequests (x : Port) (s : State) : KeepsRequests s (advanceProbing x s) := by
  unfold advanceProbing
  simp only
  split
  · split
    · exact KeepsRequests.trans (.of_slots rfl) (endCheck_keepsRequests x _)
    · split
      · exact .refl s
      · exact .of_slots rfl
  · exact .refl s

theorem settle_keepsRequests (s : State) : KeepsRequests s (settle s) := by
  have hadvance (x : Port) (r : State) : KeepsRequests r (advanceAndFront x r) :=
    ((advanceProbing_keepsRequests x r).trans (decideModules_keepsRequests x _ _)).trans (frontPass_keepsRequests _)
  exact ((frontPass_keepsRequests s).trans (hadvance .a _)).trans (hadvance .b _)

/-! ## The mailbox (R88 to R90) -/

/-- Checks 1 and 2 pass exactly where the mailbox is no bad request. -/
theorem mailboxValid_iff (m : Mailbox) : mailboxValid m = true ↔ ¬BadRequest m := by
  unfold mailboxValid ReqKind.ofCode BadRequest
  generalize m.kind.toNat = k
  generalize m.length.toNat = n
  generalize m.target.toNat = a
  have hlast : Config.lastAddress = 62 := rfl
  match k with
  | 0 => simp
  | 1 | 2 | 3 | 4 | 5 =>
    simp [ReqKind.lengthOk, ReqKind.targeted]
    omega
  | k + 6 => simp

/-- The slot that the mailbox of a state makes. -/
def mailboxSlot (s : State) : Slot := slotFromMailbox s.mailbox s.submissionCounter (mailboxValid s.mailbox)

/-- The register and write data of the slot are those of the kinds that have them (R89). -/
theorem mailboxSlot_fields (s : State) :
    (s.mailbox.kind = 1 ∨ s.mailbox.kind = 2 ∨ s.mailbox.kind = 3 → (mailboxSlot s).register = s.mailbox.register)
      ∧ (s.mailbox.kind = 4 ∨ s.mailbox.kind = 5 → (mailboxSlot s).register = 0)
      ∧ (s.mailbox.kind = 2 ∨ s.mailbox.kind = 3 →
          (mailboxSlot s).writeData = s.mailbox.data.toList.take s.mailbox.length.toNat) := by
  unfold mailboxSlot slotFromMailbox
  refine ⟨?_, ?_, ?_⟩
  · rintro (h | h | h) <;> simp [h, ReqKind.ofCode, ReqKind.hasRegister]
  · rintro (h | h) <;> simp [h, ReqKind.ofCode, ReqKind.hasRegister]
  · rintro (h | h) <;> simp [h, ReqKind.ofCode, ReqKind.hasData]

theorem mailboxSlot_target_bad (h : mailboxValid s.mailbox = false) : (mailboxSlot s).target = none := by
  simp [mailboxSlot, slotFromMailbox, h]

theorem mailboxSlot_target_bcast (h : s.mailbox.kind = 3) : (mailboxSlot s).target = none := by
  simp [mailboxSlot, slotFromMailbox, h, ReqKind.ofCode, ReqKind.targeted]

/-- A good request of any kind but BCAST_WRITE has the mailbox's target (R88, R90). -/
theorem mailboxSlot_target (h : mailboxValid s.mailbox = true) (hkind : s.mailbox.kind ≠ 3) :
    (mailboxSlot s).target = some s.mailbox.target.toNat := by
  have hcodes : ∀ c : Byte, c ≠ 3 → (ReqKind.ofCode c).isSome = true →
      ((ReqKind.ofCode c).map ReqKind.targeted).getD false = true := by decide +kernel
  have hnames : (ReqKind.ofCode s.mailbox.kind).isSome = true := by
    unfold mailboxValid at h
    split at h
    · nomatch h
    · next k hk => rw [hk]; rfl
  simp only [mailboxSlot, slotFromMailbox, h, hcodes _ hkind hnames, Bool.and_self, if_true]

/-! ## Taking a slot (R86, R89) -/

/-- The mailbox copied into a slot, before any check. -/
def mailboxTaken (v : Tag) (s : State) : State :=
  { s.setSlot v (mailboxSlot s) with submissionCounter := s.submissionCounter + 1, submitResult := .accepted v }

theorem mailboxTaken_slot (v : Tag) (s : State) : (mailboxTaken v s).slot v = mailboxSlot s :=
  State.slot_setSlot_same s v _

theorem mailboxTaken_slot_ne (h : w ≠ v) : (mailboxTaken v s).slot w = s.slot w := State.slot_setSlot_ne s h _

theorem mailboxTaken_unfinished (v : Tag) (s : State) : ((mailboxTaken v s).slot v).unfinished = true := by
  rw [mailboxTaken_slot]
  rfl

theorem takeSlot_valid (v : Tag) (h : mailboxValid s.mailbox = true) :
    takeSlot v s = validateTarget v (mailboxTaken v s) := if_pos h

theorem takeSlot_bad (v : Tag) (h : mailboxValid s.mailbox = false) :
    takeSlot v s = finish v .badRequest (mailboxTaken v s) := if_neg (by simp [h])

/-- What is done at submission, once the slot is taken: nothing, or it is ended. -/
theorem takeSlot_cases (v : Tag) (s : State) :
    takeSlot v s = mailboxTaken v s ∨ ∃ st, takeSlot v s = finish v st (mailboxTaken v s) := by
  cases hvalid : mailboxValid s.mailbox
  · exact .inr ⟨_, takeSlot_bad v hvalid⟩
  · rw [takeSlot_valid v hvalid]
    unfold validateTarget
    split
    · exact .inl rfl
    · split
      · split
        · exact .inr ⟨_, rfl⟩
        · split
          · exact .inr ⟨_, rfl⟩
          · exact .inl rfl
      · exact .inl rfl

theorem lowestFree_eq (hfree : (s.slot v).state = .free) (hlow : ∀ w : Tag, w < v → (s.slot w).state ≠ .free) :
    s.lowestFree = some v := by
  have hplace : ∀ w : Tag, allTags[w.val]? = some w := by decide
  obtain ⟨hlt, hget⟩ := List.getElem?_eq_some_iff.1 (hplace v)
  refine List.find?_eq_some_iff_getElem.2 ⟨by simp [hfree], v.val, hlt, hget, fun j hj => ?_⟩
  have hjth : allTags[j]'(hj.trans hlt) = (⟨j, hj.trans v.isLt⟩ : Tag) :=
    (List.getElem?_eq_some_iff.1 (hplace ⟨j, hj.trans v.isLt⟩)).2
  rw [hjth]
  simpa using hlow ⟨j, hj.trans v.isLt⟩ hj

theorem exec_submit_taken (hat : WritingAt s 0x0008) (hfree : (s.slot v).state = .free)
    (hlow : ∀ w : Tag, w < v → (s.slot w).state ≠ .free) :
    exec .submit s = .next { settle (takeSlot v s) with
      addrCounter := 0x0009, cmd := 0x01, cmdResult := .done } := by
  have htaken : submitAnswer s = .taken (settle (takeSlot v s)) := by rw [submitAnswer, lowestFree_eq hfree hlow]
  rw [exec_submit hat, issue, htaken]
  exact congrArg Host.Outcome.next (answerCommand_taken 0x01 s _)

theorem exec_submit_full (hat : WritingAt s 0x0008) (hnone : ∀ w : Tag, (s.slot w).state ≠ .free) :
    exec .submit s = .next { s with
      addrCounter := 0x0009, cmd := 0x01, cmdResult := .done, submitResult := .full } := by
  have hlow : s.lowestFree = none := List.find?_eq_none.2 fun w _ => by simpa using hnone w
  have htaken : submitAnswer s = .taken { s with submitResult := .full } := by rw [submitAnswer, hlow]
  rw [exec_submit hat, issue, htaken]
  exact congrArg Host.Outcome.next (answerCommand_taken 0x01 s _)

theorem submit_touches (v : Tag) (s : State) :
    TouchesSettling { s with submitResult := .accepted v, submissionCounter := s.submissionCounter + 1 }
      (settle (takeSlot v s)) := by
  have htaken : TouchesSettling { s with submitResult := .accepted v, submissionCounter := s.submissionCounter + 1 }
      (mailboxTaken v s) := rfl
  refine TouchesSettling.trans ?_ (settle_touches _)
  rcases takeSlot_cases v s with heq | ⟨st, heq⟩
  · rw [heq]
    exact htaken
  · rw [heq]
    exact htaken.trans (finish_touches v st _).toSettling

/-- Whatever the checks make of it, the slot holds the mailbox's request. -/
theorem submit_sameRequest (v : Tag) (s : State) : SameRequest (mailboxSlot s) ((settle (takeSlot v s)).slot v) := by
  have htaken : KeepsRequests (mailboxTaken v s) (takeSlot v s) := by
    rcases takeSlot_cases v s with heq | ⟨st, heq⟩
    · rw [heq]
      exact .refl _
    · rw [heq]
      exact finish_keepsRequests v st _
  have hkept := (htaken.trans (settle_keepsRequests _)) v
  rw [mailboxTaken_slot] at hkept
  exact hkept

/-! ## Requests ended at submission (R90, R91) -/

theorem effectByHistory_notSent (c : Byte) : effectByHistory c .notSent = .notApplied := by simp [effectByHistory]

/-- The slot of a request that is ended before anything went out for it. -/
theorem finish_taken_slot (v : Tag) (st : Status) (s : State) :
    (finish v st (mailboxTaken v s)).slot v = doneWith (mailboxSlot s) st .notApplied false [] s.epoch := by
  rw [finish, complete_slot v st false [] (mailboxTaken_unfinished v s), if_pos rfl, doneSlot_eq, mailboxTaken_slot]
  exact congrArg (doneWith (mailboxSlot s) st · false [] s.epoch) (effectByHistory_notSent _)

/-- A slot that a check at submission ends is DONE without effect, the first that the step completes. -/
theorem submit_completes (h : takeSlot v s = finish v st (mailboxTaken v s)) :
    Completes v (doneWith (mailboxSlot s) st .notApplied false [] s.epoch) s (settle (takeSlot v s)) := by
  rw [h]
  exact completes_of_moves v
    ⟨finish_taken_slot v st s, [], complete_queue v st false [] (mailboxTaken_unfinished v s)⟩ rfl (settle_moves _)

/-- Settles O4: checks 1 and 2 end the slot before anything else is completed. -/
theorem submitRejectsBadRequest : Obligations.SubmitRejectsBadRequest := by
  unfold Obligations.SubmitRejectsBadRequest
  intro s v hat hfree hlow hbad
  have hbad' : BadRequest s.mailbox := by
    unfold BadRequest
    simp only at hbad ⊢
    omega
  have hvalid : mailboxValid s.mailbox = false := by
    rw [Bool.eq_false_iff, Ne, mailboxValid_iff]
    exact not_not_intro hbad'
  obtain ⟨hslot, rest, hqueue⟩ := submit_completes (takeSlot_bad v hvalid)
  have hexec := exec_submit_taken hat hfree hlow
  generalize settle (takeSlot v s) = r at *
  have hfields : r.slot v = doneWith (mailboxSlot s) .badRequest .notApplied false [] s.epoch := hslot
  refine ⟨_, rest, hexec, ?_, ?_, ?_, ?_, ?_, hqueue⟩
  · exact (congrArg Slot.state hfields)
  · exact (congrArg Slot.target hfields).trans (mailboxSlot_target_bad hvalid)
  · exact (congrArg Slot.kindCode hfields)
  · exact (congrArg Slot.attempts hfields)
  · exact (congrArg Slot.outcome hfields)

/-- Settles O5: checks 3 and 4 apply, and end the slot before anything else is completed. -/
theorem submitRefusesAbsentModule : Obligations.SubmitRefusesAbsentModule := by
  unfold Obligations.SubmitRefusesAbsentModule
  intro s v hat hfree hlow hvalid hkind hroster hothers st hst
  have htarget := mailboxSlot_target hvalid hkind
  have happly : (mailboxTaken v s).checksApply v (some s.mailbox.target.toNat) = true := by
    simp only [State.checksApply, Bool.and_eq_true, bne_iff_ne, Bool.not_eq_true', List.any_eq_false, beq_iff_eq]
    refine ⟨hroster, fun w _ hw => ?_⟩
    obtain ⟨⟨hne, hu⟩, htarget⟩ := hw
    rw [mailboxTaken_slot_ne hne] at hu htarget
    exact hothers w hu htarget
  have htake : takeSlot v s = finish v st (mailboxTaken v s) := by
    have hentry (b : Nat) : (mailboxTaken v s).entry b = s.entry b := rfl
    rw [takeSlot_valid v hvalid, validateTarget, mailboxTaken_slot, htarget]
    simp only [happly, hentry, if_true]
    rcases hst with ⟨hvacant, rfl⟩ | ⟨hlost, rfl⟩
    · rw [if_pos hvacant]
    · rw [if_neg (by simp [hlost]), if_pos hlost]
  obtain ⟨hslot, rest, hqueue⟩ := submit_completes htake
  have hexec := exec_submit_taken hat hfree hlow
  generalize settle (takeSlot v s) = r at *
  have hfields : r.slot v = doneWith (mailboxSlot s) st .notApplied false [] s.epoch := hslot
  refine ⟨_, rest, hexec, ?_, ?_, ?_, hqueue⟩
  · exact congrArg Slot.state hfields
  · exact (congrArg Slot.target hfields).trans htarget
  · exact congrArg Slot.outcome hfields

/-! ## Requests that pass the checks (R90, R92, R105, R107) -/

/-- Checks 3 and 4 leave a slot of no target, of a module ACTIVE or SUSPECT, or under a roster BUILDING. -/
theorem takeSlot_passes (hvalid : mailboxValid s.mailbox = true)
    (h : (mailboxSlot s).target = none ∨ s.rosterState = .building
      ∨ (s.entry s.mailbox.target.toNat).live = true ∧ s.mailbox.kind ≠ 3) :
    takeSlot v s = mailboxTaken v s := by
  rw [takeSlot_valid v hvalid, validateTarget, mailboxTaken_slot]
  rcases h with hnone | hbuilding | ⟨hlive, hkind⟩
  · rw [hnone]
  · have hskip (b : Option Nat) : (mailboxTaken v s).checksApply v b = false := by
      simp [State.checksApply, show (mailboxTaken v s).rosterState = .building from hbuilding]
    split
    · rfl
    · rw [if_neg (by simp [hskip])]
  · have hentry : (mailboxTaken v s).entry s.mailbox.target.toNat = s.entry s.mailbox.target.toNat := rfl
    rw [mailboxSlot_target hvalid hkind]
    simp only [hentry]
    rcases (live_iff _).1 hlive with hstate | hstate <;> simp [hstate]

/-- With both checks IDLE, a request to a module ACTIVE or SUSPECT that the lock lets pass stays QUEUED. -/
theorem submit_live_stays (hvalid : mailboxValid s.mailbox = true) (hidle : ∀ q, (s.checks.get q).state = .idle)
    (hkind : s.mailbox.kind ≠ 3) (hlive : (s.entry s.mailbox.target.toNat).live = true)
    (hlock : s.lockHeld = false ∨ s.mailbox.kind = 1 ∨ s.mailbox.kind = 4) :
    (settle (takeSlot v s)).slot v = mailboxSlot s := by
  have hslot := mailboxTaken_slot v s
  have hmay : MayWait v s.mailbox.target.toNat (mailboxTaken v s) := by
    refine ⟨?_, ?_, hlive, ?_⟩
    · rw [hslot]
      exact mailboxSlot_target hvalid hkind
    · rw [hslot]
      exact hkind
    · rw [hslot]
      exact hlock
  have hfront : FrontMoves (mailboxTaken v s) (settle (mailboxTaken v s)) :=
    settle_of_rests fun q => checkRests_of_idle (hidle q)
  rw [takeSlot_passes hvalid (.inr (.inr ⟨hlive, hkind⟩)), hfront.passing v hmay.passes, hslot]

/-- With both checks IDLE, a census running and the roster BUILDING, any good request stays QUEUED. -/
theorem submit_census_stays (hvalid : mailboxValid s.mailbox = true) (hidle : ∀ q, (s.checks.get q).state = .idle)
    (hcensus : s.census.state ≠ .idle) (hbuilding : s.rosterState = .building) :
    (settle (takeSlot v s)).slot v = mailboxSlot s := by
  have hruns : (mailboxTaken v s).censusRunning = true := (censusRunning_iff s).2 hcensus
  rw [takeSlot_passes hvalid (.inr (.inl hbuilding)), settle_of_census hruns hidle, mailboxTaken_slot]

/-! ## A BCAST_WRITE alone (R107, R120) -/

theorem isBcast_of_code {x : Slot} (h : x.kindCode = 3) : x.isBcast = true := by
  simp [Slot.isBcast, Slot.kind, h, ReqKind.ofCode]

/-- A port is among those of a broadcast where it is UP with a module routed on it. -/
theorem bcastPorts_get (s : State) (p : Port) :
    s.bcastPorts.get p = true ↔ (s.port p).link = .up ∧ ∃ b, (s.entry b).route = some p := by
  have hrouted : s.anyRouted p = true ↔ ∃ b, (s.entry b).route = some p := by
    refine ⟨fun h => ?_, fun ⟨b, hb⟩ => anyRouted_of_route hb⟩
    simp only [State.anyRouted, List.any_eq_true, beq_iff_eq] at h
    obtain ⟨b, -, hb⟩ := h
    exact ⟨b, hb⟩
  rw [← hrouted]
  cases p <;> simp [State.bcastPorts, Pair.get, State.isUp]

/-- The one unfinished slot is the only one that the front checks meet. -/
theorem frontPass_alone (hu : (s.slot v).unfinished = true)
    (halone : ∀ w, w ≠ v → (s.slot w).unfinished = false) : frontPass s = frontStep v s := by
  have hmem (w : Tag) : w ∈ allTags.filter (fun t => (s.slot t).unfinished) ↔ w ∈ [v] := by
    rw [List.mem_filter, List.mem_singleton]
    refine ⟨fun h => ?_, fun h => ⟨mem_allTags w, h ▸ hu⟩⟩
    by_contra hne
    rw [halone w hne] at h
    nomatch h.2
  have hnodup : (allTags.filter fun t => (s.slot t).unfinished).Nodup :=
    List.Nodup.filter _ (by decide)
  have hfilter : allTags.filter (fun t => (s.slot t).unfinished) = [v] :=
    List.perm_singleton.1 ((List.perm_ext_iff_of_nodup hnodup (List.nodup_singleton v)).2 hmem)
  have htags : s.unfinishedTags = [v] := by
    unfold State.unfinishedTags
    rw [hfilter]
    rfl
  rw [frontPass, htags]
  rfl

/-- The one unfinished slot stands at the front where no census runs (R105). -/
theorem atFront_alone (hu : (s.slot v).unfinished = true) (hcensus : s.census.state = .idle)
    (halone : ∀ w, w ≠ v → (s.slot w).unfinished = false) : s.atFront v = true := by
  have hfirst (w : Tag) : s.olderUnfinished v w = false := by
    by_cases hwv : w = v
    · simp [State.olderUnfinished, hwv]
    · simp [State.olderUnfinished, halone w hwv]
  simp [State.atFront, State.censusRunning, hcensus, hu, hfirst]

/-- A broadcast at the front is refused under a HELD lock and chosen under an OPEN one (R107, R120). -/
theorem frontStep_bcast (hfront : s.atFront v = true) (hwaits : (s.slot v).waiting = true)
    (hbcast : (s.slot v).isBcast = true) :
    frontStep v s = if s.lockHeld then finish v .refusedLock s else chooseBcast v s := by
  have hkind : (s.slot v).kind = some .bcastWrite := by simpa [Slot.isBcast] using hbcast
  have hcheck : s.frontCheck (s.slot v) = if s.lockHeld then some .refusedLock else none := by
    simp [State.frontCheck, hkind, ReqKind.targeted, ReqKind.lockRefuses]
  rw [frontStep, hfront, hwaits, Bool.and_self, if_pos rfl, hcheck]
  cases s.lockHeld
  · simp [hbcast]
  · rfl

/-- A BCAST_WRITE submitted alone meets its front check at once, and what it makes of the slot stays. -/
theorem submit_bcast_slot (hvalid : mailboxValid s.mailbox = true) (hkind : s.mailbox.kind = 3)
    (hcensus : s.census.state = .idle) (halone : ∀ w : Tag, (s.slot w).unfinished = false)
    {r : State}
    (hr : r = if s.lockHeld then finish v .refusedLock (mailboxTaken v s) else chooseBcast v (mailboxTaken v s))
    (hrests : (r.slot v).waiting = false) : (settle (takeSlot v s)).slot v = r.slot v := by
  have hslot := mailboxTaken_slot v s
  have hwaits : ((mailboxTaken v s).slot v).waiting = true := by
    rw [hslot]
    rfl
  have hothers (w : Tag) (hne : w ≠ v) : ((mailboxTaken v s).slot w).unfinished = false := by
    rw [mailboxTaken_slot_ne hne]
    exact halone w
  have hu := mailboxTaken_unfinished v s
  have hfirst : frontPass (mailboxTaken v s) = r := by
    rw [frontPass_alone hu hothers, frontStep_bcast (atFront_alone hu hcensus hothers) hwaits, hr]
    · rfl
    · rw [hslot]
      exact isBcast_of_code hkind
  have hlater : OnlyWaitingMove r (settle (mailboxTaken v s)) := by
    rw [← hfirst]
    exact (advanceAndFront_onlyWaiting .a _).trans (advanceAndFront_onlyWaiting .b _)
  rw [takeSlot_passes hvalid (.inl (mailboxSlot_target_bcast hkind))]
  exact hlater v hrests

/-- A BCAST_WRITE alone goes to its ports under an OPEN lock, is done OK where there is none, and is refused under a
HELD lock (R107, R120). -/
theorem submit_bcast_alone (hvalid : mailboxValid s.mailbox = true) (hkind : s.mailbox.kind = 3)
    (hcensus : s.census.state = .idle) (halone : ∀ w : Tag, (s.slot w).unfinished = false) :
    (s.lockHeld = false → (s.bcastPorts.a || s.bcastPorts.b) = true → (settle (takeSlot v s)).slot v =
        { mailboxSlot s with state := .active, bcastPorts := s.bcastPorts, bcastSent := false })
      ∧ (s.lockHeld = false → (s.bcastPorts.a || s.bcastPorts.b) = false → (settle (takeSlot v s)).slot v =
        doneWith (mailboxSlot s) .ok .notApplied false [] s.epoch)
      ∧ (s.lockHeld = true → (settle (takeSlot v s)).slot v =
        doneWith (mailboxSlot s) .refusedLock .notApplied false [] s.epoch) := by
  have hports : (mailboxTaken v s).bcastPorts = s.bcastPorts := rfl
  refine ⟨fun hopen hsome => ?_, fun hopen hnone => ?_, fun hheld => ?_⟩
  · have hchosen : (chooseBcast v (mailboxTaken v s)).slot v =
        { mailboxSlot s with state := .active, bcastPorts := s.bcastPorts, bcastSent := false } := by
      simp only [chooseBcast, hports, hsome, if_true]
      rw [State.slot_setSlot_same, mailboxTaken_slot]
    exact (submit_bcast_slot (r := chooseBcast v (mailboxTaken v s)) hvalid hkind hcensus halone (by simp [hopen])
      (by rw [hchosen]; rfl)).trans hchosen
  · have hchosen : (chooseBcast v (mailboxTaken v s)).slot v =
        doneWith (mailboxSlot s) .ok .notApplied false [] s.epoch := by
      simp only [chooseBcast, hports, hnone]
      exact finish_taken_slot v .ok s
    exact (submit_bcast_slot (r := chooseBcast v (mailboxTaken v s)) hvalid hkind hcensus halone (by simp [hopen])
      (by rw [hchosen]; rfl)).trans hchosen
  · have hrefused := finish_taken_slot v .refusedLock s
    exact (submit_bcast_slot (r := finish v .refusedLock (mailboxTaken v s)) hvalid hkind hcensus halone
      (by simp [hheld]) (by rw [hrefused]; rfl)).trans hrefused

/-! ## The statement -/

/-- Settles O3: the slot holds the request whatever becomes of it; a request that passes every check stays QUEUED, and
a broadcast alone meets its front check in the same step. -/
theorem submitTakesLowestFreeSlotOrFull : Obligations.SubmitTakesLowestFreeSlotOrFull := by
  unfold Obligations.SubmitTakesLowestFreeSlotOrFull
  intro s hat
  refine ⟨exec_submit_full hat, ?_⟩
  intro v hfree hlow k a good checksIdle routed
  have hvalid (hgood : good) : mailboxValid s.mailbox = true := (mailboxValid_iff _).2 hgood
  have hports : (s.bcastPorts.a || s.bcastPorts.b) = true ↔ ∃ p, routed p := by
    rw [← pair_get_exists]
    exact exists_congr fun p => bcastPorts_get s p
  have hexec := exec_submit_taken hat hfree hlow
  have htouches := submit_touches v s
  obtain ⟨hsame, htaken⟩ := submit_sameRequest v s
  obtain ⟨hregister, hnoRegister, hdata⟩ := mailboxSlot_fields s
  have hlive (hgood : good) (hidle : checksIdle) (hkind : k ≠ 3) :=
    submit_live_stays (v := v) (hvalid hgood) hidle hkind
  have hcensus (hgood : good) (hidle : checksIdle) := submit_census_stays (v := v) (hvalid hgood) hidle
  have hbcast (hgood : good) (hkind : k = 3) (hnone : s.census.state = .idle) :=
    submit_bcast_alone (v := v) (hvalid hgood) hkind hnone
  generalize settle (takeSlot v s) = r at *
  refine ⟨_, hexec, touchesSettling_answered htouches 0x0009 0x01 .done, htaken nofun,
    congrArg Slot.kindCode hsame, congrArg Slot.seq hsame, congrArg Slot.length hsame,
    fun hk => (congrArg Slot.register hsame).trans (hregister hk),
    fun hk => (congrArg Slot.register hsame).trans (hnoRegister hk),
    fun hk => (congrArg Slot.writeData hsame).trans (hdata hk),
    fun hgood hk => (congrArg Slot.target hsame).trans (mailboxSlot_target (hvalid hgood) hk),
    fun hk => (congrArg Slot.target hsame).trans (mailboxSlot_target_bcast hk),
    congrArg Slot.history hsame, congrArg Slot.attempts hsame, congrArg Slot.busyCount hsame,
    congrArg Slot.toggleUsed hsame, congrArg Slot.cancelRequested hsame,
    fun hgood hidle hk hl hlock => congrArg Slot.state (hlive hgood hidle hk hl hlock),
    fun hgood hidle hruns hbuilding => congrArg Slot.state (hcensus hgood hidle hruns hbuilding),
    fun hgood hk _ hnone halone => ?_⟩
  obtain ⟨hchosen, hnowhere, hrefused⟩ := hbcast hgood hk hnone halone
  refine ⟨fun hopen hsome => ?_, fun hopen hno => ?_, fun hheld => ?_⟩
  · have hslot := hchosen hopen (hports.2 hsome)
    refine ⟨congrArg Slot.state hslot, fun p => ?_⟩
    exact (iff_of_eq (congrArg (fun y : Slot => y.bcastPorts.get p = true) hslot)).trans (bcastPorts_get s p)
  · have hslot := hnowhere hopen (Bool.eq_false_iff.2 fun h => not_exists.2 hno (hports.1 h))
    exact ⟨congrArg Slot.state hslot, congrArg Slot.outcome hslot⟩
  · exact ⟨congrArg Slot.state (hrefused hheld), congrArg Slot.outcome (hrefused hheld)⟩

end Sys2Proof.Proofs
end

section
/-! CANCEL of an ACTIVE slot, POP_COMPLETION and POP_NOTICE (R97, R98, R100, R143). -/

namespace Sys2Proof.Proofs

-- one theorem after the other: many proofs elaborated at once ask for a stack each
set_option Elab.async false

open Sys2Proof.Machine Sys2Proof.Safety

variable {s : State} {v : Tag}

/-! ## CANCEL of an ACTIVE slot (R98, R100) -/

theorem exec_cancel_noted (hat : WritingAt s 0x0008) (htag : s.cancelTag.toNat = v.val)
    (hactive : (s.slot v).state = .active) (h : (s.slot v).isBcast = false ∨ s.bcastInFlight v = true) :
    exec .cancel s = .next { cancelActive v s with addrCounter := 0x0009, cmd := 0x02, cmdResult := .done } := by
  have htaken : cancelAnswer s = .taken (cancelActive v s) := by
    unfold cancelAnswer
    rw [cancelTarget_of_tag htag]
    simp only [cancelSlot, hactive]
    rcases h with h | h <;> simp [h]
  rw [exec_cancel hat, issue, htaken]
  exact congrArg Host.Outcome.next (answerCommand_taken 0x02 s _)

theorem exec_cancel_atRest (hat : WritingAt s 0x0008) (htag : s.cancelTag.toNat = v.val)
    (hactive : (s.slot v).state = .active) (hbcast : (s.slot v).isBcast = true) (hno : s.bcastInFlight v = false) :
    exec .cancel s = .next { settle (cancelActive v s) with
      addrCounter := 0x0009, cmd := 0x02, cmdResult := .done } := by
  have htaken : cancelAnswer s = .taken (settle (cancelActive v s)) := by
    unfold cancelAnswer
    rw [cancelTarget_of_tag htag]
    simp [cancelSlot, hactive, hbcast, hno]
  rw [exec_cancel hat, issue, htaken]
  exact congrArg Host.Outcome.next (answerCommand_taken 0x02 s _)

theorem cancelActive_targeted (h : (s.slot v).isBcast = false) :
    cancelActive v s = s.setSlot v { s.slot v with cancelRequested := true } := if_neg (by simp [h])

theorem cancelActive_atRest (h : (s.slot v).isBcast = true) (hno : s.bcastInFlight v = false) :
    cancelActive v s = finish v .cancelled (stopBcast v s) := by
  simp [cancelActive, h, hno]

/-- Of a broadcast being sent the ports on which it is being sent stay (R100). -/
theorem cancelActive_sent (h : (s.slot v).isBcast = true) (hsent : s.bcastInFlight v = true) :
    cancelActive v s = s.setSlot v { s.slot v with
      cancelRequested := true
      bcastPorts :=
        { a := (s.slot v).bcastPorts.a && s.carries .a (.bcast v)
          b := (s.slot v).bcastPorts.b && s.carries .b (.bcast v) } } := by
  have hnoted : cancelActive v s
      = (stopBcast v s).setSlot v { (stopBcast v s).slot v with cancelRequested := true } := by
    simp [cancelActive, h, hsent]
  rw [hnoted, stopBcast, State.slot_setSlot_same, setSlot_setSlot]
  rfl

/-- The slot of a broadcast at rest, its ports taken from it. -/
theorem stopBcast_slot_atRest (hno : s.bcastInFlight v = false) :
    (stopBcast v s).slot v = { s.slot v with bcastPorts := { a := false, b := false } } := by
  simp only [State.bcastInFlight, Bool.or_eq_false_iff] at hno
  simp [stopBcast, hno]

theorem effectByHistory_bcast (h : History) :
    effectByHistory 3 h = if h = .sentNoReply then .unknown else .notApplied := by cases h <;> rfl

/-- A broadcast at rest as a CANCEL leaves it (R94, R100). -/
def cancelledBcast (s : State) (v : Tag) : Slot :=
  doneWith { s.slot v with bcastPorts := { a := false, b := false } } .cancelled
    (if (s.slot v).history = .sentNoReply then .unknown else .notApplied) false [] s.epoch

/-- A cancelled broadcast at rest is the first that the step completes (R91, R100). -/
theorem cancel_atRest_completes (hactive : (s.slot v).state = .active) (hcode : (s.slot v).kindCode = 3)
    (hno : s.bcastInFlight v = false) : Completes v (cancelledBcast s v) s (settle (cancelActive v s)) := by
  have hstopped := stopBcast_slot_atRest hno
  have hu : ((stopBcast v s).slot v).unfinished = true := unfinished_of_active (by rw [hstopped]; exact hactive)
  have heffect : effectByHistory (s.slot v).kindCode (s.slot v).history
      = if (s.slot v).history = .sentNoReply then .unknown else .notApplied := by rw [hcode, effectByHistory_bcast]
  have hslot : (finish v .cancelled (stopBcast v s)).slot v = cancelledBcast s v := by
    rw [finish, complete_slot v .cancelled false [] hu, if_pos rfl, doneSlot_eq, hstopped, cancelledBcast, ← heffect]
    rfl
  have hqueue : (finish v .cancelled (stopBcast v s)).completionQueue = s.completionQueue ++ [v] :=
    complete_queue v .cancelled false [] hu
  rw [cancelActive_atRest (isBcast_of_code hcode) hno]
  exact completes_of_moves v ⟨hslot, [], hqueue⟩ rfl (settle_moves _)

theorem cancel_atRest_touches (hcode : (s.slot v).kindCode = 3) (hno : s.bcastInFlight v = false) :
    TouchesSettling s (settle (cancelActive v s)) := by
  have hstopped : TouchesRequests s (stopBcast v s) := setSlot_touches _ _ _
  rw [cancelActive_atRest (isBcast_of_code hcode) hno]
  exact (hstopped.trans (finish_touches v .cancelled _)).toSettling.trans (settle_touches _)

/-- Settles O7: a slot of a module notes the cancel, a broadcast at rest is ended, one being sent loses the ports on
which it waits. -/
theorem cancelOfActiveSlot : Obligations.CancelOfActiveSlot := by
  unfold Obligations.CancelOfActiveSlot
  intro s v hat htag hactive
  refine ⟨fun hcode => ?_, fun hcode hnone => ?_, fun hcode hsome => ?_⟩
  · have hkind := not_isBcast_of_code hcode
    rw [exec_cancel_noted hat htag hactive (.inl hkind), cancelActive_targeted hkind]
    rfl
  · have hno : s.bcastInFlight v = false := by
      rw [Bool.eq_false_iff]
      intro hsent
      obtain ⟨q, hq⟩ := (bcastInFlight_iff v s).1 hsent
      rw [hnone q] at hq
      nomatch hq
    have hexec := exec_cancel_atRest hat htag hactive (isBcast_of_code hcode) hno
    have htouches := cancel_atRest_touches hcode hno
    obtain ⟨hslot, rest, hqueue⟩ := cancel_atRest_completes hactive hcode hno
    generalize settle (cancelActive v s) = r at *
    exact ⟨_, rest, hexec, touchesSettling_answered htouches 0x0009 0x02 .done, congrArg Slot.state hslot,
      congrArg Slot.bcastPorts hslot, congrArg Slot.outcome hslot, hqueue⟩
  · have hsent := (bcastInFlight_iff v s).2 hsome
    rw [exec_cancel_noted hat htag hactive (.inr hsent), cancelActive_sent (isBcast_of_code hcode) hsent]
    rfl

/-! ## POP_COMPLETION and POP_NOTICE (R97, R143) -/

/-- Settles O9: each queue answers by its head, or is refused EMPTY. -/
theorem popsRemoveHead : Obligations.PopsRemoveHead := by
  unfold Obligations.PopsRemoveHead
  intro s hat
  refine ⟨fun v rest hqueue => ?_, fun hempty => ?_, fun r rest hqueue => ?_, fun hempty => ?_⟩
  · have htaken : popCompletionAnswer s = .taken (popHead v rest s) := by rw [popCompletionAnswer, hqueue]
    rw [exec_popCompletion hat, issue, htaken]
    exact congrArg Host.Outcome.next (answerCommand_taken 0x03 s _)
  · have hrefused : popCompletionAnswer s = .refused .empty := by rw [popCompletionAnswer, hempty]
    rw [exec_popCompletion hat, issue, hrefused]
    exact congrArg Host.Outcome.next (answerCommand_refused 0x03 .empty s)
  · have htaken : popNoticeAnswer s = .taken { s with notices := rest } := by rw [popNoticeAnswer, hqueue]
    rw [exec_popNotice hat, issue, htaken]
    exact congrArg Host.Outcome.next (answerCommand_taken 0x04 s _)
  · have hrefused : popNoticeAnswer s = .refused .empty := by rw [popNoticeAnswer, hempty]
    rw [exec_popNotice hat, issue, hrefused]
    exact congrArg Host.Outcome.next (answerCommand_refused 0x04 .empty s)

end Sys2Proof.Proofs
end

section
/-! What the arbiter hands with no census running: the PROBEs of the reach checks, the frames of the host class, and the
turns that host and sweep take on a port (R103, R104, R106, R109, R116, R117, R121, R135, R146, R159, R162). -/

namespace Sys2Proof.Proofs

-- one theorem after the other: many proofs elaborated at once ask for a stack each
set_option Elab.async false

open Sys2Proof.Machine Sys2Proof.Safety

variable {s : State} {p : Port} {v : Tag} {a : Nat}

/-! ## The PROBEs of the reach checks (R103, R159, R162) -/

theorem censusRunning_of_idle (h : s.census.state = .idle) : s.censusRunning = false := by
  simp [State.censusRunning, h]

/-- A check that has begun to probe is at the module under its cursor (R159). -/
theorem probeTarget_of_probing {c : Check} (hstate : c.state = .probing) (hbegun : c.begun = true) :
    c.probeTarget = c.probeList[c.cursor]? := if_pos ⟨hstate, hbegun⟩

/-- The port's own check comes first. -/
theorem arbitrate_probes (hcensus : s.census.state = .idle) (hruns : (s.checks.get p).state ≠ .idle)
    (htarget : (s.checks.get p).probeTarget = some a) : arbitrate p s = startProbe p p a s := by
  have hcheck : s.checkRunning p = true := by simpa [State.checkRunning] using hruns
  simp [arbitrate, censusRunning_of_idle hcensus, hcheck, htarget]

/-- While its own check is IDLE, a port serves the module that the other port's check decides. -/
theorem arbitrate_reroutes (hcensus : s.census.state = .idle) (hown : (s.checks.get p).state = .idle)
    (hready : s.rerouteReady p.other = some a) : arbitrate p s = startProbe p p.other a s := by
  have hcheck : s.checkRunning p = false := by simp [State.checkRunning, hown]
  simp [arbitrate, censusRunning_of_idle hcensus, hcheck, hready]

/-- Settles O31: of a port's two PROBEs its own check's goes first; each is the row of R103 that applies. -/
theorem arbiterHandsProbe : Obligations.ArbiterHandsProbe := by
  unfold Obligations.ArbiterHandsProbe
  intro s p a hreset hcan hcensus
  refine ⟨fun hprobing hbegun hcursor => ?_, fun hown hrerouting hdeciding => ?_⟩
  · have htarget : (s.checks.get p).probeTarget = some a := (probeTarget_of_probing hprobing hbegun).trans hcursor
    have hruns : (s.checks.get p).state ≠ .idle := by rw [hprobing]; nofun
    rw [exec_arbiterHand hreset hcan, arbitrate_probes hcensus hruns htarget]
    rfl
  · have hready : s.rerouteReady p.other = some a := (if_pos hrerouting).trans hdeciding
    rw [exec_arbiterHand hreset hcan, arbitrate_reroutes hcensus hown hready]
    rfl

/-! ## The shared row (R103, R104) -/

/-- With no census and no check running the port is shared by host and sweep, after the test for NOTICE_BACKLOG. -/
theorem arbitrate_shares (hcensus : s.census.state = .idle) (hchecks : ∀ q, (s.checks.get q).state = .idle) :
    arbitrate p s = handShared p (testBacklog p s) := by
  simp [arbitrate, censusRunning_of_idle hcensus, State.checkRunning, State.rerouteReady, hchecks]

theorem sweepOn_of_disabled (h : s.params.sweepEnable = false) : s.sweepOn = false := by
  simp [State.sweepOn, h]

theorem sweepChoice_of_disabled (h : s.params.sweepEnable = false) : s.sweepChoice p = .nothing := by
  simp [State.sweepChoice, sweepOn_of_disabled h]

theorem testBacklog_of_disabled (h : s.params.sweepEnable = false) : testBacklog p s = s := by
  simp [testBacklog, State.backlog, sweepOn_of_disabled h]

theorem handShared_hostAlone {f : HostFrame} (hhost : s.hostFrame p = some f) (hsweep : s.sweepChoice p = .nothing) :
    handShared p s = startHost p f s := by
  simp only [handShared, hhost, hsweep]

/-- With the sweep off a ready host frame is handed. -/
theorem exec_handsHost {f : HostFrame} (hreset : s.inReset = false) (hcan : s.canHand p = true)
    (hcensus : s.census.state = .idle) (hchecks : ∀ q, (s.checks.get q).state = .idle)
    (hoff : s.params.sweepEnable = false) (hhost : s.hostFrame p = some f) :
    exec (.arbiterHand p) s = .next (startHost p f s) := by
  rw [exec_arbiterHand hreset hcan, arbitrate_shares hcensus hchecks, testBacklog_of_disabled hoff,
    handShared_hostAlone hhost (sweepChoice_of_disabled hoff)]

/-! ## The host frame (R104, R106) -/

theorem hostFrame_of_bcast (h : s.nextBcast p = some v) : s.hostFrame p = some (.bcast v) := by
  simp only [State.hostFrame, h]

theorem hostFrame_of_slot (hbcast : s.nextBcast p = none) (hslot : s.nextEligible p = some v) :
    s.hostFrame p = some (.slot v) := by
  simp only [State.hostFrame, hbcast, hslot, Option.map_some]

/-- A slot named by the host frame is eligible (R106). -/
theorem eligible_of_hostFrame (h : s.hostFrame p = some (.slot v)) : s.eligible p v = true := by
  unfold State.hostFrame at h
  split at h
  · nomatch h
  · obtain ⟨w, hw, heq⟩ := Option.map_eq_some_iff.1 h
    cases heq
    exact List.find?_some hw

/-- The broadcast that a port is to carry is ACTIVE and has the port left (R121). -/
theorem nextBcast_facts (h : s.nextBcast p = some v) :
    (s.slot v).state = .active ∧ (s.slot v).kindCode = 3 ∧ (s.slot v).bcastPorts.get p = true := by
  have hready := List.find?_some h
  simp only [Bool.and_eq_true, beq_iff_eq] at hready
  obtain ⟨⟨⟨hkind, hstate⟩, hport⟩, -⟩ := hready
  refine ⟨hstate, ?_, hport⟩
  by_contra hcode
  rw [not_isBcast_of_code hcode] at hkind
  nomatch hkind

/-- Settles O33: a broadcast goes before any slot, and the sweep has nothing. -/
theorem arbiterHandsBroadcast : Obligations.ArbiterHandsBroadcast := by
  unfold Obligations.ArbiterHandsBroadcast
  intro s p v hreset hcan hcensus hchecks hoff hnext
  obtain ⟨hactive, hcode, hport⟩ := nextBcast_facts hnext
  refine ⟨hactive, hcode, hport, ?_⟩
  rw [exec_handsHost hreset hcan hcensus hchecks hoff (hostFrame_of_bcast hnext)]
  rfl

/-! ## The exchange of a slot (R109, R116, R117) -/

theorem needsResync_iff (htarget : (s.slot v).target = some a) :
    s.needsResync v = true
      ↔ (s.slot v).kindCode = 2 ∧ (s.slot v).toggleUsed = none ∧ (s.entry a).toggle = .unsure := by
  simp [State.needsResync, htarget, kind_write_iff, and_assoc]

theorem startSlot_attempts {k : ReqKind} (hno : s.needsResync v = false) (hkind : (s.slot v).kind = some k) :
    startSlot p v s = makeAttempt p v k s := by
  simp [startSlot, hno, hkind]

theorem startSlot_resyncs (h : s.needsResync v = true) : startSlot p v s = makeResync p v s := if_pos h

/-- The slot as an attempt of a kind leaves it; a WRITE's toggle is fixed (R109, R116). -/
def attemptedSlot (s : State) (v : Tag) (a : Nat) (k : ReqKind) : Slot :=
  { s.slot v with
    state := .active
    attempts := (s.slot v).attempts + 1
    toggleUsed := if k = .write then some (writeToggle (s.slot v) (s.entry a)) else (s.slot v).toggleUsed }

/-- The attempt of a slot that needs no resynchronising PROBE, as the arbiter hands it. -/
theorem startHost_attempts {k : ReqKind} (htarget : (s.slot v).target = some a) (hkind : (s.slot v).kind = some k)
    (hno : s.needsResync v = false) :
    startHost p (.slot v) s =
      { s with
        markers := s.markers.set p .host
        slots := s.slots.set v.val (attemptedSlot s v a k)
        ports := s.ports.set p { s.port p with
          exch := .sending
            { frame := attemptFrame (s.slot v) k (writeToggle (s.slot v) (s.entry a))
              hops := ((s.entry a).hops.get p).getD 0, owner := .attempt v } } } := by
  have ha : a = (s.slot v).target.getD 0 := by rw [htarget]; rfl
  subst ha
  exact startSlot_attempts (s := setMarker p .host s) hno hkind

theorem startHost_resyncs (htarget : (s.slot v).target = some a) (h : s.needsResync v = true) :
    startHost p (.slot v) s =
      { s with
        markers := s.markers.set p .host
        slots := s.slots.set v.val { s.slot v with state := .active }
        followUps := s.followUps.set p (some v)
        ports := s.ports.set p { s.port p with
          exch := .sending
            { frame := headFrame .probe 0 a 0 []
              hops := ((s.entry a).hops.get p).getD 0, owner := .resync v } } } := by
  have ha : a = (s.slot v).target.getD 0 := by rw [htarget]; rfl
  subst ha
  exact startSlot_resyncs (s := setMarker p .host s) h

/-- The toggle bit of a WRITE is settled: its toggle used, or the module's toggle where that is known (R116). -/
def SettledToggle (x : Slot) (e : RosterEntry) (b : Bool) : Prop :=
  x.toggleUsed = some b ∨ (x.toggleUsed = none ∧ (e.toggle = .one ∧ b = true ∨ e.toggle = .zero ∧ b = false))

theorem writeToggle_of_settled {x : Slot} {e : RosterEntry} {b : Bool} (h : SettledToggle x e b) :
    writeToggle x e = b := by
  rcases h with hused | ⟨hnone, ⟨htoggle, rfl⟩ | ⟨htoggle, rfl⟩⟩
  · simp [writeToggle, hused]
  · simp [writeToggle, hnone, htoggle, Toggle.bit]
  · simp [writeToggle, hnone, htoggle, Toggle.bit]

/-- A WRITE whose toggle is settled needs no resynchronising PROBE (R117). -/
theorem needsResync_of_settled {b : Bool} (htarget : (s.slot v).target = some a)
    (h : SettledToggle (s.slot v) (s.entry a) b) : s.needsResync v = false := by
  rw [Bool.eq_false_iff, ne_eq, needsResync_iff htarget]
  rintro ⟨-, hnone, hunsure⟩
  rcases h with hused | ⟨-, ⟨htoggle, -⟩ | ⟨htoggle, -⟩⟩
  · nomatch hnone.symm.trans hused
  · nomatch hunsure.symm.trans htoggle
  · nomatch hunsure.symm.trans htoggle

/-- Only a WRITE is resynchronised (R117). -/
theorem needsResync_of_code (h : (s.slot v).kindCode ≠ 2) : s.needsResync v = false := by
  have hkind : (s.slot v).kind ≠ some .write := mt (kind_write_iff _).1 h
  simp [State.needsResync, hkind]

/-- Settles O32: a WRITE of an UNSURE toggle has its PROBE, any other request its attempt. -/
theorem arbiterHandsAttempt : Obligations.ArbiterHandsAttempt := by
  unfold Obligations.ArbiterHandsAttempt
  intro s p v a hreset hcan hcensus hchecks hoff hbcast hnext htarget x e hand x1
  have hexec := exec_handsHost hreset hcan hcensus hchecks hoff (hostFrame_of_slot hbcast hnext)
  have hattempt {f : Frame} {y : Slot} (k : ReqKind) (hkind : x.kind = some k) (hno : s.needsResync v = false)
      (hframe : attemptFrame x k (writeToggle x e) = f) (hslot : attemptedSlot s v a k = y) : hand f y := by
    subst hframe hslot
    exact hexec.trans (congrArg Host.Outcome.next (startHost_attempts htarget hkind hno))
  have hframe (k : ReqKind) (b : Bool) : attemptFrame x k b = attemptFrame { x with target := some a } k b := by
    rw [← htarget]
  have hother {c : Byte} (hcode : x.kindCode = c) (hc : c ≠ 2) : s.needsResync v = false :=
    needsResync_of_code (hcode.trans_ne hc)
  refine ⟨fun hcode => ?_, fun hcode => ?_, fun hcode => ?_, fun b hcode htoggle => ?_, fun hcode hnone hunsure => ?_⟩
  · exact hattempt .read (congrArg ReqKind.ofCode hcode) (hother hcode (by decide)) (hframe _ _) rfl
  · exact hattempt .probe (congrArg ReqKind.ofCode hcode) (hother hcode (by decide)) (hframe _ _) rfl
  · exact hattempt .restart (congrArg ReqKind.ofCode hcode) (hother hcode (by decide)) (hframe _ _) rfl
  · obtain rfl : writeToggle x e = b := writeToggle_of_settled htoggle
    exact hattempt .write (congrArg ReqKind.ofCode hcode) (needsResync_of_settled htarget htoggle) (hframe _ _) rfl
  · have hneeds : s.needsResync v = true := (needsResync_iff htarget).2 ⟨hcode, hnone, hunsure⟩
    exact hexec.trans (congrArg Host.Outcome.next (startHost_resyncs htarget hneeds))

/-! ## The test for NOTICE_BACKLOG (R135, R146) -/

theorem testBacklog_eq (p : Port) (s : State) :
    testBacklog p s =
      { s with sticky := { s.sticky with noticeBacklog := s.sticky.noticeBacklog || s.backlog p } } := by
  unfold testBacklog
  cases s.backlog p <;> simp [State.raiseNoticeBacklog]

theorem sweepInFlight_eq_false_iff (s : State) (a : Nat) :
    s.sweepInFlight a = false ↔ ∀ q x, s.inFlight q = some x → x.owner ≠ .poll a ∧ x.owner ≠ .fetch a := by
  have hcarries (q : Port) (o : Owner) : s.carries q o = false ↔ ∀ x, s.inFlight q = some x → x.owner ≠ o := by
    rw [Bool.eq_false_iff, ne_eq, carries_iff]
    exact ⟨fun h x hx ho => h ⟨x, hx, ho⟩, fun h ⟨x, hx, ho⟩ => h x hx ho⟩
  simp only [State.sweepInFlight, Bool.or_eq_false_iff, hcarries]
  refine ⟨fun ⟨⟨⟨hpa, hfa⟩, hpb⟩, hfb⟩ q x hx => ?_,
    fun h => ⟨⟨⟨fun x hx => (h .a x hx).1, fun x hx => (h .a x hx).2⟩, fun x hx => (h .b x hx).1⟩,
      fun x hx => (h .b x hx).2⟩⟩
  cases q with
  | a => exact ⟨hpa x hx, hfa x hx⟩
  | b => exact ⟨hpb x hx, hfb x hx⟩

/-- An ACTIVE module routed on the port has notices, and no sweep frame of its own is in flight (R128, R135). -/
def Fetchable (s : State) (p : Port) (a : Nat) : Prop :=
  (s.status a).fetchWanted = true ∧ (s.entry a).state = .active ∧ (s.entry a).route = some p
    ∧ ∀ q x, s.inFlight q = some x → x.owner ≠ .poll a ∧ x.owner ≠ .fetch a

/-- With no check running, none holds a module, and the port wants to fetch from every fetchable one. -/
theorem wantsFetch_iff (hchecks : ∀ q, (s.checks.get q).state = .idle) :
    s.wantsFetch p a = true ↔ Fetchable s p a := by
  have hheld : s.held a = false := by
    unfold State.held
    split
    · simp [State.checkRunning, hchecks]
    · rfl
  rw [Fetchable, ← sweepInFlight_eq_false_iff]
  simp [State.wantsFetch, State.sweepable, hheld, and_assoc]

/-- Only an address of a module has notices to fetch. -/
theorem mem_addresses_of_fetchWanted (h : (s.status a).fetchWanted = true) : a ∈ addresses := by
  rw [mem_addresses]
  by_contra hout
  rw [State.status_outside s hout] at h
  nomatch h

/-- A FETCH is withheld exactly where the sweep is on, a module of the port has notices, and the 32 places are taken. -/
theorem backlog_iff (hcensus : s.census.state = .idle) (hchecks : ∀ q, (s.checks.get q).state = .idle) :
    s.backlog p = true ↔ s.params.sweepEnable = true ∧ 32 ≤ s.notices.length + s.outstanding
      ∧ ∃ a, Fetchable s p a := by
  have hplaces : s.noPlace = true ↔ 32 ≤ s.notices.length + s.outstanding := decide_eq_true_iff
  have hwants : addresses.any (s.wantsFetch p) = true ↔ ∃ a, Fetchable s p a := by
    simp only [List.any_eq_true, wantsFetch_iff hchecks]
    exact exists_congr fun a => and_iff_right_of_imp fun h => mem_addresses_of_fetchWanted h.1
  simp only [State.backlog, Bool.and_eq_true, hplaces, hwants, sweepOn_iff, hcensus, and_true, and_assoc,
    and_comm (a := 32 ≤ _)]

/-! ## What each class touches -/

/-- A host frame touches slots, follow-ups and ports. -/
def TouchesHostClass (s t : State) : Prop :=
  t = { s with slots := t.slots, followUps := t.followUps, ports := t.ports }

/-- A sweep frame touches cursors, reservations and ports. -/
def TouchesSweepClass (s t : State) : Prop :=
  t = { s with cursors := t.cursors, reservations := t.reservations, ports := t.ports }

theorem startSlot_touchesHost (p : Port) (v : Tag) (s : State) : TouchesHostClass s (startSlot p v s) := by
  unfold startSlot
  split
  · rfl
  · split
    · rfl
    · rfl

theorem startHost_touchesHost (p : Port) (f : HostFrame) (s : State) :
    TouchesHostClass (setMarker p .host s) (startHost p f s) := by
  cases f with
  | bcast w => rfl
  | slot w => exact startSlot_touchesHost p w _

theorem startSweep_touchesSweep (p : Port) (c : SweepChoice) (s : State) : TouchesSweepClass s (startSweep p c s) := by
  cases c <;> rfl

/-- What a host frame leaves alone. -/
theorem startHost_leaves (p : Port) (f : HostFrame) (s : State) :
    (startHost p f s).sticky = s.sticky ∧ (startHost p f s).markers = s.markers.set p .host
      ∧ (startHost p f s).cursors = s.cursors ∧ (startHost p f s).reservations = s.reservations := by
  rw [startHost_touchesHost p f s]
  exact ⟨rfl, rfl, rfl, rfl⟩

/-- What the sweep's frame, and the marker set before it, leave alone. -/
theorem startSweep_leaves (p : Port) (c : SweepChoice) (s : State) :
    (startSweep p c (setMarker p .sweep s)).sticky = s.sticky
      ∧ (startSweep p c (setMarker p .sweep s)).markers = s.markers.set p .sweep
      ∧ (startSweep p c (setMarker p .sweep s)).slots = s.slots := by
  rw [startSweep_touchesSweep p c (setMarker p .sweep s)]
  exact ⟨rfl, rfl, rfl⟩

/-- No frame of the shared row raises a cause. -/
theorem handShared_sticky (p : Port) (s : State) : (handShared p s).sticky = s.sticky := by
  unfold handShared
  split
  · rfl
  · exact (startSweep_leaves p _ s).1
  · exact (startHost_leaves p _ s).1
  · split
    · exact (startSweep_leaves p _ s).1
    · exact (startHost_leaves p _ s).1

/-! ## The frame of each class -/

/-- The sweep's choice is sent as a POLL or a FETCH. -/
theorem startSweep_sends {c : SweepChoice} (h : c ≠ .nothing) :
    ∃ x, ((startSweep p c s).port p).exch = .sending x ∧ (x.frame.kind = .poll ∨ x.frame.kind = .fetch) := by
  cases c with
  | fetch b => exact ⟨_, handFrame_exch _ _ _, .inr rfl⟩
  | poll b => exact ⟨_, handFrame_exch _ _ _, .inl rfl⟩
  | nothing => exact absurd rfl h

/-- An eligible slot has a target and a kind with one (R106). -/
theorem eligible_targets (h : s.eligible p v = true) :
    (∃ b, (s.slot v).target = some b) ∧ ∃ k, (s.slot v).kind = some k ∧ k.targeted = true := by
  simp only [State.eligible, Bool.and_eq_true] at h
  obtain ⟨⟨⟨⟨⟨⟨⟨-, htarget⟩, htargeted⟩, -⟩, -⟩, -⟩, -⟩, -⟩ := h
  refine ⟨Option.isSome_iff_exists.1 htarget, ?_⟩
  cases hkind : (s.slot v).kind with
  | none =>
    rw [hkind] at htargeted
    nomatch htargeted
  | some k =>
    rw [hkind] at htargeted
    exact ⟨k, rfl, htargeted⟩

/-- A targeted kind's frame goes to the target (R109). -/
theorem attemptFrame_dest {x : Slot} {k : ReqKind} (htargeted : k.targeted = true) (htarget : x.target = some a)
    (b : Bool) : (attemptFrame x k b).dest = a := by
  have ha : x.target.getD 0 = a := by rw [htarget]; rfl
  cases k with
  | bcastWrite => nomatch htargeted
  | read | write | probe | restart => exact ha

/-- An eligible slot has its attempt or its resynchronising PROBE sent to its target. -/
theorem startHost_sendsSlot (h : s.eligible p v = true) :
    ∃ x, ((startHost p (.slot v) s).port p).exch = .sending x ∧ (x.owner = .attempt v ∨ x.owner = .resync v)
      ∧ some x.frame.dest = (s.slot v).target := by
  obtain ⟨⟨b, htarget⟩, k, hkind, htargeted⟩ := eligible_targets h
  have hport (y : ChainPort) : (s.ports.set p y).get p = y := Pair.get_set_same _ _ _
  cases hneeds : s.needsResync v with
  | true =>
    rw [startHost_resyncs htarget hneeds]
    exact ⟨_, congrArg ChainPort.exch (hport _), .inr rfl, htarget.symm⟩
  | false =>
    rw [startHost_attempts htarget hkind hneeds]
    exact ⟨_, congrArg ChainPort.exch (hport _), .inl rfl,
      (congrArg some (attemptFrame_dest htargeted htarget _)).trans htarget.symm⟩

/-- The ready host frame is sent: the broadcast's, or one for the slot, to its module (R104). -/
theorem startHost_sends {f : HostFrame} (h : s.hostFrame p = some f) :
    ∃ x, ((startHost p f s).port p).exch = .sending x
      ∧ (∀ v, f = .bcast v → x.owner = .bcast v ∧ x.frame.kind = .bcastWrite)
      ∧ ∀ v, f = .slot v → (x.owner = .attempt v ∨ x.owner = .resync v) ∧ some x.frame.dest = (s.slot v).target := by
  cases f with
  | bcast w =>
    refine ⟨_, handFrame_exch _ _ _, fun v hv => ?_, nofun⟩
    cases hv
    exact ⟨rfl, rfl⟩
  | slot w =>
    obtain ⟨x, hx, howner, hdest⟩ := startHost_sendsSlot (eligible_of_hostFrame h)
    refine ⟨x, hx, nofun, fun v hv => ?_⟩
    cases hv
    exact ⟨howner, hdest⟩

/-! ## Turns (R104) -/

/-- With both classes ready the marker decides. -/
theorem handShared_turns {f : HostFrame} (hhost : s.hostFrame p = some f) (hsweep : s.sweepChoice p ≠ .nothing) :
    (s.markers.get p = .host → handShared p s = startSweep p (s.sweepChoice p) (setMarker p .sweep s))
      ∧ (s.markers.get p = .sweep → handShared p s = startHost p f s) := by
  cases hc : s.sweepChoice p with
  | nothing => exact absurd hc hsweep
  | fetch b | poll b =>
    exact ⟨fun hmarker => by simp only [handShared, hhost, hc, hmarker],
      fun hmarker => by simp only [handShared, hhost, hc, hmarker]⟩

/-- With both classes ready each hands its frame in its turn, and the marker names the class handed. -/
theorem handShared_alternates {f : HostFrame} (hhost : s.hostFrame p = some f) (hsweep : s.sweepChoice p ≠ .nothing) :
    ∃ x, ((handShared p s).port p).exch = .sending x
      ∧ (s.markers.get p = .host →
          (handShared p s).markers = s.markers.set p .sweep ∧ (handShared p s).slots = s.slots
            ∧ (x.frame.kind = .poll ∨ x.frame.kind = .fetch))
      ∧ (s.markers.get p = .sweep →
          (handShared p s).markers = s.markers.set p .host ∧ (handShared p s).cursors = s.cursors
            ∧ (handShared p s).reservations = s.reservations
            ∧ (∀ v, f = .bcast v → x.owner = .bcast v ∧ x.frame.kind = .bcastWrite)
            ∧ ∀ v, f = .slot v →
                (x.owner = .attempt v ∨ x.owner = .resync v) ∧ some x.frame.dest = (s.slot v).target) := by
  obtain ⟨hsweepTurn, hhostTurn⟩ := handShared_turns hhost hsweep
  cases hmarker : s.markers.get p with
  | host =>
    rw [hsweepTurn hmarker]
    obtain ⟨x, hx, hkind⟩ := startSweep_sends (s := setMarker p .sweep s) (p := p) hsweep
    obtain ⟨-, hmarkers, hslots⟩ := startSweep_leaves p (s.sweepChoice p) s
    exact ⟨x, hx, fun _ => ⟨hmarkers, hslots, hkind⟩, nofun⟩
  | sweep =>
    rw [hhostTurn hmarker]
    obtain ⟨x, hx, hbcast, hslot⟩ := startHost_sends hhost
    obtain ⟨-, hmarkers, hcursors, hreservations⟩ := startHost_leaves p f s
    exact ⟨x, hx, nofun, fun _ => ⟨hmarkers, hcursors, hreservations, hbcast, hslot⟩⟩

/-- Settles O34: the test for NOTICE_BACKLOG raises that cause alone, and the turns are taken in the state it leaves. -/
theorem hostAndSweepShareThePort : Obligations.HostAndSweepShareThePort := by
  unfold Obligations.HostAndSweepShareThePort
  intro s p hreset hcan hcensus hchecks withheld
  have hsticky : (handShared p (testBacklog p s)).sticky
      = { s.sticky with noticeBacklog := s.sticky.noticeBacklog || s.backlog p } := by
    rw [handShared_sticky, testBacklog_eq]
  refine ⟨handShared p (testBacklog p s), ?_, ?_, ?_, fun f hhost hsweep => ?_⟩
  · rw [exec_arbiterHand hreset hcan, arbitrate_shares hcensus hchecks]
  · rw [hsticky]
  · rw [hsticky, Bool.or_eq_true, backlog_iff hcensus hchecks]
    rfl
  · rw [testBacklog_eq]
    exact handShared_alternates (s := { s with sticky := _ }) hhost hsweep

end Sys2Proof.Proofs
end

section
/-! CLEAR_ALL_CHANGED and the MIRROR_CTRL writes: the host's flags in the mirror entries (R136, R137). -/

namespace Sys2Proof.Proofs

-- one theorem after the other: many proofs elaborated at once ask for a stack each
set_option Elab.async false

open Sys2Proof.Machine Sys2Proof.Safety

variable {s : State} {code : Byte}

/-! ## CLEAR_ALL_CHANGED (R136) -/

/-- Bit 3 of CAUSE0 is MIRROR_CHANGE (section 11.3). -/
theorem causeByte_zero_mirrorChange (s : State) : (s.causeByte .zero).getLsbD 3 = s.changeSetNonempty :=
  byteOfBits_bit3 _ _ _ _ _ _ _ _

theorem clearAllFlags_status (s : State) (a : Nat) :
    (clearAllFlags s).status a = { s.status a with changed := false } :=
  State.status_mapCells s _ rfl a

theorem clearAllFlags_changeSet (s : State) : (clearAllFlags s).changeSetNonempty = false := by
  have hcells : (clearAllFlags s).mirror.toList = s.mirror.toList.map fun m => { m with changed := false } := rfl
  rw [State.changeSetNonempty, hcells, List.any_eq_false]
  intro m hm
  obtain ⟨-, -, rfl⟩ := List.mem_map.1 hm
  exact Bool.false_ne_true

/-- Settles O13: the command is taken, and the flags are all it clears. -/
theorem clearAllChangedEmptiesSet : Obligations.ClearAllChangedEmptiesSet := by
  unfold Obligations.ClearAllChangedEmptiesSet
  intro s hat
  exact ⟨_, exec_clearAllChanged hat, rfl, clearAllFlags_status s,
    (causeByte_zero_mirrorChange _).trans (clearAllFlags_changeSet s)⟩

/-! ## MIRROR_CTRL (R137) -/

theorem mirrorAction_undefined (h : code.toNat = 0 ∨ 3 < code.toNat) (m : MirrorEntry) : mirrorAction code m = m := by
  have hno (n : Byte) (hn : 1 ≤ n.toNat ∧ n.toNat ≤ 3) : code ≠ n := by
    rintro rfl
    omega
  rw [mirrorAction, if_neg (hno 1 (by decide)), if_neg (hno 2 (by decide)), if_neg (hno 3 (by decide))]

/-- A MIRROR_CTRL write changes mirror and window only. -/
theorem writeMirrorCtrl_frame (code : Byte) (s : State) :
    writeMirrorCtrl code s =
      { s with
        mirror := (writeMirrorCtrl code s).mirror
        mirrorWindow := (writeMirrorCtrl code s).status s.mirrorSel.toNat } := by
  unfold writeMirrorCtrl snapMirror State.setStatus
  simp only
  split <;> rfl

theorem writeMirrorCtrl_status (code : Byte) (s : State) (a : Nat) :
    (writeMirrorCtrl code s).status a
      = if a = s.mirrorSel.toNat ∧ 1 ≤ s.mirrorSel.toNat ∧ s.mirrorSel.toNat ≤ 62
        then mirrorAction code (s.status s.mirrorSel.toNat) else s.status a :=
  State.status_setStatus s _ a _

/-- With no entry selected the window shows EMPTY and no entry changes. -/
theorem writeMirrorCtrl_unselected (h : ¬(1 ≤ s.mirrorSel.toNat ∧ s.mirrorSel.toNat ≤ 62)) (code : Byte) :
    writeMirrorCtrl code s = { s with mirrorWindow := MirrorEntry.empty } := by
  have hset (m : MirrorEntry) : s.setStatus s.mirrorSel.toNat m = s := by
    unfold State.setStatus
    rw [dif_neg h]
  rw [writeMirrorCtrl, hset, snapMirror, State.status_outside s h]

/-- The entry that MIRROR_SEL names becomes `m'`, of which the window takes a snapshot; every other entry stands. -/
def ActsOnEntry (s : State) (m' : MirrorEntry) (c : Instr) : Prop :=
  ∃ t, exec c s = .next t
    ∧ t = { s with addrCounter := 0x0142, mirror := t.mirror, mirrorWindow := m' }
    ∧ t.status s.mirrorSel.toNat = m'
    ∧ ∀ a, a ≠ s.mirrorSel.toNat → t.status a = s.status a

/-- A write with an action acts on the entry selected. -/
theorem actsOnEntry_of_action {c : Instr} {m' : MirrorEntry}
    (hexec : exec c s = .next (counterPast 0x0141 (writeMirrorCtrl code s)))
    (haction : mirrorAction code (s.status s.mirrorSel.toNat) = m')
    (hsel : 1 ≤ s.mirrorSel.toNat ∧ s.mirrorSel.toNat ≤ 62) : ActsOnEntry s m' c := by
  have hselected : (writeMirrorCtrl code s).status s.mirrorSel.toNat = m' :=
    (writeMirrorCtrl_status code s _).trans ((if_pos ⟨rfl, hsel⟩).trans haction)
  refine ⟨_, hexec, ?_, hselected, fun a ha => ?_⟩
  · rw [writeMirrorCtrl_frame, hselected]
    rfl
  · exact (writeMirrorCtrl_status code s a).trans (if_neg fun h => ha h.1)

/-- Settles O15: each action is a write of its code, which the selected entry takes, or none does. -/
theorem mirrorCtrlActsOnEntry : Obligations.MirrorCtrlActsOnEntry := by
  unfold Obligations.MirrorCtrlActsOnEntry
  intro s code hat
  refine ⟨fun hlow hhigh => ?_, fun hnone c hc => ?_⟩
  · have hsel := And.intro hlow hhigh
    exact ⟨actsOnEntry_of_action (exec_setWatch hat) rfl hsel, actsOnEntry_of_action (exec_clearWatch hat) rfl hsel,
      actsOnEntry_of_action (exec_clearChanged hat) rfl hsel, fun hcode =>
        actsOnEntry_of_action (exec_mirrorCtrlUndefinedAction hat) (mirrorAction_undefined hcode _) hsel⟩
  · have hunselected (n : Byte) : counterPast 0x0141 (writeMirrorCtrl n s)
        = { s with addrCounter := 0x0142, mirrorWindow := MirrorEntry.empty } := by
      rw [writeMirrorCtrl_unselected (by omega)]
      rfl
    rcases hc with rfl | rfl | rfl | ⟨rfl, -⟩
    · rw [exec_setWatch hat, hunselected]
    · rw [exec_clearWatch hat, hunselected]
    · rw [exec_clearChanged hat, hunselected]
    · rw [exec_mirrorCtrlUndefinedAction hat, hunselected]

end Sys2Proof.Proofs
end

section
/-! Law 12 of one address, and what the entries of roster and mirror may become: the reports of an exchange, the sweep's
answers and misses, a module lost or restarted, the timer (R46, R119, R124 to R126, R131 to R138). -/

namespace Sys2Proof.Proofs

-- one theorem after the other: many proofs elaborated at once ask for a stack each
set_option Elab.async false

open Sys2Proof.Machine Sys2Proof.Safety

variable {s t u : State} {a : Nat} {e f : RosterEntry} {m : MirrorEntry}

/-! ## One address -/

/-- What Law 12 and R124 ask of a mirror entry beside the roster entry of its address. -/
def StatusLaw (e : RosterEntry) (m : MirrorEntry) : Prop :=
  (m.state = .fresh → e.live = true)
    ∧ (m.state = .empty →
        m.health = .ok ∧ m.record = none ∧ m.pendingCount = 0 ∧ m.fetchWanted = false ∧ m.age = 0)
    ∧ m.missCount ≤ 15 ∧ m.age ≤ 65535 ∧ m.pendingCount ≤ 7

theorem mirrorLaw_iff (s : State) : MirrorLaw s ↔ ∀ a, StatusLaw (s.entry a) (s.status a) := .rfl

/-- A roster entry may change as long as it does not cease to be ACTIVE or SUSPECT. -/
theorem StatusLaw.of_live (h : StatusLaw e m) (hlive : e.live = true → f.live = true) : StatusLaw f m :=
  ⟨fun hfresh => hlive (h.1 hfresh), h.2⟩

theorem statusLaw_empty (e : RosterEntry) : StatusLaw e MirrorEntry.empty :=
  ⟨nofun, fun _ => ⟨rfl, rfl, rfl, rfl, rfl⟩, Nat.zero_le _, Nat.zero_le _, Nat.zero_le _⟩

/-- The host's actions change flags the law does not speak of (R137). -/
theorem StatusLaw.mirrorAction (h : StatusLaw e m) (code : Byte) : StatusLaw e (mirrorAction code m) := by
  unfold Machine.mirrorAction
  split
  · exact h
  · split
    · exact h
    · split <;> exact h

theorem StatusLaw.agedEntry (h : StatusLaw e m) : StatusLaw e (agedEntry m) := by
  have ⟨hfresh, _, hmisses, _, hpending⟩ := h
  unfold Machine.agedEntry
  split
  · exact h
  · next hfull => exact ⟨hfresh, fun hempty => absurd hempty hfull, hmisses, satInc_le _ _, hpending⟩

/-- A STATUS is stored only for a module that is ACTIVE or SUSPECT (R131, R134). -/
theorem statusLaw_storedStatus (hlive : e.live = true) (m : MirrorEntry) (l : List Byte) (b : Bool) :
    StatusLaw e (storedStatus m (StatusReport.ofBytes l) b) :=
  ⟨fun _ => hlive, nofun, Nat.zero_le _, Nat.zero_le _,
    Nat.le_of_lt_succ ((payloadByte l 0).extractLsb' 2 3).isLt⟩

theorem StatusLaw.missed (h : StatusLaw e m) (n : Nat) : StatusLaw e { m with missCount := satInc 15 n } := by
  obtain ⟨hfresh, hempty, -, hrest⟩ := h
  exact ⟨hfresh, hempty, satInc_le _ _, hrest⟩

theorem StatusLaw.staleEntry (h : StatusLaw e m) (f : RosterEntry) : StatusLaw f (staleEntry m) := by
  obtain ⟨-, -, hmisses, hage, hpending⟩ := h
  refine ⟨nofun, nofun, hmisses, ?_, hpending⟩
  unfold Machine.staleEntry
  simp only
  split
  · exact Nat.zero_le _
  · exact hage

/-- The entry of a lost module is STALE, so the law allows it beside a LOST roster entry (R138). -/
theorem StatusLaw.lostStatus (h : StatusLaw e m) (f : RosterEntry) : StatusLaw f (lostStatus m) := by
  obtain ⟨-, -, hrest⟩ := h.staleEntry f
  exact ⟨nofun, nofun, hrest⟩

theorem StatusLaw.fetchEnded (h : StatusLaw e m) : StatusLaw e { m with fetchWanted := false } := by
  obtain ⟨hfresh, hempty, hrest⟩ := h
  refine ⟨hfresh, fun hstate => ?_, hrest⟩
  obtain ⟨hhealth, hrecord, hpending, -, hage⟩ := hempty hstate
  exact ⟨hhealth, hrecord, hpending, rfl, hage⟩

/-! ## Every address -/

/-- Every address whose mirror entry obeys the law has one that does afterwards. -/
def KeepsStatuses (s t : State) : Prop :=
  ∀ b, StatusLaw (s.entry b) (s.status b) → StatusLaw (t.entry b) (t.status b)

theorem KeepsStatuses.refl (s : State) : KeepsStatuses s s := fun _ h => h

theorem KeepsStatuses.trans (h : KeepsStatuses s t) (k : KeepsStatuses t u) : KeepsStatuses s u :=
  fun b hb => k b (h b hb)

/-- The mirror stands and no module ceases to be ACTIVE or SUSPECT. -/
theorem KeepsStatuses.of_live (hmirror : t.mirror = s.mirror)
    (hlive : ∀ b, (s.entry b).live = true → (t.entry b).live = true) : KeepsStatuses s t := fun b hb => by
  rw [State.status_eq_of_mirror hmirror]
  exact hb.of_live (hlive b)

/-- Roster and mirror stand. -/
structure RecordsStand (s t : State) : Prop where
  roster : t.roster = s.roster
  mirror : t.mirror = s.mirror

theorem RecordsStand.trans (h : RecordsStand s t) (k : RecordsStand t u) : RecordsStand s u :=
  ⟨k.roster.trans h.roster, k.mirror.trans h.mirror⟩

theorem RecordsStand.after (k : RecordsStand t u) (h : RecordsStand s t) : RecordsStand s u := h.trans k

theorem KeepsStatuses.of_records (h : RecordsStand s t) : KeepsStatuses s t :=
  .of_live h.mirror fun b hb => by
    rw [State.entry_eq_of_roster h.roster]
    exact hb

/-- What is changed first may be all but roster and mirror. -/
theorem KeepsStatuses.after (h : KeepsStatuses t u) (hrecords : RecordsStand s t) : KeepsStatuses s u :=
  (KeepsStatuses.of_records hrecords).trans h

/-- Ending and choosing slots changes toggles only. -/
theorem KeepsStatuses.of_requests (h : RequestMoves s t) : KeepsStatuses s t :=
  .of_live h.touches.mirror fun b hb => by
    rw [h.entry b]
    exact hb

theorem keepsStatuses_foldl {α : Type} {g : State → α → State} (hg : ∀ s x, KeepsStatuses s (g s x))
    (l : List α) (s : State) : KeepsStatuses s (l.foldl g s) := foldl_relates .refl .trans hg l s

theorem setEntry_keepsStatuses (h : (s.entry a).live = true → e.live = true) : KeepsStatuses s (s.setEntry a e) :=
  .of_live (State.setEntry_mirror s a e) fun b hb => by
    rw [State.entry_setEntry]
    split
    · next hba =>
      obtain ⟨rfl, -⟩ := hba
      exact h hb
    · exact hb

theorem setStatus_keepsStatuses (h : StatusLaw (s.entry a) (s.status a) → StatusLaw (s.entry a) m) :
    KeepsStatuses s (s.setStatus a m) := by
  intro b hb
  rw [State.entry_eq_of_roster (State.setStatus_roster s a m), State.status_setStatus]
  split
  · next hba =>
    obtain ⟨rfl, -⟩ := hba
    exact h hb
  · exact hb

/-- A cleared mirror holds EMPTY entries only. -/
theorem keepsStatuses_of_cleared (h : t.mirror = Vector.replicate 62 MirrorEntry.empty) : KeepsStatuses s t := by
  intro b _
  have hstatus : t.status b = MirrorEntry.empty := by
    unfold State.status
    split
    · simp [h]
    · rfl
  rw [hstatus]
  exact statusLaw_empty _

/-! ## Reports of an exchange (R46 to R48, R119) -/

theorem setToggle_keepsStatuses (a : Nat) (g : Toggle) (s : State) : KeepsStatuses s (setToggle a g s) := by
  unfold setToggle
  split
  · exact .refl s
  · exact setEntry_keepsStatuses id

theorem setLastSeq_keepsStatuses (a : Nat) (q : Option Seq) (s : State) : KeepsStatuses s (setLastSeq a q s) := by
  unfold setLastSeq
  split
  · exact .refl s
  · exact setEntry_keepsStatuses id

theorem reportGood_keepsStatuses (a : Nat) (s : State) : KeepsStatuses s (reportGood a s) :=
  .of_live (reportGood_touches a s).mirror fun b hb => (reportGood_live a b s).trans hb

theorem reportFailure_keepsStatuses (a : Nat) (s : State) : KeepsStatuses s (reportFailure a s) :=
  .of_live (reportFailure_mirror a s) fun _ => reportFailure_keeps_live a

theorem answered_keepsStatuses (a : Nat) (s : State) : KeepsStatuses s (answered a s) := by
  unfold answered
  split
  · exact setEntry_keepsStatuses fun _ => rfl
  · exact .refl s

theorem clearStatus_keepsStatuses (a : Nat) (s : State) : KeepsStatuses s (clearStatus a s) :=
  setStatus_keepsStatuses fun _ => statusLaw_empty _

theorem restartAcked_keepsStatuses (a : Nat) (s : State) : KeepsStatuses s (restartAcked a s) :=
  ((setToggle_keepsStatuses a .zero s).trans (setLastSeq_keepsStatuses a none _)).trans
    (clearStatus_keepsStatuses a _)

theorem reportAttempt_keepsStatuses (k : ReqKind) (a : Nat) (f : Frame) (o : PortOutcome) (s : State) :
    KeepsStatuses s (reportAttempt k a f o s) := by
  have hgood := reportGood_keepsStatuses a s
  have hfails := reportFailure_keepsStatuses a s
  unfold reportAttempt
  split
  · simp only
    split
    · exact hgood.trans (setToggle_keepsStatuses a _ _)
    · exact hgood.trans (setToggle_keepsStatuses a _ _)
    · exact hgood.trans (restartAcked_keepsStatuses a _)
    · exact hgood
  · exact hfails
  · exact hfails
  · exact hfails
  · exact .refl s
  · exact .refl s

theorem reportProbe_keepsStatuses (a : Nat) (o : PortOutcome) (s : State) : KeepsStatuses s (reportProbe a o s) := by
  have hgood := reportGood_keepsStatuses a s
  have hfails := reportFailure_keepsStatuses a s
  unfold reportProbe
  split
  · split
    · exact hgood.trans (setToggle_keepsStatuses a _ _)
    · exact hgood
  · exact hfails
  · exact hfails
  · exact hfails
  · exact .refl s
  · exact .refl s

/-! ## Outcomes of the sweep (R131 to R135, R145, R147) -/

theorem storeStatus_keepsStatuses (a : Nat) (l : List Byte) (s : State) :
    KeepsStatuses s (storeStatus a (StatusReport.ofBytes l) s) := by
  unfold storeStatus
  split
  · next hlive => exact setStatus_keepsStatuses fun _ => statusLaw_storedStatus hlive _ l _
  · exact .refl s

theorem countMiss_keepsStatuses (a : Nat) (s : State) : KeepsStatuses s (countMiss a s) := by
  unfold countMiss
  simp only
  split
  · split
    · exact setStatus_keepsStatuses fun h => (h.missed _).staleEntry _
    · exact setStatus_keepsStatuses fun h => h.missed _
  · exact .refl s

theorem pollOutcome_keepsStatuses (a : Nat) (o : PortOutcome) (s : State) : KeepsStatuses s (pollOutcome a o s) := by
  have hgood := reportGood_keepsStatuses a s
  have hfails := (reportFailure_keepsStatuses a s).trans (countMiss_keepsStatuses a _)
  unfold pollOutcome
  split
  · split
    · exact hgood.trans (storeStatus_keepsStatuses a _ _)
    · exact hgood.trans (countMiss_keepsStatuses a _)
  · exact hfails
  · exact hfails
  · exact hfails
  · exact .refl s
  · exact .refl s

theorem judgeNotice_keepsStatuses (p : Port) (a : Nat) (f : Frame) (s : State) :
    KeepsStatuses s (judgeNotice p a f s) := by
  unfold judgeNotice
  split
  · exact .of_records ⟨rfl, rfl⟩
  · split
    · exact (setLastSeq_keepsStatuses a _ _).after ⟨rfl, rfl⟩
    · exact .refl s

theorem fetchOutcome_keepsStatuses (p : Port) (a : Nat) (o : PortOutcome) (s : State) :
    KeepsStatuses s (fetchOutcome p a o s) := by
  have hgood := reportGood_keepsStatuses a s
  have hfails : KeepsStatuses s (release p (reportFailure a s)) := reportFailure_keepsStatuses a s
  have hended (r : State) : KeepsStatuses r (release p (setFetchWanted a false r)) :=
    setStatus_keepsStatuses fun h => h.fetchEnded
  unfold fetchOutcome
  split
  · split
    · exact hgood.trans (judgeNotice_keepsStatuses p a _ _)
    · exact hgood.trans (hended _)
  · exact hfails
  · exact hfails
  · exact hfails
  · exact .of_records ⟨rfl, rfl⟩
  · exact .of_records ⟨rfl, rfl⟩

end Sys2Proof.Proofs
end

section
/-! Law 12 through the reach checks and what settles after a command: a module that is lost takes its mirror entry with
it, everything else leaves the mirror (R107, R138, R156 to R166). -/

namespace Sys2Proof.Proofs

-- one theorem after the other: many proofs elaborated at once ask for a stack each
set_option Elab.async false

open Sys2Proof.Machine Sys2Proof.Safety

variable {s : State}

/-! ## A module lost (R138, R163) -/

theorem loseModule_keepsStatuses (x : Port) (a : Nat) (s : State) : KeepsStatuses s (loseModule x a s) := by
  intro b hb
  rw [loseModule_entry, loseModule_status]
  split
  · exact hb.lostStatus _
  · exact hb

theorem loseDecided_keepsStatuses (x : Port) (a : Nat) (s : State) : KeepsStatuses s (loseDecided x a s) :=
  (loseModule_keepsStatuses x a s).trans (.of_records ⟨rfl, rfl⟩)

theorem losePending_keepsStatuses (x : Port) (n : Nat) (s : State) : KeepsStatuses s (losePending x n s) := by
  induction n generalizing s with
  | zero => exact .refl s
  | succ n ih =>
    unfold losePending
    split
    · exact .refl s
    · exact (loseModule_keepsStatuses x _ s).trans (ih _)

/-! ## Deciding and settling (R107, R159 to R166) -/

theorem frontPass_keepsStatuses (s : State) : KeepsStatuses s (frontPass s) := .of_requests (frontPass_moves s).requests

theorem setCheck_keepsStatuses (x : Port) (c : Check) (s : State) : KeepsStatuses s (s.setCheck x c) :=
  .of_records ⟨rfl, rfl⟩

theorem endCheck_keepsStatuses (x : Port) (s : State) : KeepsStatuses s (endCheck x s) := by
  rw [endCheck_eq]
  exact (KeepsStatuses.of_requests (endRequests_moves x s)).trans (.of_records ⟨rfl, rfl⟩)

theorem decideModules_keepsStatuses (x : Port) (n : Nat) (s : State) : KeepsStatuses s (decideModules x n s) := by
  induction n generalizing s with
  | zero => exact .refl s
  | succ n ih =>
    unfold decideModules
    simp only
    split
    · split
      · exact endCheck_keepsStatuses x s
      · split
        · exact (loseModule_keepsStatuses x _ s).trans (ih _)
        · exact setCheck_keepsStatuses x _ s
    · exact .refl s

theorem advanceProbing_keepsStatuses (x : Port) (s : State) : KeepsStatuses s (advanceProbing x s) := by
  unfold advanceProbing
  simp only
  split
  · split
    · exact (setCheck_keepsStatuses x _ s).trans (endCheck_keepsStatuses x _)
    · split
      · exact .refl s
      · exact setCheck_keepsStatuses x _ s
  · exact .refl s

theorem advanceAndFront_keepsStatuses (x : Port) (s : State) : KeepsStatuses s (advanceAndFront x s) :=
  ((advanceProbing_keepsStatuses x s).trans (decideModules_keepsStatuses x _ _)).trans (frontPass_keepsStatuses _)

theorem settleFrom_keepsStatuses (x : Port) (s : State) : KeepsStatuses s (settleFrom x s) :=
  ((frontPass_keepsStatuses s).trans (advanceAndFront_keepsStatuses x _)).trans
    (advanceAndFront_keepsStatuses x.other _)

theorem settle_keepsStatuses (s : State) : KeepsStatuses s (settle s) := settleFrom_keepsStatuses .a s

/-! ## Probes of a check (R160, R162) -/

theorem probingOutcome_keepsStatuses (x : Port) (a : Nat) (o : PortOutcome) (s : State) :
    KeepsStatuses s (probingOutcome x a o s) := by
  have hfails : KeepsStatuses s (if (s.checks.get x).tries < 2 then s else breakFound x a s) := by
    split
    · exact .refl s
    · exact setCheck_keepsStatuses x _ s
  unfold probingOutcome
  simp only
  split
  · exact (answered_keepsStatuses a s).trans (setCheck_keepsStatuses x _ _)
  · exact hfails
  · exact hfails
  · exact hfails
  · exact .refl s
  · exact .refl s

theorem rerouteModule_keepsStatuses (x : Port) (a : Nat) (s : State) : KeepsStatuses s (rerouteModule x a s) :=
  (setEntry_keepsStatuses fun _ => rfl).trans (setCheck_keepsStatuses x _ _)

theorem reroutingOutcome_keepsStatuses (x : Port) (a : Nat) (o : PortOutcome) (s : State) :
    KeepsStatuses s (reroutingOutcome x a o s) := by
  have hfails : KeepsStatuses s (if (s.checks.get x).tries < 2 then s else loseDecided x a s) := by
    split
    · exact .refl s
    · exact loseDecided_keepsStatuses x a s
  unfold reroutingOutcome
  split
  · split
    · exact rerouteModule_keepsStatuses x a s
    · exact loseDecided_keepsStatuses x a s
  · exact hfails
  · exact hfails
  · exact hfails
  · exact .refl s
  · exact .refl s

theorem checkOutcome_keepsStatuses (p x : Port) (a : Nat) (o : PortOutcome) (s : State) :
    KeepsStatuses s (checkOutcome p x a o s) := by
  have hreport := reportProbe_keepsStatuses a o s
  unfold checkOutcome
  simp only
  split
  · split
    · exact hreport.trans (probingOutcome_keepsStatuses x a o _)
    · exact hreport
  · split
    · exact hreport.trans (reroutingOutcome_keepsStatuses x a o _)
    · exact hreport

/-! ## A port leaving UP (R29, R164, R165) -/

theorem otherPortLeft_keepsStatuses (x : Port) (s : State) : KeepsStatuses s (otherPortLeft x s) := by
  unfold otherPortLeft
  simp only
  split
  · exact (losePending_keepsStatuses x _ s).trans (setCheck_keepsStatuses x _ _)
  · exact .refl s

theorem ownPortLeft_recordsStand (x : Port) (s : State) : RecordsStand s (ownPortLeft x s) := by
  unfold ownPortLeft
  simp only
  split
  · split <;> exact ⟨rfl, rfl⟩
  · exact ⟨rfl, rfl⟩
  · exact ⟨rfl, rfl⟩

theorem tellChecks_keepsStatuses (p : Port) (s : State) : KeepsStatuses s (tellChecks p s) := by
  unfold tellChecks
  split
  · exact .refl s
  · exact (otherPortLeft_keepsStatuses _ s).trans (.of_records (ownPortLeft_recordsStand _ _))

end Sys2Proof.Proofs
end

section
/-! Law 12 through the slots' outcomes, the census and the ports: nothing of these touches a mirror entry but the clear,
and no module ceases to be ACTIVE or SUSPECT by them (R60, R67, R72 to R79, R110 to R121). -/

namespace Sys2Proof.Proofs

-- one theorem after the other: many proofs elaborated at once ask for a stack each
set_option Elab.async false

open Sys2Proof.Machine Sys2Proof.Safety

variable {s : State}

/-! ## Slots that end or wait (R65, R91, R98, R110 to R113, R121) -/

theorem finish_keepsStatuses (v : Tag) (st : Status) (s : State) : KeepsStatuses s (finish v st s) :=
  .of_requests (finish_moves v st s)

theorem completeActive_keepsStatuses (v : Tag) (st : Status) (late : Bool) (data : List Byte) (s : State) :
    KeepsStatuses s (completeActive v st late data s) := .of_requests (completeActive_moves v st late data s)

theorem waitOrFlush_keepsStatuses (v : Tag) (b : Option Nat) (s : State) : KeepsStatuses s (waitOrFlush v b s) := by
  unfold waitOrFlush
  split
  · exact completeActive_keepsStatuses v _ _ _ s
  · exact .of_records ⟨rfl, rfl⟩

theorem busyDecision_keepsStatuses (v : Tag) (s : State) : KeepsStatuses s (busyDecision v s) := by
  unfold busyDecision
  simp only
  split
  · exact completeActive_keepsStatuses v _ _ _ s
  · exact (waitOrFlush_keepsStatuses v _ _).after ⟨rfl, rfl⟩

theorem failedDecision_keepsStatuses (v : Tag) (s : State) : KeepsStatuses s (failedDecision v s) := by
  unfold failedDecision
  split
  · exact waitOrFlush_keepsStatuses v _ s
  · exact completeActive_keepsStatuses v _ _ _ s

theorem decideSlot_keepsStatuses (v : Tag) (d : Decision) (s : State) : KeepsStatuses s (decideSlot v d s) := by
  unfold decideSlot
  split
  · split <;> exact completeActive_keepsStatuses v _ _ _ s
  · split
    · exact completeActive_keepsStatuses v _ _ _ s
    · exact completeActive_keepsStatuses v _ _ _ s
    · exact busyDecision_keepsStatuses v s
    · exact failedDecision_keepsStatuses v s
    · exact waitOrFlush_keepsStatuses v _ s

theorem cancelActive_keepsStatuses (v : Tag) (s : State) : KeepsStatuses s (cancelActive v s) := by
  unfold cancelActive
  split
  · split
    · exact .of_records ⟨rfl, rfl⟩
    · exact (finish_keepsStatuses v _ (stopBcast v s)).after ⟨rfl, rfl⟩
  · exact .of_records ⟨rfl, rfl⟩

theorem takeSlot_keepsStatuses (v : Tag) (s : State) : KeepsStatuses s (takeSlot v s) := by
  have hvalidate (r : State) : KeepsStatuses r (validateTarget v r) := by
    unfold validateTarget
    split
    · exact .refl r
    · split
      · split
        · exact finish_keepsStatuses v _ r
        · split
          · exact finish_keepsStatuses v _ r
          · exact .refl r
      · exact .refl r
  unfold takeSlot
  simp only
  split
  · exact (hvalidate _).after ⟨rfl, rfl⟩
  · exact (finish_keepsStatuses v _ _).after ⟨rfl, rfl⟩

/-! ## Outcomes of attempts and broadcasts (R110, R118, R121) -/

theorem attemptOutcome_keepsStatuses (v : Tag) (f : Frame) (o : PortOutcome) (s : State) :
    KeepsStatuses s (attemptOutcome v f o s) := by
  unfold attemptOutcome
  simp only
  split
  · exact .refl s
  · next k _ =>
    exact (reportAttempt_keepsStatuses k _ f o s).trans ((decideSlot_keepsStatuses v _ _).after ⟨rfl, rfl⟩)

theorem resyncMatched_keepsStatuses (p : Port) (v : Tag) (s : State) : KeepsStatuses s (resyncMatched p v s) := by
  unfold resyncMatched
  split
  · exact completeActive_keepsStatuses v _ _ _ s
  · exact .of_records ⟨rfl, rfl⟩

theorem resyncOutcome_keepsStatuses (p : Port) (v : Tag) (o : PortOutcome) (s : State) :
    KeepsStatuses s (resyncOutcome p v o s) := by
  have hreport : KeepsStatuses s (clearFollowUp p (reportResync ((s.slot v).target.getD 0) o s)) :=
    (reportProbe_keepsStatuses _ o s).trans (.of_records ⟨rfl, rfl⟩)
  unfold resyncOutcome
  simp only
  refine hreport.trans ?_
  split
  · exact completeActive_keepsStatuses v _ _ _ _
  · split
    · exact completeActive_keepsStatuses v _ _ _ _
    · exact resyncMatched_keepsStatuses p v _
    · exact completeActive_keepsStatuses v _ _ _ _
    · exact busyDecision_keepsStatuses v _
    · exact waitOrFlush_keepsStatuses v _ _
    · exact waitOrFlush_keepsStatuses v _ _

theorem bcastOutcome_keepsStatuses (p : Port) (v : Tag) (o : PortOutcome) (s : State) :
    KeepsStatuses s (bcastOutcome p v o s) := by
  unfold bcastOutcome
  exact (KeepsStatuses.of_requests (bcastMaybeDone_moves v _)).after ⟨rfl, rfl⟩

/-! ## The census (R49, R63 to R79) -/

theorem failCensus_recordsStand (r : CensusReason) (s : State) : RecordsStand s (failCensus r s) := by
  unfold failCensus
  split <;> exact ⟨rfl, rfl⟩

theorem finishCensus_recordsStand (s : State) : RecordsStand s (finishCensus s) := by
  have hlock (r : State) : RecordsStand r (decideLock r) := by
    unfold decideLock
    split
    · split <;> exact ⟨rfl, rfl⟩
    · exact ⟨rfl, rfl⟩
  have hdecided : RecordsStand s (decideLock { s with rosterState := .valid, fingerprint := s.computeFingerprint }) :=
    (hlock _).after ⟨rfl, rfl⟩
  exact RecordsStand.trans hdecided ⟨rfl, rfl⟩

/-- The entry a claim creates is ACTIVE (R49). -/
theorem takeClaim_keepsStatuses (q : Port) (f : Frame) (s : State) : KeepsStatuses s (takeClaim q f s) := by
  have hentry : KeepsStatuses s
      (s.setEntry s.census.nextAddr (createdEntry q s.census.position (Identity.ofBytes f.payload))) :=
    setEntry_keepsStatuses fun _ => rfl
  unfold takeClaim
  exact hentry.trans (.of_records ⟨rfl, rfl⟩)

theorem afterClaim_recordsStand (s : State) : RecordsStand s (afterClaim s) := by
  unfold afterClaim
  split
  · exact (finishCensus_recordsStand _).after ⟨rfl, rfl⟩
  · exact ⟨rfl, rfl⟩

theorem endWalkA_recordsStand (s : State) : RecordsStand s (endWalkA s) := by
  unfold endWalkA
  split
  · split
    · exact ⟨rfl, rfl⟩
    · exact finishCensus_recordsStand s
  · exact ⟨rfl, rfl⟩

theorem endWalkB_recordsStand (s : State) : RecordsStand s (endWalkB s) := by
  unfold endWalkB
  simp only
  split
  · exact (finishCensus_recordsStand _).after ⟨rfl, rfl⟩
  · exact ⟨rfl, rfl⟩

/-- Ring closure changes hop counts only (R76). -/
theorem closeRing_keepsStatuses (s : State) : KeepsStatuses s (closeRing s) := by
  have hlive (n : Nat) (e : RosterEntry) : (closedHops n e).live = e.live := by
    unfold closedHops
    split <;> rfl
  have hclosed : KeepsStatuses s
      { s with ringState := .closed, roster := mapCells (closedHops s.tails.a) s.roster } :=
    .of_live rfl fun b hb => by
      rw [State.entry_mapCells { s with ringState := .closed } (closedHops s.tails.a) rfl b, hlive]
      exact hb
  unfold closeRing
  simp only
  split
  · exact hclosed.trans (.of_records (finishCensus_recordsStand _))
  · exact hclosed

theorem claimOutcomeA_keepsStatuses (o : PortOutcome) (s : State) : KeepsStatuses s (claimOutcomeA o s) := by
  have hfails : KeepsStatuses s (if s.census.tries = 2 then endWalkA s else s) := by
    split
    · exact .of_records (endWalkA_recordsStand s)
    · exact .refl s
  unfold claimOutcomeA
  split
  · split
    · exact (takeClaim_keepsStatuses .a _ s).trans (.of_records (afterClaim_recordsStand _))
    · exact .of_records (failCensus_recordsStand _ s)
  · exact hfails
  · exact hfails
  · exact hfails
  · exact .of_records (failCensus_recordsStand _ s)
  · exact .refl s

theorem claimOutcomeB_keepsStatuses (o : PortOutcome) (s : State) : KeepsStatuses s (claimOutcomeB o s) := by
  have hfails : KeepsStatuses s (if s.census.tries = 2 then endWalkB s else s) := by
    split
    · exact .of_records (endWalkB_recordsStand s)
    · exact .refl s
  unfold claimOutcomeB
  split
  · split
    · exact (takeClaim_keepsStatuses .b _ s).trans (.of_records (afterClaim_recordsStand _))
    · split
      · exact closeRing_keepsStatuses s
      · exact .of_records (failCensus_recordsStand _ s)
  · exact hfails
  · exact hfails
  · exact hfails
  · exact .of_records (failCensus_recordsStand _ s)
  · exact .refl s

theorem censusOutcome_keepsStatuses (p : Port) (o : PortOutcome) (s : State) :
    KeepsStatuses s (censusOutcome p o s) := by
  unfold censusOutcome
  split
  · split
    · exact .of_records ⟨rfl, rfl⟩
    · exact .of_records (failCensus_recordsStand _ s)
    · exact .refl s
  · exact claimOutcomeA_keepsStatuses o s
  · exact claimOutcomeB_keepsStatuses o s
  · exact .refl s

theorem startCensus_keepsStatuses (s : State) : KeepsStatuses s (startCensus s) := by
  have hflush (r : State) : KeepsStatuses r (flushAll r) :=
    keepsStatuses_foldl (fun r v => .of_requests (flushAtStart_moves v r)) _ r
  have habandon (q : Port) (r : State) : KeepsStatuses r (abandonCheck q r) := by
    unfold abandonCheck
    simp only
    split
    · exact .refl r
    · exact setCheck_keepsStatuses q _ r
  unfold startCensus
  exact ((hflush _).trans ((habandon .a _).trans (habandon .b _))).after ⟨rfl, rfl⟩

theorem stopCensus_keepsStatuses (c : StopCause) (s : State) : KeepsStatuses s (stopCensus c s) := by
  have hcheck (q : Port) (r : State) : KeepsStatuses r (startCheckIfDown q r) := by
    unfold startCheckIfDown
    split
    · exact setCheck_keepsStatuses q _ r
    · exact .refl r
  unfold stopCensus
  exact ((frontPass_keepsStatuses _).trans ((hcheck .a _).trans (hcheck .b _))).after ⟨rfl, rfl⟩

/-- The clear empties the mirror with the roster (R60, R67). -/
theorem makeClear_keepsStatuses (s : State) : KeepsStatuses s (makeClear s) := by
  have hclear : KeepsStatuses s (clearCensus s) := keepsStatuses_of_cleared rfl
  have hafter (r : State) : KeepsStatuses r (afterClear r) := by
    unfold afterClear
    split
    · exact stopCensus_keepsStatuses _ r
    · split <;> exact .of_records ⟨rfl, rfl⟩
  exact (hclear.trans (hafter _)).trans (settle_keepsStatuses _)

theorem makeStop_keepsStatuses (s : State) : KeepsStatuses s (makeStop s) := by
  unfold makeStop
  split
  · exact (stopCensus_keepsStatuses _ s).trans (settle_keepsStatuses _)
  · exact .refl s

theorem endSettle_recordsStand (s : State) : RecordsStand s (endSettle s) := by
  unfold endSettle
  simp only
  split <;> exact ⟨rfl, rfl⟩

theorem censusPortLeft_recordsStand (p : Port) (s : State) : RecordsStand s (censusPortLeft p s) := by
  have hleft : RecordsStand s (if s.census.ports.get p then
      let r := failCensus .portLost s
      { r with census := { r.census with settleTimer := false } } else s) := by
    split
    · exact (failCensus_recordsStand .portLost s).trans ⟨rfl, rfl⟩
    · exact ⟨rfl, rfl⟩
  unfold censusPortLeft
  split
  · exact hleft
  · exact hleft
  · exact hleft
  · exact ⟨rfl, rfl⟩

/-! ## The end of an exchange, and a port leaving UP (R25, R29, R38, R39) -/

theorem applyOutcome_keepsStatuses (p : Port) (x : Xfer) (o : PortOutcome) (s : State) :
    KeepsStatuses s (applyOutcome p x o s) := by
  unfold applyOutcome
  split
  · exact censusOutcome_keepsStatuses p o s
  · exact checkOutcome_keepsStatuses p _ _ o s
  · exact attemptOutcome_keepsStatuses _ _ o s
  · exact resyncOutcome_keepsStatuses p _ o s
  · exact bcastOutcome_keepsStatuses p _ o s
  · exact pollOutcome_keepsStatuses _ o s
  · exact fetchOutcome_keepsStatuses p _ o s

theorem endExchange_keepsStatuses (p : Port) (x : Xfer) (o : PortOutcome) (s : State) :
    KeepsStatuses s (endExchange p x o s) :=
  ((applyOutcome_keepsStatuses p x o (s.setExch p .idle)).trans (settle_keepsStatuses _)).after ⟨rfl, rfl⟩

theorem endTraffic_keepsStatuses (p : Port) (l : LinkState) (s : State) : KeepsStatuses s (endTraffic p l s) := by
  have htell (r : State) (e : Exchange) (n : Nat) : KeepsStatuses r (tellLinkLost p e n r) := by
    unfold tellLinkLost
    split
    · exact applyOutcome_keepsStatuses p _ _ r
    · exact .refl r
  unfold endTraffic
  exact ((htell (dropLink p l s) _ _).after ⟨rfl, rfl⟩).trans (.of_requests (beforeCensus_moves p _).requests)

theorem leaveUp_keepsStatuses (p : Port) (l : LinkState) (s : State) : KeepsStatuses s (leaveUp p l s) := by
  have hcensus : KeepsStatuses s (censusPortLeft p (endTraffic p l s)) :=
    (endTraffic_keepsStatuses p l s).trans (.of_records (censusPortLeft_recordsStand p _))
  have hsettle (q : Port) (n : Nat) (r : State) : KeepsStatuses r (settleFrom q { r with freeCount := n }) :=
    (settleFrom_keepsStatuses q _).after ⟨rfl, rfl⟩
  exact (hcensus.trans (tellChecks_keepsStatuses p _)).trans (hsettle _ _ _)

/-! ## The arbiter (R103) -/

theorem handCensus_mirror (p : Port) (s : State) : (handCensus p s).mirror = s.mirror := by
  unfold handCensus
  split
  · split <;> rfl
  · split <;> rfl
  · split <;> rfl
  · rfl

theorem arbitrate_mirror (p : Port) (s : State) : (arbitrate p s).mirror = s.mirror := by
  have hhost (h : HostFrame) (r : State) : (startHost p h r).mirror = r.mirror := by
    unfold startHost startSlot
    split
    · rfl
    · split
      · rfl
      · split <;> rfl
  have hsweep (c : SweepChoice) (r : State) : (startSweep p c r).mirror = r.mirror := by
    unfold startSweep
    split <;> rfl
  have hshared (r : State) : (handShared p r).mirror = r.mirror := by
    unfold handShared
    split
    · rfl
    · exact hsweep _ _
    · exact hhost _ r
    · split
      · exact hsweep _ _
      · exact hhost _ r
  unfold arbitrate
  split
  · exact handCensus_mirror p s
  · split
    · split
      · rfl
      · split <;> rfl
    · split
      · rfl
      · rw [hshared, testBacklog]
        split <;> rfl

end Sys2Proof.Proofs
end

section
/-! Law 12 through every command: receptions and windows, the host's writes, the resets and a step without a command
(R31 to R37, R126, R136, R137, R170 to R173, R180). -/

namespace Sys2Proof.Proofs

-- one theorem after the other: many proofs elaborated at once ask for a stack each
set_option Elab.async false

open Sys2Proof.Machine Sys2Proof.Safety

variable {s t u : State}

/-! ## Receptions, windows and links (R25 to R37) -/

theorem afterDiscard_keepsStatuses (p : Port) (x : Xfer) (b : Bool) (s : State) :
    KeepsStatuses s (afterDiscard p x b s) := by
  unfold afterDiscard
  split
  · exact (endExchange_keepsStatuses p x _ (countTimeout p s)).after ⟨rfl, rfl⟩
  · exact .refl s

theorem judgeInWindow_keepsStatuses (p : Port) (x : Xfer) (b : Bool) (r : Reception) (s : State) :
    KeepsStatuses s (judgeInWindow p x b r s) := by
  unfold judgeInWindow
  split
  · exact (endExchange_keepsStatuses p x _ (countSymbolError p s)).after ⟨rfl, rfl⟩
  · split
    · exact (endExchange_keepsStatuses p x _ (countCrcError p s)).after ⟨rfl, rfl⟩
    · exact afterDiscard_keepsStatuses p x b s
    · split
      · exact endExchange_keepsStatuses p x _ s
      · exact (afterDiscard_keepsStatuses p x b (countStray p s)).after ⟨rfl, rfl⟩

theorem judgeOutside_recordsStand (p : Port) (r : Reception) (s : State) : RecordsStand s (judgeOutside p r s) := by
  unfold judgeOutside
  split
  · exact ⟨rfl, rfl⟩
  · split <;> exact ⟨rfl, rfl⟩

theorem endReception_keepsStatuses (p : Port) (r : Reception) (s : State) :
    KeepsStatuses s (endReception p r s) := by
  unfold endReception
  split
  · exact .refl s
  · exact .of_records ((judgeOutside_recordsStand p r _).after ⟨rfl, rfl⟩)
  · split
    · exact (judgeInWindow_keepsStatuses p _ _ r _).after ⟨rfl, rfl⟩
    · exact .of_records ⟨rfl, rfl⟩

theorem startFrame_keepsStatuses (p : Port) (s : State) : KeepsStatuses s (startFrame p s) := by
  have hbegin (r : State) : RecordsStand r (beginReception p r) := by
    unfold beginReception
    split <;> exact ⟨rfl, rfl⟩
  exact (endReception_keepsStatuses p .symbolError s).trans (.of_records (hbegin _))

theorem loseSignal_keepsStatuses (p : Port) (s : State) : KeepsStatuses s (loseSignal p s) := by
  have hlose (r : State) : KeepsStatuses r (loseReception p r) := by
    unfold loseReception
    split
    · exact (afterDiscard_keepsStatuses p _ _ _).after ⟨rfl, rfl⟩
    · exact .of_records ⟨rfl, rfl⟩
  exact (hlose (setLossTimer p true s)).after ⟨rfl, rfl⟩

theorem windowRunsOut_keepsStatuses (p : Port) (s : State) : KeepsStatuses s (windowRunsOut p s) := by
  unfold windowRunsOut
  split
  · split
    · exact .of_records ⟨rfl, rfl⟩
    · exact (endExchange_keepsStatuses p _ _ (countTimeout p s)).after ⟨rfl, rfl⟩
  · exact .refl s

theorem finishSending_keepsStatuses (p : Port) (s : State) : KeepsStatuses s (finishSending p s) := by
  unfold finishSending
  split
  · unfold frameGone
    split
    · exact endExchange_keepsStatuses p _ _ s
    · exact .of_records ⟨rfl, rfl⟩
  · exact .refl s

theorem hearIdle_recordsStand (p : Port) (s : State) : RecordsStand s (hearIdle p s) := by
  unfold hearIdle
  split
  · simp only
    split <;> exact ⟨rfl, rfl⟩
  · exact ⟨rfl, rfl⟩

theorem writeControl_keepsStatuses (v : Byte) (s : State) : KeepsStatuses s (writeControl v s) := by
  have hport (q : Port) (on : Bool) (r : State) : KeepsStatuses r (writePortEnable q on r) := by
    unfold writePortEnable enablePort disablePort
    split
    · split <;> exact .of_records ⟨rfl, rfl⟩
    · split
      · exact leaveUp_keepsStatuses q _ r
      · exact .refl r
      · exact .of_records ⟨rfl, rfl⟩
  exact ((hport .a _ (writeControlParams v s)).trans (hport .b _ _)).after ⟨rfl, rfl⟩

/-! ## The mirror's flags and timer (R126, R136, R137) -/

theorem writeMirrorCtrl_keepsStatuses (code : Byte) (s : State) : KeepsStatuses s (writeMirrorCtrl code s) :=
  (setStatus_keepsStatuses fun h => h.mirrorAction code).trans (.of_records ⟨rfl, rfl⟩)

theorem clearAllFlags_keepsStatuses (s : State) : KeepsStatuses s (clearAllFlags s) := fun b hb => by
  rw [clearAllFlags_status]
  exact hb

theorem tick_keepsStatuses (s : State) : KeepsStatuses s (tick s) := fun b hb => by
  have hstatus : (tick s).status b = agedEntry (s.status b) :=
    State.status_mapCells { s with msecTimer := s.msecTimer + 1 } agedEntry rfl b
  rw [hstatus]
  exact hb.agedEntry

/-! ## Commands of CMD (R172) -/

theorem submit_keepsStatuses (h : submitAnswer s = .taken t) : KeepsStatuses s t := by
  unfold submitAnswer at h
  split at h
  · rw [← Answer.taken.inj h]
    exact (takeSlot_keepsStatuses _ s).trans (settle_keepsStatuses _)
  · rw [← Answer.taken.inj h]
    exact .of_records ⟨rfl, rfl⟩

theorem cancel_keepsStatuses (h : cancelAnswer s = .taken t) : KeepsStatuses s t := by
  have hwaiting (v : Tag) : KeepsStatuses s (settle (finish v .cancelled s)) :=
    (finish_keepsStatuses v _ s).trans (settle_keepsStatuses _)
  unfold cancelAnswer at h
  split at h
  · unfold cancelSlot at h
    split at h
    · rw [← Answer.taken.inj h]
      exact hwaiting _
    · rw [← Answer.taken.inj h]
      exact hwaiting _
    · split at h
      · rw [← Answer.taken.inj h]
        exact (cancelActive_keepsStatuses _ s).trans (settle_keepsStatuses _)
      · rw [← Answer.taken.inj h]
        exact cancelActive_keepsStatuses _ s
    · nomatch h
    · nomatch h
  · nomatch h

/-- The commands that leave roster and mirror: the pops, ABORT_CENSUS and ACCEPT_ROSTER. -/
theorem recordsStand_of_taken
    (h : popCompletionAnswer s = .taken t ∨ popNoticeAnswer s = .taken t ∨ abortCensusAnswer s = .taken t
      ∨ acceptRosterAnswer s = .taken t) : RecordsStand s t := by
  rcases h with h | h | h | h
  · unfold popCompletionAnswer at h
    split at h <;> cases h
    exact ⟨rfl, rfl⟩
  · unfold popNoticeAnswer at h
    split at h <;> cases h
    exact ⟨rfl, rfl⟩
  · unfold abortCensusAnswer at h
    split at h <;> cases h
    exact ⟨rfl, rfl⟩
  · unfold acceptRosterAnswer at h
    split at h <;> cases h <;> exact ⟨rfl, rfl⟩

theorem startCensusAnswer_keepsStatuses (h : startCensusAnswer s = .taken t) : KeepsStatuses s t := by
  unfold startCensusAnswer at h
  split at h <;> cases h
  exact startCensus_keepsStatuses s

theorem commandAnswer_keepsStatuses {code : Byte} (h : commandAnswer code s = .taken t) : KeepsStatuses s t := by
  unfold commandAnswer at h
  split at h
  · exact submit_keepsStatuses h
  · exact cancel_keepsStatuses h
  · exact .of_records (recordsStand_of_taken (.inl h))
  · exact .of_records (recordsStand_of_taken (.inr (.inl h)))
  · exact startCensusAnswer_keepsStatuses h
  · exact .of_records (recordsStand_of_taken (.inr (.inr (.inl h))))
  · exact .of_records (recordsStand_of_taken (.inr (.inr (.inr h))))
  · cases h
    exact clearAllFlags_keepsStatuses s
  · cases h
    exact keepsStatuses_of_cleared rfl
  · nomatch h

theorem writeCmd_keepsStatuses (code : Byte) (s : State) : KeepsStatuses s (writeCmd code s) := by
  unfold writeCmd answerCommand
  split
  · next htaken => exact (commandAnswer_keepsStatuses htaken).trans (.of_records ⟨rfl, rfl⟩)
  · exact .of_records ⟨rfl, rfl⟩

theorem ite_keepsStatuses {c : Prop} [Decidable c] (h : KeepsStatuses s t) (k : KeepsStatuses s u) :
    KeepsStatuses s (if c then t else u) := by
  split
  · exact h
  · exact k

/-- Of the registers, in the order `writeRegister` looks for them, only CMD, CONTROL and MIRROR_CTRL reach roster or
mirror (R170). -/
theorem writeRegister_keepsStatuses (a : RegAddr) (v : Byte) (s : State) :
    KeepsStatuses s (writeRegister a v s) := by
  unfold writeRegister
  refine ite_keepsStatuses (writeCmd_keepsStatuses v s) ?_
  iterate 4 refine ite_keepsStatuses (.of_records ⟨rfl, rfl⟩) ?_
  refine ite_keepsStatuses (writeControl_keepsStatuses v s) ?_
  iterate 4 refine ite_keepsStatuses (.of_records ⟨rfl, rfl⟩) ?_
  exact ite_keepsStatuses (writeMirrorCtrl_keepsStatuses v s) (.of_records ⟨rfl, rfl⟩)

/-! ## The statement -/

theorem hostWrite_keepsStatuses {a : RegAddr} {f : State → State} (hf : KeepsStatuses s (f s)) :
    KeepsStatuses s (hostWrite a f s) := by
  rcases hostWrite_cases a f s with ⟨-, heq⟩ | heq
  · rw [heq]
    exact hf.trans (.of_records ⟨rfl, rfl⟩)
  · rw [heq]
    exact .refl s

theorem hostRead_keepsStatuses {a : RegAddr} {f : State → State} (hf : RecordsStand s (f s)) :
    KeepsStatuses s (hostRead a f s) := by
  rcases hostRead_cases a f s with ⟨-, heq⟩ | heq
  · rw [heq]
    exact (KeepsStatuses.of_records hf).trans (.of_records ⟨rfl, rfl⟩)
  · rw [heq]
    exact .refl s

theorem outsideReset_keepsStatuses {f : State → State} (hf : KeepsStatuses s (f s)) :
    KeepsStatuses s (outsideReset f s) := by
  unfold outsideReset
  split
  · exact .refl s
  · exact hf

theorem event_keepsStatuses {c : State → Bool} {f : State → State} (hf : KeepsStatuses s (f s)) :
    KeepsStatuses s (outsideReset (onlyIf c f) s) := by
  refine outsideReset_keepsStatuses ?_
  unfold onlyIf
  split
  · exact hf
  · exact .refl s

theorem hardwareReset_keepsStatuses (s : State) : KeepsStatuses s (hardwareReset s) := keepsStatuses_of_cleared rfl

/-- Every command keeps Law 12 at every address. -/
theorem exec_keepsStatuses (c : Instr) (hexec : exec c s = .next t) : KeepsStatuses s t := by
  have hcode {f : State → State} (code : Byte) (hf : f s = writeCmd code s) :
      KeepsStatuses s (hostWrite Reg.cmd f s) := hostWrite_keepsStatuses (hf ▸ writeCmd_keepsStatuses code s)
  have hkept {a : RegAddr} {f : State → State} (hf : RecordsStand s (f s)) : KeepsStatuses s (hostWrite a f s) :=
    hostWrite_keepsStatuses (.of_records hf)
  have hcontrol (v : Byte) : KeepsStatuses s (hostWrite Reg.control (writeControl v) s) :=
    hostWrite_keepsStatuses (writeControl_keepsStatuses v s)
  have hmirror (v : Byte) : KeepsStatuses s (hostWrite Reg.mirrorCtrl (writeMirrorCtrl v) s) :=
    hostWrite_keepsStatuses (writeMirrorCtrl_keepsStatuses v s)
  have hquiet {k : State → Bool} {f : State → State} (hf : RecordsStand s (f s)) :
      KeepsStatuses s (outsideReset (onlyIf k f) s) := event_keepsStatuses (.of_records hf)
  cases c <;> cases hexec
  case submit => exact hcode 0x01 rfl
  case cancel => exact hcode 0x02 rfl
  case popCompletion => exact hcode 0x03 rfl
  case popNotice => exact hcode 0x04 rfl
  case startCensus => exact hcode 0x10 rfl
  case abortCensus => exact hcode 0x11 rfl
  case acceptRoster => exact hcode 0x12 rfl
  case clearAllChanged => exact hcode 0x20 rfl
  case softReset => exact hcode 0x5A rfl
  case unknownCommand code => exact hcode code rfl
  case setWatch => exact hmirror 1
  case clearWatch => exact hmirror 2
  case clearChanged => exact hmirror 3
  case mirrorCtrlUndefinedAction code => exact hmirror code
  case rosterSelWrite v => exact hkept ⟨rfl, rfl⟩
  case mirrorSelWrite v => exact hkept ⟨rfl, rfl⟩
  case causeClear w v => exact hkept ⟨rfl, rfl⟩
  case enableWrite w v => exact hkept ⟨rfl, rfl⟩
  case portEnableSet q v => exact hcontrol v
  case portEnableClear q v => exact hcontrol v
  case sweepEnableOn v => exact hcontrol v
  case sweepEnableOff v => exact hcontrol v
  case replyBaseLowWrite v => exact hkept ⟨rfl, rfl⟩
  case replyBaseHighWrite v => exact hkept ⟨rfl, rfl⟩
  case registerWrite a v => exact hostWrite_keepsStatuses (writeRegister_keepsStatuses a v s)
  case counterRead q k => exact hostRead_keepsStatuses ⟨rfl, rfl⟩
  case timeoutsLowRead q => exact hostRead_keepsStatuses ⟨rfl, rfl⟩
  case msecTimerLowRead => exact hostRead_keepsStatuses ⟨rfl, rfl⟩
  case dupNoticesRead => exact hostRead_keepsStatuses ⟨rfl, rfl⟩
  case csnFall =>
    unfold csnFalls
    split
    · split <;> exact .of_records ⟨rfl, rfl⟩
    · exact .refl s
  case headerComplete v => exact hquiet ⟨rfl, rfl⟩
  case csnRise =>
    unfold csnRises
    split
    · exact .refl s
    · split <;> exact .of_records ⟨rfl, rfl⟩
  case resetnLow => exact hardwareReset_keepsStatuses s
  case resetnHigh =>
    unfold leaveReset
    split
    · exact hardwareReset_keepsStatuses s
    · exact .refl s
  case signalDetected q => exact hquiet ⟨rfl, rfl⟩
  case idleRunComplete q =>
    refine outsideReset_keepsStatuses ?_
    unfold onlyIf
    split
    · next halign =>
      rw [completeRun_aligning q s (eq_of_beq halign)]
      exact .of_records ⟨rfl, rfl⟩
    · exact .refl s
  case aligningSignalLoss q => exact hquiet ⟨rfl, rfl⟩
  case signalAbsent q => exact event_keepsStatuses (loseSignal_keepsStatuses q s)
  case signalReturn q => exact hquiet ⟨rfl, rfl⟩
  case signalLossTimerExpiry q => exact event_keepsStatuses (leaveUp_keepsStatuses q _ s)
  case arbiterHand q => exact hquiet ⟨arbitrate_roster q s, arbitrate_mirror q s⟩
  case frameSent q => exact outsideReset_keepsStatuses (finishSending_keepsStatuses q s)
  case replyWindowExpiry q => exact outsideReset_keepsStatuses (windowRunsOut_keepsStatuses q s)
  case frameReceived q r => exact event_keepsStatuses (endReception_keepsStatuses q r s)
  case lateFrame q r => exact event_keepsStatuses (endReception_keepsStatuses q r s)
  case censusClear => exact event_keepsStatuses (makeClear_keepsStatuses s)
  case releaseSettleExpiry => exact hquiet (endSettle_recordsStand s)
  case censusStop => exact outsideReset_keepsStatuses (makeStop_keepsStatuses s)
  case backoffExpiry v => exact hquiet ⟨rfl, rfl⟩
  case msecTick => exact outsideReset_keepsStatuses (tick_keepsStatuses s)
  case probingBegin q => exact event_keepsStatuses ((settle_keepsStatuses (beginProbing q s)).after ⟨rfl, rfl⟩)
  case startDelimiterReceived q => exact event_keepsStatuses (startFrame_keepsStatuses q s)
  case idleRunReset q => exact hquiet ⟨rfl, rfl⟩

/-- A step with no command waiting leaves roster and mirror (logs 1, 5, 24). -/
theorem idleStep_recordsStand (s : State) : RecordsStand s (idleSymbols (plainReadByte s)) := by
  have hread : RecordsStand s (plainReadByte s) := by
    rcases plainReadByte_cases s with heq | heq <;> rw [heq] <;> exact ⟨rfl, rfl⟩
  unfold idleSymbols outsideReset
  split
  · exact hread
  · exact hread.trans ((hearIdle_recordsStand .a _).trans (hearIdle_recordsStand .b _))

/-- Settles O54: every command keeps the law of each address, and a step without one leaves roster and mirror. -/
theorem stepKeepsMirrorLaw : Obligations.StepKeepsMirrorLaw := by
  unfold Obligations.StepKeepsMirrorLaw
  intro s t hlaw hstep
  have hkeeps : KeepsStatuses s t := by
    unfold step at hstep
    split at hstep
    · cases hstep
      exact .of_records (idleStep_recordsStand s)
    · exact (exec_keepsStatuses _ hstep).after ⟨rfl, rfl⟩
  exact (mirrorLaw_iff t).2 fun b => hkeeps b ((mirrorLaw_iff s).1 hlaw b)

end Sys2Proof.Proofs
end

section
/-! Law 5 and the ranges of the parameters through the outcomes of exchanges, the census, a port leaving UP and the
arbiter: a record joins the notice queue in the place its reservation held, and a place is reserved only where one is
left (R141 to R147, R174, R175). -/

namespace Sys2Proof.Proofs

-- one theorem after the other: many proofs elaborated at once ask for a stack each
set_option Elab.async false

open Sys2Proof.Machine Sys2Proof.Safety

variable {s t u : State}

/-! ## What is bounded -/

/-- Notice queue, reservations and parameters stand. -/
structure BoundsStand (s t : State) : Prop where
  notices : t.notices = s.notices
  reservations : t.reservations = s.reservations
  params : t.params = s.params

/-- Law 5 and the ranges of the parameters hold afterwards where they held before. -/
structure KeepsBounds (s t : State) : Prop where
  notices : NoticeLaw s → NoticeLaw t
  params : ParamsLaw s.params → ParamsLaw t.params

theorem BoundsStand.refl (s : State) : BoundsStand s s := ⟨rfl, rfl, rfl⟩

theorem BoundsStand.trans (h : BoundsStand s t) (k : BoundsStand t u) : BoundsStand s u :=
  ⟨k.notices.trans h.notices, k.reservations.trans h.reservations, k.params.trans h.params⟩

/-- The change that is looked at comes after one that leaves the bounds. -/
theorem BoundsStand.after (k : BoundsStand t u) (h : BoundsStand s t) : BoundsStand s u := h.trans k

theorem BoundsStand.of_settling (h : TouchesSettling s t) : BoundsStand s t :=
  ⟨h.notices, h.reservations, h.params⟩

theorem BoundsStand.of_requests (h : TouchesRequests s t) : BoundsStand s t := .of_settling h.toSettling

theorem TouchesWalkEnd.boundsStand (h : TouchesWalkEnd s t) : BoundsStand s t := by
  have e : t = _ := h
  rw [e]
  exact ⟨rfl, rfl, rfl⟩

theorem TouchesHostClass.boundsStand (h : TouchesHostClass s t) : BoundsStand s t := by
  have e : t = _ := h
  rw [e]
  exact ⟨rfl, rfl, rfl⟩

theorem KeepsBounds.refl (s : State) : KeepsBounds s s := ⟨id, id⟩

theorem KeepsBounds.trans (h : KeepsBounds s t) (k : KeepsBounds t u) : KeepsBounds s u :=
  ⟨k.notices ∘ h.notices, k.params ∘ h.params⟩

theorem BoundsStand.keeps (h : BoundsStand s t) : KeepsBounds s t := by
  obtain ⟨hnotices, hreservations, hparams⟩ := h
  refine ⟨fun hlaw => ?_, fun hlaw => hparams ▸ hlaw⟩
  unfold NoticeLaw State.outstanding
  rw [hnotices, hreservations]
  exact hlaw

theorem KeepsBounds.after (k : KeepsBounds t u) (h : BoundsStand s t) : KeepsBounds s u := h.keeps.trans k

theorem KeepsBounds.then_stand (h : KeepsBounds s t) (k : BoundsStand t u) : KeepsBounds s u := h.trans k.keeps

/-- Where the parameters stand, no more places may be taken than before. -/
theorem KeepsBounds.of_places (hplaces : t.notices.length + t.outstanding ≤ s.notices.length + s.outstanding)
    (hparams : t.params = s.params) : KeepsBounds s t :=
  ⟨fun hlaw => Nat.le_trans hplaces hlaw, fun hlaw => hparams ▸ hlaw⟩

/-! ## Reservations (R144, R145) -/

/-- Each port holds no reservation or one. -/
theorem outstanding_eq (p : Port) (s : State) :
    s.outstanding = (s.reservations.get p).isSome.toNat + (s.reservations.get p.other).isSome.toNat := by
  have hbit (b : Bool) : (if b = true then 1 else 0) = b.toNat := by cases b <;> rfl
  unfold State.outstanding
  rw [hbit, hbit]
  cases p
  · rfl
  · exact Nat.add_comm _ _

theorem outstanding_reserve (p : Port) (a : Nat) (s : State) : (reserve p a s).outstanding ≤ s.outstanding + 1 := by
  rw [outstanding_eq p, outstanding_eq p s]
  simp only [reserve, Pair.get_set_same, Pair.get_set_other, Option.isSome_some, Bool.toNat_true]
  omega

/-- Releasing gives back the place of the reservation, where one was made. -/
theorem outstanding_release (p : Port) (s : State) :
    (release p s).outstanding + (s.reservations.get p).isSome.toNat = s.outstanding := by
  rw [outstanding_eq p, outstanding_eq p s]
  simp only [release, Pair.get_set_same, Pair.get_set_other, Option.isSome_none, Bool.toNat_false]
  omega

theorem release_keepsBounds (p : Port) (s : State) : KeepsBounds s (release p s) :=
  .of_places (Nat.add_le_add_left (Nat.le.intro (outstanding_release p s)) _) rfl

/-- A reservation takes a place that is left (R144). -/
theorem reserve_keepsBounds (p : Port) (a : Nat) (hleft : s.notices.length + s.outstanding < 32) :
    KeepsBounds s (reserve p a s) := by
  refine ⟨fun _ => ?_, id⟩
  have hreserved := outstanding_reserve p a s
  change s.notices.length + (reserve p a s).outstanding ≤ 32
  omega

/-- A notice that joins the queue takes the place its reservation held (R144, R147). -/
theorem judgeNotice_keepsBounds (p : Port) (a : Nat) (f : Frame) (s : State) :
    KeepsBounds s (judgeNotice p a f s) := by
  unfold judgeNotice
  split
  · exact (release_keepsBounds p _).after ⟨rfl, rfl, rfl⟩
  · split
    · next hreserved =>
      have hjoins : KeepsBounds s (release p { s with notices := s.notices ++ [noticeRecord a f s] }) := by
        have hplace : (release p s).outstanding + 1 = s.outstanding := by
          have h := outstanding_release p s
          rwa [hreserved] at h
        have hlength : (s.notices ++ [noticeRecord a f s]).length = s.notices.length + 1 := by simp
        refine .of_places ?_ rfl
        change (s.notices ++ [noticeRecord a f s]).length + (release p s).outstanding ≤ _
        omega
      exact hjoins.then_stand (.of_requests (setLastSeq_touches _ _ _))
    · exact .refl s

/-- Every end of a FETCH gives its place back or fills it (R135, R145, R147). -/
theorem fetchOutcome_keepsBounds (p : Port) (a : Nat) (o : PortOutcome) (s : State) :
    KeepsBounds s (fetchOutcome p a o s) := by
  have hfailed : KeepsBounds s (release p (reportFailure a s)) :=
    (release_keepsBounds p _).after (.of_settling (reportFailure_touches a s))
  have hgood : BoundsStand s (reportGood a s) := .of_requests (reportGood_touches a s)
  cases o with
  | reply f =>
    by_cases h : f.kind = .notice
    · rw [fetchOutcome_notice h]
      exact (judgeNotice_keepsBounds p a f _).after hgood
    · rw [fetchOutcome_refused h]
      exact (release_keepsBounds p _).after (hgood.trans (.of_settling (setFetchWanted_touches _ _ _)))
  | timeout | crcError | symbolError => exact hfailed
  | sent | linkLost => exact release_keepsBounds p s

/-! ## The census (R62 to R80) -/

theorem failCensus_boundsStand (r : CensusReason) (s : State) : BoundsStand s (failCensus r s) := by
  rw [failCensus_eq]
  exact ⟨rfl, rfl, rfl⟩

theorem claimTaken_boundsStand (q : Port) (f : Frame) (s : State) :
    BoundsStand s (afterClaim (takeClaim q f s)) := by
  have htaken : BoundsStand s (takeClaim q f s) := by
    rw [takeClaim_frame]
    exact ⟨rfl, rfl, rfl⟩
  unfold afterClaim
  split
  · exact htaken.trans ((finishCensus_touchesWalkEnd _).boundsStand.after ⟨rfl, rfl, rfl⟩)
  · exact htaken

theorem claimOutcomeA_boundsStand (o : PortOutcome) (s : State) : BoundsStand s (claimOutcomeA o s) := by
  have hfails : BoundsStand s (if s.census.tries = 2 then endWalkA s else s) := by
    split
    · exact (endWalkA_touchesWalkEnd s).boundsStand
    · exact .refl s
  cases o with
  | reply f =>
    unfold claimOutcomeA
    simp only
    split
    · exact claimTaken_boundsStand .a f s
    · exact failCensus_boundsStand _ s
  | timeout | crcError | symbolError => exact hfails
  | linkLost => exact failCensus_boundsStand _ s
  | sent => exact .refl s

theorem claimOutcomeB_boundsStand (o : PortOutcome) (s : State) : BoundsStand s (claimOutcomeB o s) := by
  have hfails : BoundsStand s (if s.census.tries = 2 then endWalkB s else s) := by
    split
    · exact (endWalkB_touchesWalkEnd s).boundsStand.after ⟨rfl, rfl, rfl⟩
    · exact .refl s
  cases o with
  | reply f =>
    unfold claimOutcomeB
    simp only
    split
    · exact claimTaken_boundsStand .b f s
    · split
      · exact (closeRing_touchesWalkEnd s).boundsStand.after ⟨rfl, rfl, rfl⟩
      · exact failCensus_boundsStand _ s
  | timeout | crcError | symbolError => exact hfails
  | linkLost => exact failCensus_boundsStand _ s
  | sent => exact .refl s

theorem censusOutcome_boundsStand (p : Port) (o : PortOutcome) (s : State) :
    BoundsStand s (censusOutcome p o s) := by
  unfold censusOutcome
  split
  · split
    · exact ⟨rfl, rfl, rfl⟩
    · exact failCensus_boundsStand _ s
    · exact .refl s
  · exact claimOutcomeA_boundsStand o s
  · exact claimOutcomeB_boundsStand o s
  · exact .refl s

theorem startCensus_boundsStand (s : State) : BoundsStand s (startCensus s) := by
  unfold startCensus
  exact (BoundsStand.of_settling ((flushAll_touches _).toSettling.trans
    ((abandonCheck_touches .a _).trans (abandonCheck_touches .b _)))).after ⟨rfl, rfl, rfl⟩

theorem stopCensus_boundsStand (c : StopCause) (s : State) : BoundsStand s (stopCensus c s) := by
  unfold stopCensus
  exact (BoundsStand.of_settling ((frontPass_touches _).toSettling.trans
    ((startCheckIfDown_touches .a _).trans (startCheckIfDown_touches .b _)))).after ⟨rfl, rfl, rfl⟩

theorem makeStop_boundsStand (s : State) : BoundsStand s (makeStop s) := by
  unfold makeStop
  split
  · exact (stopCensus_boundsStand _ s).trans (.of_settling (settle_touches _))
  · exact .refl s

theorem endSettle_boundsStand (s : State) : BoundsStand s (endSettle s) := by
  unfold endSettle
  simp only
  split <;> exact ⟨rfl, rfl, rfl⟩

/-- The clear drops the reservations; the queue stands (R67). -/
theorem makeClear_keepsBounds (s : State) : KeepsBounds s (makeClear s) := by
  have hflushed : BoundsStand s (flushQueued s) := .of_requests (flushQueued_touches s)
  have hclear : KeepsBounds s (clearCensus s) := by
    unfold clearCensus
    generalize flushQueued s = r at hflushed ⊢
    exact KeepsBounds.trans hflushed.keeps (.of_places (Nat.add_le_add_left (Nat.zero_le _) _) rfl)
  have hafter (r : State) : BoundsStand r (afterClear r) := by
    unfold afterClear
    split
    · exact stopCensus_boundsStand _ r
    · split <;> exact ⟨rfl, rfl, rfl⟩
  exact hclear.then_stand ((hafter _).trans (.of_settling (settle_touches _)))

/-! ## The end of an exchange (R38, R118) -/

theorem resyncOutcome_boundsStand (p : Port) (v : Tag) (o : PortOutcome) (s : State) :
    BoundsStand s (resyncOutcome p v o s) := by
  have hreport : BoundsStand s (clearFollowUp p (reportResync ((s.slot v).target.getD 0) o s)) :=
    (BoundsStand.of_settling (reportProbe_touches _ o s)).trans ⟨rfl, rfl, rfl⟩
  have hends {r : State} (st : Status) : BoundsStand r (completeActive v st false [] r) :=
    .of_requests (completeActive_touches _ _ _ _ _)
  have hmatched (r : State) : BoundsStand r (resyncMatched p v r) := by
    unfold resyncMatched
    split
    · exact hends _
    · exact ⟨rfl, rfl, rfl⟩
  unfold resyncOutcome
  simp only
  refine hreport.trans ?_
  split
  · exact hends _
  · split
    · exact hends _
    · exact hmatched _
    · exact hends _
    · exact .of_requests (busyDecision_touches _ _)
    · exact .of_requests (waitOrFlush_touches _ _ _)
    · exact .of_requests (waitOrFlush_touches _ _ _)

/-- Of the owners of exchanges only the sweep's FETCH has to do with places of the queue. -/
theorem applyOutcome_keepsBounds (p : Port) (x : Xfer) (o : PortOutcome) (s : State) :
    KeepsBounds s (applyOutcome p x o s) := by
  unfold applyOutcome
  split
  · exact (censusOutcome_boundsStand p o s).keeps
  · exact (BoundsStand.of_settling (checkOutcome_touches _ _ _ _ _)).keeps
  · exact (BoundsStand.of_settling (attemptOutcome_touches _ _ _ _)).keeps
  · exact (resyncOutcome_boundsStand p _ o s).keeps
  · exact (BoundsStand.of_requests (bcastOutcome_touches _ _ _ _)).keeps
  · exact (BoundsStand.of_settling (pollOutcome_touches _ _ _)).keeps
  · exact fetchOutcome_keepsBounds p _ o s

theorem endExchange_keepsBounds (p : Port) (x : Xfer) (o : PortOutcome) (s : State) :
    KeepsBounds s (endExchange p x o s) :=
  ((applyOutcome_keepsBounds p x o (s.setExch p .idle)).then_stand (.of_settling (settle_touches _))).after
    ⟨rfl, rfl, rfl⟩

/-! ## A port leaving UP (R29, R39) -/

theorem tellChecks_boundsStand (p : Port) (s : State) : BoundsStand s (tellChecks p s) := by
  unfold tellChecks
  split
  · exact .refl s
  · exact .of_settling ((otherPortLeft_touches _ _).trans (ownPortLeft_touches _ _))

theorem leaveUp_keepsBounds (p : Port) (l : LinkState) (s : State) : KeepsBounds s (leaveUp p l s) := by
  have htold (e : Exchange) (n : Nat) (r : State) : KeepsBounds r (tellLinkLost p e n r) := by
    unfold tellLinkLost
    split
    · exact applyOutcome_keepsBounds p _ _ r
    · exact .refl r
  have hcensus (r : State) : BoundsStand r (censusPortLeft p r) := by
    obtain ⟨hframe, -⟩ := censusPortLeft_frame p r
    rw [hframe]
    exact ⟨rfl, rfl, rfl⟩
  have hfront (r : State) : BoundsStand r (frontPass (bcastPortGoneAll p r)) :=
    .of_requests (beforeCensus_moves p r).requests.touches
  have hsettled (y : Port) (n : Nat) (r : State) : BoundsStand r (settleFrom y { r with freeCount := n }) :=
    (BoundsStand.of_settling (settleFrom_touches y _)).after ⟨rfl, rfl, rfl⟩
  have hafter (y : Port) (n : Nat) (r : State) : BoundsStand r (afterOwner p y n r) :=
    (((hfront r).trans (hcensus _)).trans (tellChecks_boundsStand p _)).trans (hsettled y n _)
  rw [leaveUp_eq]
  exact ((htold _ _ (dropLink p l s)).then_stand (hafter _ _ _)).after ⟨rfl, rfl, rfl⟩

/-! ## The arbiter (R103, R104, R144) -/

/-- The sweep reserves a place for the FETCH it hands only where one is left (R144). -/
theorem startSweep_keepsBounds (p : Port) (s : State) :
    KeepsBounds s (startSweep p (s.sweepChoice p) (setMarker p .sweep s)) := by
  match hchoice : s.sweepChoice p with
  | .nothing => exact BoundsStand.keeps ⟨rfl, rfl, rfl⟩
  | .poll a => exact BoundsStand.keeps ⟨rfl, rfl, rfl⟩
  | .fetch a =>
    obtain ⟨-, hplace, -⟩ := sweepChoice_fetch hchoice
    simp only [State.canReserve, Bool.and_eq_true, decide_eq_true_eq] at hplace
    obtain ⟨hleft, -⟩ := hplace
    have hreserved : KeepsBounds s (reserve p a (setCursor p a (setMarker p .sweep s))) :=
      (reserve_keepsBounds p a (s := setCursor p a (setMarker p .sweep s)) hleft).after ⟨rfl, rfl, rfl⟩
    exact hreserved.then_stand ⟨rfl, rfl, rfl⟩

theorem handShared_keepsBounds (p : Port) (s : State) : KeepsBounds s (handShared p s) := by
  have hhost (f : HostFrame) : KeepsBounds s (startHost p f s) :=
    (startHost_touchesHost p f s).boundsStand.keeps.after ⟨rfl, rfl, rfl⟩
  unfold handShared
  split
  · exact .refl s
  · exact startSweep_keepsBounds p s
  · exact hhost _
  · split
    · exact startSweep_keepsBounds p s
    · exact hhost _

theorem handCensus_boundsStand (p : Port) (s : State) : BoundsStand s (handCensus p s) := by
  unfold handCensus
  split
  · split <;> exact ⟨rfl, rfl, rfl⟩
  · split <;> exact ⟨rfl, rfl, rfl⟩
  · split <;> exact ⟨rfl, rfl, rfl⟩
  · exact .refl s

/-- Of the arbiter's rows only the sweep's reserves a place. -/
theorem arbitrate_keepsBounds (p : Port) (s : State) : KeepsBounds s (arbitrate p s) := by
  have hprobe (q : Port) (a : Nat) : KeepsBounds s (startProbe p q a s) := BoundsStand.keeps ⟨rfl, rfl, rfl⟩
  unfold arbitrate
  split
  · exact (handCensus_boundsStand p s).keeps
  · split
    · split
      · exact hprobe _ _
      · split
        · exact hprobe _ _
        · exact .refl s
    · split
      · exact hprobe _ _
      · refine (handShared_keepsBounds p _).after ?_
        rw [testBacklog_eq]
        exact ⟨rfl, rfl, rfl⟩

end Sys2Proof.Proofs
end

section
/-! Law 5 and the ranges of the parameters through every command: receptions and windows, the host's writes, where a
parameter is clamped before it is stored, the resets and a step without a command (R31 to R37, R143, R170 to R175,
R180). -/

namespace Sys2Proof.Proofs

-- one theorem after the other: many proofs elaborated at once ask for a stack each
set_option Elab.async false

open Sys2Proof.Machine Sys2Proof.Safety

variable {s t u : State}

/-! ## Receptions, windows and links (R25 to R37) -/

theorem afterDiscard_keepsBounds (p : Port) (x : Xfer) (b : Bool) (s : State) :
    KeepsBounds s (afterDiscard p x b s) := by
  unfold afterDiscard
  split
  · exact (endExchange_keepsBounds p x _ (countTimeout p s)).after ⟨rfl, rfl, rfl⟩
  · exact .refl s

theorem judgeInWindow_keepsBounds (p : Port) (x : Xfer) (b : Bool) (r : Reception) (s : State) :
    KeepsBounds s (judgeInWindow p x b r s) := by
  unfold judgeInWindow
  split
  · exact (endExchange_keepsBounds p x _ (countSymbolError p s)).after ⟨rfl, rfl, rfl⟩
  · split
    · exact (endExchange_keepsBounds p x _ (countCrcError p s)).after ⟨rfl, rfl, rfl⟩
    · exact afterDiscard_keepsBounds p x b s
    · split
      · exact endExchange_keepsBounds p x _ s
      · exact (afterDiscard_keepsBounds p x b (countStray p s)).after ⟨rfl, rfl, rfl⟩

theorem judgeOutside_boundsStand (p : Port) (r : Reception) (s : State) : BoundsStand s (judgeOutside p r s) := by
  unfold judgeOutside
  split
  · exact ⟨rfl, rfl, rfl⟩
  · split <;> exact ⟨rfl, rfl, rfl⟩

theorem endReception_keepsBounds (p : Port) (r : Reception) (s : State) :
    KeepsBounds s (endReception p r s) := by
  unfold endReception
  split
  · exact .refl s
  · exact (judgeOutside_boundsStand p r _).keeps.after ⟨rfl, rfl, rfl⟩
  · split
    · exact (judgeInWindow_keepsBounds p _ _ r _).after ⟨rfl, rfl, rfl⟩
    · exact BoundsStand.keeps ⟨rfl, rfl, rfl⟩

theorem startFrame_keepsBounds (p : Port) (s : State) : KeepsBounds s (startFrame p s) := by
  have hbegin (r : State) : BoundsStand r (beginReception p r) := by
    unfold beginReception
    split <;> exact ⟨rfl, rfl, rfl⟩
  exact (endReception_keepsBounds p .symbolError s).then_stand (hbegin _)

theorem loseSignal_keepsBounds (p : Port) (s : State) : KeepsBounds s (loseSignal p s) := by
  have hlose (r : State) : KeepsBounds r (loseReception p r) := by
    unfold loseReception
    split
    · exact (afterDiscard_keepsBounds p _ _ _).after ⟨rfl, rfl, rfl⟩
    · exact BoundsStand.keeps ⟨rfl, rfl, rfl⟩
  exact (hlose (setLossTimer p true s)).after ⟨rfl, rfl, rfl⟩

theorem windowRunsOut_keepsBounds (p : Port) (s : State) : KeepsBounds s (windowRunsOut p s) := by
  unfold windowRunsOut
  split
  · split
    · exact BoundsStand.keeps ⟨rfl, rfl, rfl⟩
    · exact (endExchange_keepsBounds p _ _ (countTimeout p s)).after ⟨rfl, rfl, rfl⟩
  · exact .refl s

theorem finishSending_keepsBounds (p : Port) (s : State) : KeepsBounds s (finishSending p s) := by
  unfold finishSending frameGone
  split
  · split
    · exact endExchange_keepsBounds p _ _ s
    · exact BoundsStand.keeps ⟨rfl, rfl, rfl⟩
  · exact .refl s

theorem hearIdle_boundsStand (p : Port) (s : State) : BoundsStand s (hearIdle p s) := by
  unfold hearIdle
  split
  · simp only
    split <;> exact ⟨rfl, rfl, rfl⟩
  · exact .refl s

/-! ## Parameters (R171, R174, R175) -/

theorem le_clamp {lo hi : Nat} (h : lo ≤ hi) (v : Nat) : lo ≤ clamp lo hi v := by
  unfold clamp
  split_ifs <;> omega

theorem clamp_le {lo hi : Nat} (h : lo ≤ hi) (v : Nat) : clamp lo hi v ≤ hi := by
  unfold clamp
  split_ifs <;> omega

/-- REPLY_BASE is clamped to 20..2550, and both are multiples of 10 (R175). -/
theorem replyBaseStored_range (hold high : Byte) :
    20 ≤ replyBaseStored hold high ∧ replyBaseStored hold high ≤ 2550 ∧ replyBaseStored hold high % 10 = 0 := by
  unfold replyBaseStored
  have hlow : 20 ≤ clamp 20 2550 (high ++ hold : BitVec 16).toNat := le_clamp (by decide) _
  have hhigh : clamp 20 2550 (high ++ hold : BitVec 16).toNat ≤ 2550 := clamp_le (by decide) _
  simp only
  omega

theorem ite_paramsLaw {c : Prop} [Decidable c] {q r : Params} (hq : ParamsLaw q) (hr : ParamsLaw r) :
    ParamsLaw (if c then q else r) := iteInduction (fun _ => hq) (fun _ => hr)

/-- A byte written to a parameter's register is clamped to the parameter's range (R175); EXPECTED_FP has none. -/
theorem paramsLaw_write {q : Params} (h : ParamsLaw q) (a : RegAddr) (v : Byte) : ParamsLaw (q.write a v) := by
  obtain ⟨hbaseLow, hbaseHigh, hbaseTens, hhop, hretry, hbusy, hbackoffLow, hbackoffHigh, hfaultLow, hfaultHigh,
    hperiodLow, hperiodHigh, hstaleLow, hstaleHigh⟩ := id h
  have hlow (hi : Nat) (hhi : 1 ≤ hi) := le_clamp hhi v.toNat
  have hhigh (lo hi : Nat) (hlohi : lo ≤ hi) := clamp_le hlohi v.toNat
  unfold Params.write
  refine ite_paramsLaw ⟨hbaseLow, hbaseHigh, hbaseTens, hhigh 0 63 (by decide), hretry, hbusy, hbackoffLow,
    hbackoffHigh, hfaultLow, hfaultHigh, hperiodLow, hperiodHigh, hstaleLow, hstaleHigh⟩ ?_
  refine ite_paramsLaw ⟨hbaseLow, hbaseHigh, hbaseTens, hhop, hhigh 0 7 (by decide), hbusy, hbackoffLow,
    hbackoffHigh, hfaultLow, hfaultHigh, hperiodLow, hperiodHigh, hstaleLow, hstaleHigh⟩ ?_
  refine ite_paramsLaw ⟨hbaseLow, hbaseHigh, hbaseTens, hhop, hretry, hhigh 0 15 (by decide), hbackoffLow,
    hbackoffHigh, hfaultLow, hfaultHigh, hperiodLow, hperiodHigh, hstaleLow, hstaleHigh⟩ ?_
  refine ite_paramsLaw ⟨hbaseLow, hbaseHigh, hbaseTens, hhop, hretry, hbusy, hlow 255 (by decide),
    hhigh 1 255 (by decide), hfaultLow, hfaultHigh, hperiodLow, hperiodHigh, hstaleLow, hstaleHigh⟩ ?_
  refine ite_paramsLaw ⟨hbaseLow, hbaseHigh, hbaseTens, hhop, hretry, hbusy, hbackoffLow, hbackoffHigh,
    hlow 15 (by decide), hhigh 1 15 (by decide), hperiodLow, hperiodHigh, hstaleLow, hstaleHigh⟩ ?_
  refine ite_paramsLaw ⟨hbaseLow, hbaseHigh, hbaseTens, hhop, hretry, hbusy, hbackoffLow, hbackoffHigh, hfaultLow,
    hfaultHigh, hlow 255 (by decide), hhigh 1 255 (by decide), hstaleLow, hstaleHigh⟩ ?_
  refine ite_paramsLaw ⟨hbaseLow, hbaseHigh, hbaseTens, hhop, hretry, hbusy, hbackoffLow, hbackoffHigh, hfaultLow,
    hfaultHigh, hperiodLow, hperiodHigh, hlow 15 (by decide), hhigh 1 15 (by decide)⟩ ?_
  iterate 4 refine ite_paramsLaw h ?_
  exact h

theorem writeStored_keepsBounds (a : RegAddr) (v : Byte) (s : State) : KeepsBounds s (writeStored a v s) :=
  ⟨id, fun h => paramsLaw_write h a v⟩

theorem writeReplyBaseHigh_keepsBounds (v : Byte) (s : State) : KeepsBounds s (writeReplyBaseHigh v s) := by
  refine ⟨id, fun ⟨_, _, _, hrest⟩ => ?_⟩
  obtain ⟨hlow, hhigh, htens⟩ := replyBaseStored_range s.replyBaseHold v
  exact ⟨hlow, hhigh, htens, hrest⟩

/-- The parameters in CONTROL are single bits and have no range (R25, R174). -/
theorem writeControl_keepsBounds (v : Byte) (s : State) : KeepsBounds s (writeControl v s) := by
  have hport (q : Port) (on : Bool) (r : State) : KeepsBounds r (writePortEnable q on r) := by
    unfold writePortEnable enablePort disablePort
    split
    · split <;> exact BoundsStand.keeps ⟨rfl, rfl, rfl⟩
    · split
      · exact leaveUp_keepsBounds q _ r
      · exact .refl r
      · exact BoundsStand.keeps ⟨rfl, rfl, rfl⟩
  have hbits : KeepsBounds s (writeControlParams v s) := ⟨id, id⟩
  exact hbits.trans ((hport .a _ _).trans (hport .b _ _))

/-! ## Commands of CMD (R172) -/

theorem submit_boundsStand (h : submitAnswer s = .taken t) : BoundsStand s t := by
  have htaken (v : Tag) : BoundsStand s (takeSlot v s) := by
    rcases takeSlot_cases v s with heq | ⟨st, heq⟩
    · rw [heq]
      exact ⟨rfl, rfl, rfl⟩
    · rw [heq]
      exact (BoundsStand.of_requests (finish_touches _ _ _)).after ⟨rfl, rfl, rfl⟩
  unfold submitAnswer at h
  split at h
  · rw [← Answer.taken.inj h]
    exact (htaken _).trans (.of_settling (settle_touches _))
  · rw [← Answer.taken.inj h]
    exact ⟨rfl, rfl, rfl⟩

theorem cancel_boundsStand (h : cancelAnswer s = .taken t) : BoundsStand s t := by
  have hwaiting (v : Tag) : BoundsStand s (settle (finish v .cancelled s)) :=
    .of_settling ((finish_touches _ _ _).toSettling.trans (settle_touches _))
  unfold cancelAnswer at h
  split at h
  · unfold cancelSlot at h
    split at h
    · rw [← Answer.taken.inj h]
      exact hwaiting _
    · rw [← Answer.taken.inj h]
      exact hwaiting _
    · split at h
      · rw [← Answer.taken.inj h]
        exact .of_settling ((cancelActive_touches _ _).toSettling.trans (settle_touches _))
      · rw [← Answer.taken.inj h]
        exact .of_requests (cancelActive_touches _ _)
    · nomatch h
    · nomatch h
  · nomatch h

/-- POP_NOTICE frees a place (R143). -/
theorem popNotice_keepsBounds (h : popNoticeAnswer s = .taken t) : KeepsBounds s t := by
  unfold popNoticeAnswer at h
  split at h
  · nomatch h
  · next r rest hnotices =>
    cases h
    refine .of_places (Nat.add_le_add_right ?_ _) rfl
    rw [hnotices]
    exact Nat.le_succ _

/-- The commands that leave notices and parameters: POP_COMPLETION, the two of the census and ACCEPT_ROSTER. -/
theorem boundsStand_of_taken
    (h : popCompletionAnswer s = .taken t ∨ startCensusAnswer s = .taken t ∨ abortCensusAnswer s = .taken t
      ∨ acceptRosterAnswer s = .taken t) : BoundsStand s t := by
  rcases h with h | h | h | h
  · unfold popCompletionAnswer at h
    split at h <;> cases h
    exact ⟨rfl, rfl, rfl⟩
  · unfold startCensusAnswer at h
    split at h <;> cases h
    exact startCensus_boundsStand s
  · unfold abortCensusAnswer at h
    split at h <;> cases h
    exact ⟨rfl, rfl, rfl⟩
  · unfold acceptRosterAnswer at h
    split at h <;> cases h <;> exact ⟨rfl, rfl, rfl⟩

/-- SOFT_RESET empties the notice unit and keeps the parameters (R154, R173). -/
theorem softReset_keepsBounds (s : State) : KeepsBounds s (softReset s) := by
  rw [softReset_eq]
  exact .of_places (Nat.zero_le _) rfl

theorem commandAnswer_keepsBounds {code : Byte} (h : commandAnswer code s = .taken t) : KeepsBounds s t := by
  unfold commandAnswer at h
  split at h
  · exact (submit_boundsStand h).keeps
  · exact (cancel_boundsStand h).keeps
  · exact (boundsStand_of_taken (.inl h)).keeps
  · exact popNotice_keepsBounds h
  · exact (boundsStand_of_taken (.inr (.inl h))).keeps
  · exact (boundsStand_of_taken (.inr (.inr (.inl h)))).keeps
  · exact (boundsStand_of_taken (.inr (.inr (.inr h)))).keeps
  · cases h
    exact BoundsStand.keeps ⟨rfl, rfl, rfl⟩
  · cases h
    exact softReset_keepsBounds s
  · nomatch h

theorem writeCmd_keepsBounds (code : Byte) (s : State) : KeepsBounds s (writeCmd code s) := by
  unfold writeCmd answerCommand
  split
  · next htaken => exact (commandAnswer_keepsBounds htaken).then_stand ⟨rfl, rfl, rfl⟩
  · exact BoundsStand.keeps ⟨rfl, rfl, rfl⟩

theorem writeMirrorCtrl_boundsStand (code : Byte) (s : State) : BoundsStand s (writeMirrorCtrl code s) :=
  (BoundsStand.of_settling (setStatus_touches _ _ s)).trans ⟨rfl, rfl, rfl⟩

theorem ite_keepsBounds {c : Prop} [Decidable c] (h : KeepsBounds s t) (k : KeepsBounds s u) :
    KeepsBounds s (if c then t else u) := iteInduction (fun _ => h) (fun _ => k)

/-- A byte written to any register, in the order `writeRegister` looks for them (R170). -/
theorem writeRegister_keepsBounds (a : RegAddr) (v : Byte) (s : State) : KeepsBounds s (writeRegister a v s) := by
  have hkept {r : State} (h : BoundsStand s r) : KeepsBounds s r := h.keeps
  unfold writeRegister
  refine ite_keepsBounds (writeCmd_keepsBounds v s) ?_
  iterate 4 refine ite_keepsBounds (hkept ⟨rfl, rfl, rfl⟩) ?_
  refine ite_keepsBounds (writeControl_keepsBounds v s) ?_
  refine ite_keepsBounds (hkept ⟨rfl, rfl, rfl⟩) ?_
  refine ite_keepsBounds (writeReplyBaseHigh_keepsBounds v s) ?_
  iterate 2 refine ite_keepsBounds (hkept ⟨rfl, rfl, rfl⟩) ?_
  exact ite_keepsBounds (hkept (writeMirrorCtrl_boundsStand v s)) (writeStored_keepsBounds a v s)

/-! ## The statement -/

theorem hostWrite_keepsBounds {a : RegAddr} {f : State → State} (hf : KeepsBounds s (f s)) :
    KeepsBounds s (hostWrite a f s) := by
  rcases hostWrite_cases a f s with ⟨-, heq⟩ | heq
  · rw [heq]
    exact hf.then_stand ⟨rfl, rfl, rfl⟩
  · rw [heq]
    exact .refl s

theorem hostRead_boundsStand {a : RegAddr} {f : State → State} (hf : BoundsStand s (f s)) :
    BoundsStand s (hostRead a f s) := by
  rcases hostRead_cases a f s with ⟨-, heq⟩ | heq
  · rw [heq]
    exact hf.trans ⟨rfl, rfl, rfl⟩
  · rw [heq]
    exact .refl s

theorem outsideReset_keepsBounds {f : State → State} (hf : KeepsBounds s (f s)) :
    KeepsBounds s (outsideReset f s) := ite_keepsBounds (.refl s) hf

theorem event_keepsBounds {c : State → Bool} {f : State → State} (hf : KeepsBounds s (f s)) :
    KeepsBounds s (outsideReset (onlyIf c f) s) := outsideReset_keepsBounds (ite_keepsBounds hf (.refl s))

theorem hardwareReset_keepsBounds (s : State) : KeepsBounds s (hardwareReset s) := by
  obtain ⟨hnotices, -, -, hparams, -⟩ := reset_laws
  exact ⟨fun _ => hnotices, fun _ => hparams⟩

/-- Every command keeps Law 5 and the parameters in their ranges. -/
theorem exec_keepsBounds (c : Instr) (hexec : exec c s = .next t) : KeepsBounds s t := by
  have hcode {f : State → State} (code : Byte) (hf : f s = writeCmd code s) :
      KeepsBounds s (hostWrite Reg.cmd f s) := hostWrite_keepsBounds (hf ▸ writeCmd_keepsBounds code s)
  have hkept {a : RegAddr} {f : State → State} (hf : BoundsStand s (f s)) : KeepsBounds s (hostWrite a f s) :=
    hostWrite_keepsBounds hf.keeps
  have hread {a : RegAddr} {f : State → State} (hf : BoundsStand s (f s)) : KeepsBounds s (hostRead a f s) :=
    (hostRead_boundsStand hf).keeps
  have hcontrol (v : Byte) : KeepsBounds s (hostWrite Reg.control (writeControl v) s) :=
    hostWrite_keepsBounds (writeControl_keepsBounds v s)
  have hmirror (v : Byte) : KeepsBounds s (hostWrite Reg.mirrorCtrl (writeMirrorCtrl v) s) :=
    hkept (writeMirrorCtrl_boundsStand v s)
  have hquiet {k : State → Bool} {f : State → State} (hf : BoundsStand s (f s)) :
      KeepsBounds s (outsideReset (onlyIf k f) s) := event_keepsBounds hf.keeps
  cases c <;> cases hexec
  case submit => exact hcode 0x01 rfl
  case cancel => exact hcode 0x02 rfl
  case popCompletion => exact hcode 0x03 rfl
  case popNotice => exact hcode 0x04 rfl
  case startCensus => exact hcode 0x10 rfl
  case abortCensus => exact hcode 0x11 rfl
  case acceptRoster => exact hcode 0x12 rfl
  case clearAllChanged => exact hcode 0x20 rfl
  case softReset => exact hcode 0x5A rfl
  case unknownCommand code => exact hcode code rfl
  case setWatch => exact hmirror 1
  case clearWatch => exact hmirror 2
  case clearChanged => exact hmirror 3
  case mirrorCtrlUndefinedAction code => exact hmirror code
  case rosterSelWrite v => exact hkept ⟨rfl, rfl, rfl⟩
  case mirrorSelWrite v => exact hkept ⟨rfl, rfl, rfl⟩
  case causeClear w v => exact hkept ⟨rfl, rfl, rfl⟩
  case enableWrite w v => exact hkept ⟨rfl, rfl, rfl⟩
  case portEnableSet q v => exact hcontrol v
  case portEnableClear q v => exact hcontrol v
  case sweepEnableOn v => exact hcontrol v
  case sweepEnableOff v => exact hcontrol v
  case replyBaseLowWrite v => exact hkept ⟨rfl, rfl, rfl⟩
  case replyBaseHighWrite v => exact hostWrite_keepsBounds (writeReplyBaseHigh_keepsBounds v s)
  case registerWrite a v => exact hostWrite_keepsBounds (writeRegister_keepsBounds a v s)
  case counterRead q k => exact hread ⟨rfl, rfl, rfl⟩
  case timeoutsLowRead q => exact hread ⟨rfl, rfl, rfl⟩
  case msecTimerLowRead => exact hread ⟨rfl, rfl, rfl⟩
  case dupNoticesRead => exact hread ⟨rfl, rfl, rfl⟩
  case csnFall =>
    unfold csnFalls
    split
    · split <;> exact BoundsStand.keeps ⟨rfl, rfl, rfl⟩
    · exact .refl s
  case headerComplete v => exact hquiet ⟨rfl, rfl, rfl⟩
  case csnRise =>
    unfold csnRises
    split
    · exact .refl s
    · split <;> exact BoundsStand.keeps ⟨rfl, rfl, rfl⟩
  case resetnLow => exact (hardwareReset_keepsBounds s).then_stand ⟨rfl, rfl, rfl⟩
  case resetnHigh => exact ite_keepsBounds (hardwareReset_keepsBounds s) (.refl s)
  case signalDetected q => exact hquiet ⟨rfl, rfl, rfl⟩
  case idleRunComplete q =>
    refine outsideReset_keepsBounds ?_
    unfold onlyIf
    split
    · next halign =>
      rw [completeRun_aligning q s (eq_of_beq halign)]
      exact BoundsStand.keeps ⟨rfl, rfl, rfl⟩
    · exact .refl s
  case aligningSignalLoss q => exact hquiet ⟨rfl, rfl, rfl⟩
  case signalAbsent q => exact event_keepsBounds (loseSignal_keepsBounds q s)
  case signalReturn q => exact hquiet ⟨rfl, rfl, rfl⟩
  case signalLossTimerExpiry q => exact event_keepsBounds (leaveUp_keepsBounds q _ s)
  case arbiterHand q => exact event_keepsBounds (arbitrate_keepsBounds q s)
  case frameSent q => exact outsideReset_keepsBounds (finishSending_keepsBounds q s)
  case replyWindowExpiry q => exact outsideReset_keepsBounds (windowRunsOut_keepsBounds q s)
  case frameReceived q r => exact event_keepsBounds (endReception_keepsBounds q r s)
  case lateFrame q r => exact event_keepsBounds (endReception_keepsBounds q r s)
  case censusClear => exact event_keepsBounds (makeClear_keepsBounds s)
  case releaseSettleExpiry => exact hquiet (endSettle_boundsStand s)
  case censusStop => exact outsideReset_keepsBounds (makeStop_boundsStand s).keeps
  case backoffExpiry v => exact hquiet ⟨rfl, rfl, rfl⟩
  case msecTick => exact outsideReset_keepsBounds (BoundsStand.keeps ⟨rfl, rfl, rfl⟩)
  case probingBegin q => exact hquiet (.of_settling (startProbing_touches q s))
  case startDelimiterReceived q => exact event_keepsBounds (startFrame_keepsBounds q s)
  case idleRunReset q => exact hquiet ⟨rfl, rfl, rfl⟩

/-- A step with no command waiting leaves notices and parameters (logs 1, 5, 24). -/
theorem idleStep_boundsStand (s : State) : BoundsStand s (idleSymbols (plainReadByte s)) := by
  have hread : BoundsStand s (plainReadByte s) := by
    rcases plainReadByte_cases s with heq | heq <;> rw [heq] <;> exact ⟨rfl, rfl, rfl⟩
  unfold idleSymbols outsideReset
  split
  · exact hread
  · exact hread.trans ((hearIdle_boundsStand .a _).trans (hearIdle_boundsStand .b _))

/-- Settles O52: places are taken only where one is left and parameters stored only in their ranges, whatever the
command, and a step without one leaves both. -/
theorem stepKeepsNoticeAndParamsLaws : Obligations.StepKeepsNoticeAndParamsLaws := by
  unfold Obligations.StepKeepsNoticeAndParamsLaws
  intro s t hstep
  have hkeeps : KeepsBounds s t := by
    unfold step at hstep
    split at hstep
    · cases hstep
      exact (idleStep_boundsStand s).keeps
    · exact (exec_keepsBounds _ hstep).after ⟨rfl, rfl, rfl⟩
  exact ⟨hkeeps.notices, hkeeps.params⟩

end Sys2Proof.Proofs
end

section
/-! The pins of the host port: RESETn and what a command does in reset, CSn and SDO in an SPI transaction, and IRQn with
the cause and enable registers behind it (R169, R177 to R180). -/

namespace Sys2Proof.Proofs

-- one theorem after the other: many proofs elaborated at once ask for a stack each
set_option Elab.async false

open Sys2Proof.Machine Sys2Proof.Safety

variable {s : State}

/-! ## The part in reset (R180) -/

theorem hostWrite_inReset (h : s.inReset = true) (a : RegAddr) (f : State → State) : hostWrite a f s = s := by
  have hat : ¬s.writeAt a = true := by simp [State.writeAt, h]
  exact if_neg hat

theorem hostRead_inReset (h : s.inReset = true) (a : RegAddr) (f : State → State) : hostRead a f s = s := by
  have hat : ¬s.readAt a = true := by simp [State.readAt, State.readOpen, h]
  exact if_neg hat

theorem outsideReset_inReset (h : s.inReset = true) (f : State → State) : outsideReset f s = s := if_pos h

/-- In reset a write, a read or an event leaves the state; only RESETn and CSn act (log 9). -/
theorem exec_inReset (h : s.inReset = true) (c : Instr) (hlow : c ≠ .resetnLow) (hhigh : c ≠ .resetnHigh)
    (hfall : c ≠ .csnFall) (hrise : c ≠ .csnRise) : exec c s = .next s := by
  cases c
  case resetnLow => exact absurd rfl hlow
  case resetnHigh => exact absurd rfl hhigh
  case csnFall => exact absurd rfl hfall
  case csnRise => exact absurd rfl hrise
  case counterRead | timeoutsLowRead | msecTimerLowRead | dupNoticesRead =>
    exact congrArg Host.Outcome.next (hostRead_inReset h _ _)
  case headerComplete | signalDetected | idleRunComplete | aligningSignalLoss | signalAbsent | signalReturn
      | signalLossTimerExpiry | arbiterHand | frameSent | replyWindowExpiry | frameReceived | lateFrame
      | censusClear | releaseSettleExpiry | censusStop | backoffExpiry | msecTick | probingBegin
      | startDelimiterReceived | idleRunReset =>
    exact congrArg Host.Outcome.next (outsideReset_inReset h _)
  all_goals exact congrArg Host.Outcome.next (hostWrite_inReset h _ _)

/-- Settles O27: RESETn low and high by their definitions, every other command by `exec_inReset`. -/
theorem resetPinRestoresReset : Obligations.ResetPinRestoresReset := by
  unfold Obligations.ResetPinRestoresReset
  intro s
  refine ⟨rfl, fun hreset => ⟨congrArg Host.Outcome.next (if_pos hreset), exec_inReset hreset⟩⟩

/-! ## An SPI transaction (R169) -/

/-- In IDLE outside reset a falling CSn starts a transaction. -/
theorem csnFalls_idle (hreset : s.inReset = false) (hhigh : s.csnHigh = true) (hspi : s.spi = .idle) :
    csnFalls s = { s with csnHigh := false, spi := .header } := by
  have hstarts : s.transactionStarts = true := by simp [State.transactionStarts, hreset, hspi]
  rw [csnFalls, if_pos hhigh, if_pos hstarts]

/-- Outside reset a rising CSn ends the transaction. -/
theorem csnRises_outsideReset (hreset : s.inReset = false) (hlow : s.csnHigh = false) :
    csnRises s = { s with csnHigh := true, spi := .idle } := by
  rw [csnRises, if_neg (by simp [hlow]), if_neg (by simp [hreset])]

theorem exec_headerComplete (hreset : s.inReset = false) (hspi : s.spi = .header) (h : BitVec 16) :
    exec (.headerComplete h) s = .next (takeHeader h s) :=
  congrArg Host.Outcome.next (event_acts hreset (by simp [hspi]))

theorem sdo_released (h : s.inReset = true ∨ s.csnHigh = true) : s.sdo = .highZ := if_pos (by simpa using h)

/-- With CSn low SDO carries zeros in the header and in a write. -/
theorem sdo_zeros (hreset : s.inReset = false) (hlow : s.csnHigh = false)
    (hspi : s.spi = .header ∨ s.spi = .data false) : s.sdo = .byte 0 := by
  rcases hspi with hspi | hspi <;> simp [State.sdo, hreset, hlow, hspi]

/-- With CSn low SDO carries the byte last taken in a read. -/
theorem sdo_read (hreset : s.inReset = false) (hlow : s.csnHigh = false) (hspi : s.spi = .data true) :
    s.sdo = .byte s.sdoByte := by
  simp [State.sdo, hreset, hlow, hspi]

/-- Settles O26: each edge of CSn and the header by its condition, SDO by the state of the transaction. -/
theorem spiTransactionRuns : Obligations.SpiTransactionRuns := by
  unfold Obligations.SpiTransactionRuns
  intro s h
  refine ⟨fun hreset => ⟨fun hhigh hspi => ?_, fun hspi => exec_headerComplete hreset hspi h, fun hlow => ?_,
    sdo_zeros hreset, sdo_read hreset⟩, sdo_released⟩
  · exact congrArg Host.Outcome.next (csnFalls_idle hreset hhigh hspi)
  · exact congrArg Host.Outcome.next (csnRises_outsideReset hreset hlow)

/-! ## Causes and enables (R177 to R179) -/

/-- A write of a cause register takes the bits of the sticky causes written 1 from that cause byte (R178). -/
theorem causeByte_writeCause (w : CauseByte) (v : Byte) (s : State) :
    (writeCause w v s).causeByte w = s.causeByte w &&& ~~~(v &&& stickyMask w) := by
  cases w
  all_goals
    refine byte_ext ?_ ?_ ?_ ?_ ?_ ?_ ?_ ?_
    all_goals simp [writeCause, StickyBits.clearBy, State.causeByte, stickyMask, State.completionReady,
      State.noticePending, State.changeSetNonempty, -BitVec.getLsbD_eq_getElem]

theorem causeByte_writeCause_other (w : CauseByte) (v : Byte) (s : State) :
    (writeCause w v s).causeByte (otherByte w) = s.causeByte (otherByte w) := by
  cases w <;> rfl

/-- A write of an enable register stores the bits at the places of causes (R179, R182). -/
theorem enables_byte_write (e : EnableBits) (w : CauseByte) (v : Byte) : (e.write w v).byte w = v &&& causeMask w := by
  cases w
  all_goals
    refine byte_ext ?_ ?_ ?_ ?_ ?_ ?_ ?_ ?_
    all_goals simp [EnableBits.write, EnableBits.byte, causeMask, -BitVec.getLsbD_eq_getElem]

theorem enables_byte_write_other (e : EnableBits) (w : CauseByte) (v : Byte) :
    (e.write w v).byte (otherByte w) = e.byte (otherByte w) := by
  cases w <;> rfl

/-- Settles O17: the written byte's bits one by one; the other byte is made of other fields. -/
theorem causeAndEnableWrites : Obligations.CauseAndEnableWrites := by
  unfold Obligations.CauseAndEnableWrites
  intro s w v
  refine ⟨fun hat => ⟨_, exec_causeClear hat, rfl, causeByte_writeCause w v s, causeByte_writeCause_other w v s⟩,
    fun hat => ⟨_, exec_enableWrite hat, rfl, enables_byte_write s.enables w v,
      enables_byte_write_other s.enables w v, fun c => ?_⟩⟩
  cases c <;> rfl

/-- A byte made from its bits is not 0 exactly when one of them is set. -/
theorem byteOfBits_ne_zero (b0 b1 b2 b3 b4 b5 b6 b7 : Bool) :
    byteOfBits b0 b1 b2 b3 b4 b5 b6 b7 ≠ 0 ↔ (b0 || b1 || b2 || b3 || b4 || b5 || b6 || b7) = true := by
  revert b0 b1 b2 b3 b4 b5 b6 b7
  decide +kernel

/-- GROUP_SUMMARY shows a flag exactly when some group has an active cause. -/
theorem groupSummary_ne_zero (s : State) :
    s.groupSummary ≠ 0 ↔
      (s.groupTraffic || s.groupNotice || s.groupMirror || s.groupChain || s.groupCensus) = true := by
  rw [State.groupSummary, byteOfBits_ne_zero]
  simp only [Bool.or_false]

/-- The groups hold the eleven causes, each pending with its enable on: eight of CAUSE0, three of CAUSE1 (R177). -/
theorem groups_iff_activeCauses (s : State) :
    (s.groupTraffic || s.groupNotice || s.groupMirror || s.groupChain || s.groupCensus) = true ↔
      s.causeByte .zero &&& s.enables.byte .zero ≠ 0 ∨ s.causeByte .one &&& s.enables.byte .one ≠ 0 := by
  simp only [State.causeByte, EnableBits.byte, byteOfBits_and, byteOfBits_ne_zero, Bool.and_self, Bool.or_false]
  simp only [State.groupTraffic, State.groupNotice, State.groupMirror, State.groupChain, State.groupCensus,
    Bool.or_eq_true, or_assoc]

theorem irqLow_outsideReset (h : s.inReset = false) :
    s.irqLow = (s.groupTraffic || s.groupNotice || s.groupMirror || s.groupChain || s.groupCensus) := by
  rw [State.irqLow, h, Bool.not_false, Bool.true_and]

/-- Settles O18: IRQn follows the groups, which hold the active causes and make up GROUP_SUMMARY. -/
theorem irqFollowsActiveCauses : Obligations.IrqFollowsActiveCauses := by
  unfold Obligations.IrqFollowsActiveCauses
  refine fun s => ⟨fun hreset => ?_, fun hreset => by simp [State.irqLow, hreset]⟩
  rw [irqLow_outsideReset hreset]
  exact ⟨groups_iff_activeCauses s, (groupSummary_ne_zero s).symm⟩

end Sys2Proof.Proofs
end

section
/-! Writes at the host port that act on nothing but a register: the addresses that ignore a byte, and the parameters with
their ranges; and the events, which leave all of these alone (R170, R171, R174, R175, R182). -/

namespace Sys2Proof.Proofs

-- one theorem after the other: many proofs elaborated at once ask for a stack each
set_option Elab.async false

open Sys2Proof.Machine Sys2Proof.Safety

variable {s : State} {a : RegAddr} {v : Byte}

/-! ## Bytes that are stored, and bytes that are ignored (R170, R174, R175, R182) -/

/-- The addresses where a write byte does more than being stored: CMD, causes, enables, CONTROL, REPLY_BASE, the selects
and MIRROR_CTRL (section 11.3). -/
abbrev ActingRegister (n : Nat) : Prop :=
  n = 0x0008 ∨ (0x0010 ≤ n ∧ n ≤ 0x0013) ∨ (0x0020 ≤ n ∧ n ≤ 0x0022) ∨ n = 0x0100 ∨ n = 0x0140 ∨ n = 0x0141

/-- The addresses that store a parameter: the one-byte parameters and EXPECTED_FP. -/
abbrev ParamRegister (n : Nat) : Prop := (0x0023 ≤ n ∧ n ≤ 0x0029) ∨ (0x002C ≤ n ∧ n ≤ 0x002F)

/-- The addresses of the mailbox: its four single registers and MBX_DATA. -/
abbrev MailboxRegister (n : Nat) : Prop := (0x0080 ≤ n ∧ n ≤ 0x0083) ∨ (0x00A0 ≤ n ∧ n ≤ 0x00BF)

/-- An address outside a group of registers is none of the group. -/
theorem ne_of_not_toNat {P : Nat → Prop} (h : ¬P a.toNat) (c : RegAddr) (hc : P c.toNat) : a ≠ c :=
  fun heq => h (heq ▸ hc)

theorem writeRegister_eq_writeStored (h : ¬ActingRegister a.toNat) (v : Byte) (s : State) :
    writeRegister a v s = writeStored a v s := by
  unfold writeRegister
  iterate 11 rw [if_neg (ne_of_not_toNat h _ (by decide))]

theorem params_write_elsewhere (h : ¬ParamRegister a.toNat) (q : Params) (v : Byte) : q.write a v = q := by
  unfold Params.write
  simp only
  iterate 11 rw [if_neg (ne_of_not_toNat h _ (by decide))]

theorem mailbox_write_none (h : ¬MailboxRegister a.toNat) (m : Mailbox) (v : Byte) : m.write a v = m := by
  have hindex : mbxDataIndex a = none := dif_neg fun ⟨hlow, hhigh⟩ => by
    change 0x00A0 ≤ a.toNat at hlow
    change a.toNat - 0x00A0 < 32 at hhigh
    omega
  unfold Mailbox.write
  iterate 4 rw [if_neg (ne_of_not_toNat h _ (by decide))]
  rw [hindex]

/-- Where no register stores a byte, a write byte moves the address counter and does nothing else. -/
theorem exec_registerWrite_ignored (hacting : ¬ActingRegister a.toNat) (hparam : ¬ParamRegister a.toNat)
    (hmailbox : ¬MailboxRegister a.toNat) (htag : a.toNat ≠ 0x000B) (v : Byte) (hat : WritingAt s a) :
    exec (.registerWrite a v) s = .next { s with addrCounter := a + 1 } := by
  have hcancel : a ≠ Reg.cancelTag := fun heq => htag (congrArg BitVec.toNat heq)
  rw [exec_registerWrite hat, writeRegister_eq_writeStored hacting, writeStored, params_write_elsewhere hparam,
    mailbox_write_none hmailbox, if_neg hcancel]
  rfl

/-- Settles O23: the addresses named are those of no register that acts on a byte or stores it. -/
theorem readOnlyWritesIgnored : Obligations.ReadOnlyWritesIgnored := by
  unfold Obligations.ReadOnlyWritesIgnored
  intro s a v hat haddr
  exact exec_registerWrite_ignored (by omega) (by omega) (by omega) (by omega) v hat

/-! ## Parameters (R171, R174, R175) -/

/-- A byte written to a parameter's register changes the parameters alone. -/
theorem exec_registerWrite_param {q : Params} (h : ParamRegister a.toNat) (hq : s.params.write a v = q)
    (hat : WritingAt s a) : exec (.registerWrite a v) s = .next { s with addrCounter := a + 1, params := q } := by
  have hcancel : a ≠ Reg.cancelTag := by
    rintro rfl
    exact absurd h (by decide)
  rw [exec_registerWrite hat, writeRegister_eq_writeStored (by omega), writeStored, hq, mailbox_write_none (by omega),
    if_neg hcancel]
  rfl

/-- A value kept inside a range is the middle one of it and the two ends. -/
theorem clamp_eq {lo hi : Nat} (h : lo ≤ hi) (v : Nat) : clamp lo hi v = max lo (min v hi) := by
  unfold clamp
  split_ifs <;> omega

/-- The range 1..255 of a byte has no high end to keep. -/
theorem clamp_byte (v : Byte) : clamp 1 255 v.toNat = max v.toNat 1 := by
  have hbyte := v.isLt
  rw [clamp_eq (by decide)]
  omega

/-- REPLY_BASE as the hold and the high byte give it is the 16-bit value inside its range (R175). -/
theorem replyBaseStored_eq (hold high : Byte) :
    replyBaseStored hold high = storedReplyBase (high.toNat * 256 + hold.toNat) := by
  have hword : (high ++ hold : BitVec 16).toNat = high.toNat * 256 + hold.toNat := by
    rw [BitVec.toNat_append, ← Nat.shiftLeft_add_eq_or_of_lt hold.isLt, Nat.shiftLeft_eq]
  unfold replyBaseStored storedReplyBase clamp
  simp only [hword]
  split_ifs <;> omega

theorem exec_replyBaseHighWrite_eq (v : Byte) (hat : WritingAt s 0x0022) :
    exec (.replyBaseHighWrite v) s = .next { s with
      addrCounter := 0x0023
      params := { s.params with replyBase := storedReplyBase (v.toNat * 256 + s.replyBaseHold.toNat) } } := by
  rw [exec_replyBaseHighWrite hat, writeReplyBaseHigh, replyBaseStored_eq]
  rfl

/-- The bits 4 to 7 of CONTROL are of no parameter (section 11.3). -/
theorem controlByte_unassigned (s : State) {i : Nat} (h : 4 ≤ i) : s.controlByte.getLsbD i = false := by
  unfold State.controlByte
  match i with
  | 4 => exact byteOfBits_bit4 ..
  | 5 => exact byteOfBits_bit5 ..
  | 6 => exact byteOfBits_bit6 ..
  | 7 => exact byteOfBits_bit7 ..
  | n + 8 => exact BitVec.getLsbD_of_ge _ _ (Nat.le_add_left 8 n)

/-- Settles O21: each register shows its parameter, and each write stores what its range leaves of the byte. -/
theorem parameterWritesClamped : Obligations.ParameterWritesClamped := by
  unfold Obligations.ParameterWritesClamped
  intro s v
  have hmin (hi : Nat) : clamp 0 hi v.toNat = min v.toNat hi := (clamp_eq (Nat.zero_le hi) _).trans (Nat.zero_max _)
  have hmax : clamp 1 255 v.toNat = max v.toNat 1 := clamp_byte v
  have hboth : clamp 1 15 v.toNat = max 1 (min v.toNat 15) := clamp_eq (by decide) _
  refine ⟨⟨rfl, rfl, rfl, rfl, rfl, rfl, rfl, rfl, rfl, fun i => controlByte_unassigned s⟩,
    exec_replyBaseLowWrite, exec_replyBaseHighWrite_eq v, exec_registerWrite_param (by decide) ?_,
    exec_registerWrite_param (by decide) ?_, exec_registerWrite_param (by decide) ?_,
    exec_registerWrite_param (by decide) ?_, exec_registerWrite_param (by decide) ?_,
    exec_registerWrite_param (by decide) ?_, exec_registerWrite_param (by decide) ?_⟩
  · exact congrArg (fun n => { s.params with hopAllow := n }) (hmin 63)
  · exact congrArg (fun n => { s.params with retryLimit := n }) (hmin 7)
  · exact congrArg (fun n => { s.params with busyLimit := n }) (hmin 15)
  · exact congrArg (fun n => { s.params with busyBackoff := n }) hmax
  · exact congrArg (fun n => { s.params with faultLimit := n }) hboth
  · exact congrArg (fun n => { s.params with sweepPeriod := n }) hmax
  · exact congrArg (fun n => { s.params with staleLimit := n }) hboth

/-! ## Events (R170, R174) -/

theorem outsideReset_touches {f : State → State} (hf : TouchesBlocks s (f s)) :
    TouchesBlocks s (outsideReset f s) := iteInduction (fun _ => .refl s) (fun _ => hf)

/-- An event touches the blocks only, if its effect does where it can happen. -/
theorem event_touches {k : State → Bool} {f : State → State} (hf : k s = true → TouchesBlocks s (f s)) :
    TouchesBlocks s (outsideReset (onlyIf k f) s) :=
  outsideReset_touches (iteInduction hf (fun _ => .refl s))

theorem moveLink_touches (p : Port) (l : LinkState) (s : State) : TouchesBlocks s (moveLink p l s) :=
  (setPort_touches _ _ _).toBlocks

/-- IDLE_RUN_COMPLETE in ALIGNING takes the port to UP. -/
theorem completeRun_touches (p : Port) (h : s.linkIs p .aligning = true) : TouchesBlocks s (completeRun p s) := by
  rw [completeRun_aligning p s (eq_of_beq h)]
  exact (enterUp_touches p s).toBlocks

/-- Settles O59: what each event does where it can happen touches the blocks only. -/
theorem eventsLeaveHostRegisters : Obligations.EventsLeaveHostRegisters := by
  unfold Obligations.EventsLeaveHostRegisters
  intro c s t p r tag hevent hexec
  cases c <;> cases hexec
  case signalDetected q => exact event_touches fun _ => moveLink_touches q _ s
  case idleRunComplete q => exact event_touches (completeRun_touches q)
  case aligningSignalLoss q => exact event_touches fun _ => moveLink_touches q _ s
  case signalAbsent q => exact event_touches fun _ => (loseSignal_touches q s).toBlocks
  case signalReturn q => exact event_touches fun _ => (setPort_touches q _ s).toBlocks
  case signalLossTimerExpiry q => exact event_touches fun _ => leaveUp_touches q _ s
  case arbiterHand q => exact event_touches fun _ => arbitrate_touches q s
  case frameSent q => exact outsideReset_touches (finishSending_touches q s).toBlocks
  case replyWindowExpiry q => exact outsideReset_touches (windowRunsOut_touches q s).toBlocks
  case frameReceived q e => exact event_touches fun _ => (endReception_touches q e s).toBlocks
  case lateFrame q e => exact event_touches fun _ => (endReception_touches q e s).toBlocks
  case censusClear => exact event_touches fun _ => makeClear_touches s
  case releaseSettleExpiry => exact event_touches fun _ => (endSettle_touches s).toBlocks
  case censusStop => exact outsideReset_touches (makeStop_touches s).toBlocks
  case backoffExpiry v => exact event_touches fun _ => rfl
  case msecTick => exact outsideReset_touches rfl
  case probingBegin q => exact event_touches fun _ => (startProbing_touches q s).toOutcome.toBlocks
  case startDelimiterReceived q => exact event_touches fun _ => (startFrame_touches q s).toBlocks
  case idleRunReset q => exact event_touches fun _ => moveLink_touches q _ s
  all_goals simp at hevent

end Sys2Proof.Proofs
end

section
/-! The queue of commands: what a byte written to a register, a read and a pin leave of it, and that every command
answers a next state (R169, R170, R172, R180, logs 1, 3). -/

namespace Sys2Proof.Proofs

open Sys2Proof.Machine Sys2Proof.Safety

variable {s t u : State}

/-! ## Commands of CMD (R172) -/

theorem takeSlot_pending (v : Tag) (s : State) : (takeSlot v s).pending = s.pending := by
  rcases takeSlot_cases v s with heq | ⟨st, heq⟩
  · rw [heq]
    rfl
  · rw [heq, (finish_touches _ _ _).pending]
    rfl

theorem submit_pending (h : submitAnswer s = .taken t) : t.pending = s.pending := by
  unfold submitAnswer at h
  split at h
  · rw [← Answer.taken.inj h, (settle_touches _).pending, takeSlot_pending]
  · rw [← Answer.taken.inj h]

theorem cancelSlot_pending {v : Tag} (h : cancelSlot v s = .taken t) : t.pending = s.pending := by
  unfold cancelSlot at h
  split at h
  · rw [← Answer.taken.inj h, (settle_touches _).pending, (finish_touches _ _ _).pending]
  · rw [← Answer.taken.inj h, (settle_touches _).pending, (finish_touches _ _ _).pending]
  · split at h
    · rw [← Answer.taken.inj h, (settle_touches _).pending, (cancelActive_touches _ _).pending]
    · rw [← Answer.taken.inj h, (cancelActive_touches _ _).pending]
  · nomatch h
  · nomatch h

theorem cancel_pending (h : cancelAnswer s = .taken t) : t.pending = s.pending := by
  unfold cancelAnswer at h
  split at h
  · exact cancelSlot_pending h
  · nomatch h

/-- The pops, ABORT_CENSUS and ACCEPT_ROSTER write their own registers or blocks only. -/
theorem pending_of_taken
    (h : popCompletionAnswer s = .taken t ∨ popNoticeAnswer s = .taken t ∨ abortCensusAnswer s = .taken t
      ∨ acceptRosterAnswer s = .taken t) : t.pending = s.pending := by
  rcases h with h | h | h | h
  · unfold popCompletionAnswer at h
    split at h <;> cases h
    rfl
  · unfold popNoticeAnswer at h
    split at h <;> cases h
    rfl
  · unfold abortCensusAnswer at h
    split at h <;> cases h
    rfl
  · unfold acceptRosterAnswer at h
    split at h <;> cases h <;> rfl

theorem startCensusAnswer_pending (h : startCensusAnswer s = .taken t) : t.pending = s.pending := by
  unfold startCensusAnswer at h
  split at h <;> cases h
  exact (startCensus_touches s).pending

/-- No command of CMD, SOFT_RESET included, reaches the queue. -/
theorem commandAnswer_pending {code : Byte} (h : commandAnswer code s = .taken t) : t.pending = s.pending := by
  unfold commandAnswer at h
  split at h
  · exact submit_pending h
  · exact cancel_pending h
  · exact pending_of_taken (.inl h)
  · exact pending_of_taken (.inr (.inl h))
  · exact startCensusAnswer_pending h
  · exact pending_of_taken (.inr (.inr (.inl h)))
  · exact pending_of_taken (.inr (.inr (.inr h)))
  · cases h
    rfl
  · cases h
    show (softReset s).pending = s.pending
    rw [softReset_eq]
  · nomatch h

theorem writeCmd_pending (code : Byte) (s : State) : (writeCmd code s).pending = s.pending := by
  unfold writeCmd answerCommand
  split
  · next r htaken =>
    show r.pending = s.pending
    exact commandAnswer_pending htaken
  · rfl

/-! ## Register writes (R170) -/

theorem writeControl_pending (v : Byte) (s : State) : (writeControl v s).pending = s.pending := by
  have hport (q : Port) (on : Bool) (r : State) : (writePortEnable q on r).pending = r.pending := by
    cases on
    · exact (disablePort_touches q r).pending
    · exact (enablePort_touches q r).pending
  exact (hport .b _ _).trans (hport .a _ _)

theorem writeMirrorCtrl_pending (v : Byte) (s : State) : (writeMirrorCtrl v s).pending = s.pending :=
  State.setStatus_pending s _ _

theorem ite_pending {c : Prop} [Decidable c] (h : t.pending = s.pending) (k : u.pending = s.pending) :
    (if c then t else u).pending = s.pending :=
  iteInduction (motive := fun r : State => r.pending = s.pending) (fun _ => h) (fun _ => k)

/-- Of the registers, in the order `writeRegister` looks for them, only CMD, CONTROL and MIRROR_CTRL do more than to
store a byte or take a snapshot. -/
theorem writeRegister_pending (a : RegAddr) (v : Byte) (s : State) :
    (writeRegister a v s).pending = s.pending := by
  unfold writeRegister
  refine ite_pending (writeCmd_pending v s) ?_
  iterate 4 refine ite_pending rfl ?_
  refine ite_pending (writeControl_pending v s) ?_
  iterate 4 refine ite_pending rfl ?_
  exact ite_pending (writeMirrorCtrl_pending v s) rfl

/-! ## The host port (R169, R170) -/

theorem hostWrite_pending {a : RegAddr} {f : State → State} (hf : (f s).pending = s.pending) :
    (hostWrite a f s).pending = s.pending := ite_pending hf rfl

theorem hostRead_pending {a : RegAddr} {f : State → State} (hf : (f s).pending = s.pending) :
    (hostRead a f s).pending = s.pending := ite_pending hf rfl

theorem takeHeader_pending (v : BitVec 16) (s : State) :
    (outsideReset (onlyIf (fun r => r.spi == .header) (takeHeader v)) s).pending = s.pending :=
  ite_pending rfl (ite_pending rfl rfl)

theorem csnFalls_pending (s : State) : (csnFalls s).pending = s.pending := ite_pending (ite_pending rfl rfl) rfl

theorem csnRises_pending (s : State) : (csnRises s).pending = s.pending := ite_pending rfl (ite_pending rfl rfl)

/-- RESETn returning high: the queue is not among the blocks that reset (R180, log 1). -/
theorem leaveReset_pending (s : State) : (leaveReset s).pending = s.pending := ite_pending rfl rfl

/-! ## Every command -/

/-- Every arm of `exec` is a next state (log 3). -/
theorem exec_completes (c : Instr) (s : State) : ∃ t, exec c s = .next t := by
  cases c <;> exact ⟨_, rfl⟩

/-- A host command writes registers and blocks beside the queue, a pin those of the host port, and an event touches
the blocks only. -/
theorem exec_pending (c : Instr) (hexec : exec c s = .next t) : t.pending = s.pending := by
  have hcode {f : State → State} (code : Byte) (hf : f s = writeCmd code s) :
      (hostWrite Reg.cmd f s).pending = s.pending := hostWrite_pending (hf ▸ writeCmd_pending code s)
  have hevent := eventsLeaveHostRegisters
  cases c
  case signalDetected p | idleRunComplete p | aligningSignalLoss p | signalAbsent p | signalReturn p
      | signalLossTimerExpiry p | arbiterHand p | frameSent p | replyWindowExpiry p | probingBegin p
      | startDelimiterReceived p | idleRunReset p =>
    exact (hevent _ s t p .symbolError 0 (by simp) hexec).pending
  case frameReceived p r | lateFrame p r => exact (hevent _ s t p r 0 (by simp) hexec).pending
  case backoffExpiry v => exact (hevent _ s t .a .symbolError v (by simp) hexec).pending
  case censusClear | releaseSettleExpiry | censusStop | msecTick =>
    exact (hevent _ s t .a .symbolError 0 (by simp) hexec).pending
  all_goals cases hexec
  case submit => exact hcode 0x01 rfl
  case cancel => exact hcode 0x02 rfl
  case popCompletion => exact hcode 0x03 rfl
  case popNotice => exact hcode 0x04 rfl
  case startCensus => exact hcode 0x10 rfl
  case abortCensus => exact hcode 0x11 rfl
  case acceptRoster => exact hcode 0x12 rfl
  case clearAllChanged => exact hcode 0x20 rfl
  case softReset => exact hcode 0x5A rfl
  case unknownCommand code => exact hcode code rfl
  case setWatch | clearWatch | clearChanged | mirrorCtrlUndefinedAction =>
    exact hostWrite_pending (writeMirrorCtrl_pending _ s)
  case rosterSelWrite | mirrorSelWrite | causeClear | enableWrite | replyBaseLowWrite | replyBaseHighWrite =>
    exact hostWrite_pending rfl
  case portEnableSet | portEnableClear | sweepEnableOn | sweepEnableOff =>
    exact hostWrite_pending (writeControl_pending _ s)
  case registerWrite a v => exact hostWrite_pending (writeRegister_pending a v s)
  case counterRead | timeoutsLowRead | msecTimerLowRead | dupNoticesRead => exact hostRead_pending rfl
  case csnFall => exact csnFalls_pending s
  case headerComplete v => exact takeHeader_pending v s
  case csnRise => exact csnRises_pending s
  case resetnLow => rfl
  case resetnHigh => exact leaveReset_pending s

/-- Settles O2: `exec` answers a next state for every command, and none reaches the queue. -/
theorem everyCommandCompletes : Obligations.EveryCommandCompletes := by
  unfold Obligations.EveryCommandCompletes
  intro c s
  obtain ⟨t, hexec⟩ := exec_completes c s
  exact ⟨t, hexec, exec_pending c hexec⟩

end Sys2Proof.Proofs
end
